-- ==== Sys2Proof/Word.lean ====
section
/-! DEFINITION. The words a partner sees on a wire: bytes and the parameter words of a console message (R200). -/

namespace Sys2Proof

/-- One byte of a bus frame, a console message or a level sample (R200). -/
abbrev Byte := BitVec 8

/-- A two-byte console parameter: a cue id, a pass number, an advance (R200). -/
abbrev Half := BitVec 16

/-- A four-byte console parameter: a picture position (R200). -/
abbrev Quad := BitVec 32

end Sys2Proof
end

