-- ==== Sys2Proof/Config.lean ====
section
/-! DEFINITION. The fixed numbers of 00_scope.md ("Fixed numbers") and of the rules that state them. The spec leaves no result value open, so the model has no free value. -/

namespace Sys2Proof.Config

/-- Subframes to a frame (00_scope.md, Picture position notation). -/
abbrev subframes : Nat := 120

/-- The cue table holds at most 256 records (R76). -/
abbrev cueCapacity : Nat := 256

/-- The plan holds at most 64 steps (R88). -/
abbrev planCapacity : Nat := 64

/-- The take log holds at most 16 records (R172). -/
abbrev takeCapacity : Nat := 16

/-- The notice queue holds at most 16 notices (R191). -/
abbrev noticeCapacity : Nat := 16

/-- The transmit queue holds at most 8 entries (R35). -/
abbrev queueCapacity : Nat := 8

/-- The pending list holds at most 32 frames (R47). -/
abbrev pendingCapacity : Nat := 32

/-- The message of a transfer keeps at most 32 bytes (R187). -/
abbrev messageCapacity : Nat := 32

/-- A pulse of REF is qualified when its level holds for 2 µs, here in nanoseconds (R1). -/
abbrev qualifyNs : Nat := 2000

/-- The longest period the unit measures, in timebase counts (R3). -/
abbrev longestPeriod : Nat := 16777215

/-- Consecutive agreeing periods that make LOCKED (R5). -/
abbrev lockPeriods : Nat := 8

/-- Recessive bits that make the line idle (R23). -/
abbrev idleBits : Nat := 10

/-- Bit times a BUS_ECHO test waits for idle before one frame (R43). -/
abbrev lineTestWait : Nat := 1000

/-- Dominant bits of an abort (R23, R31). -/
abbrev abortBits : Nat := 8

/-- Bits of an overlay word (R202). -/
abbrev overlayBits : Nat := 65

end Sys2Proof.Config
end

