-- ==== Sys2Proof/Syntax.lean ====
section
/-! DEFINITION. The commands of the block: `Instr`, one constructor per row of spec/opcode_table.json, and `Command`, the commands of the console catalogue (R189) as a message carries them. Operands that travel on a wire are the words of the wire; operands that are moments or runs of bits are numbers and lists. -/

namespace Sys2Proof

/-- The fields of one configuration record as CONFIGURE carries them (R193, R204). `other` is a record code that is none of the five (R194). -/
inductive ConfigRecord where
  | timing (frameRate refDiv refSource busRate : Byte)
  | station (address beaconInterval holdLease closureGrace settle slipTolerance : Byte)
  | outputs (advOverlay advPip advPunchIn advPunchOut overlayWidth pipLength : Half) (flashLength accentLast : Byte)
  | cueDefaults (lead beeps spacing : Byte) (preroll postroll : Half) (handleIn handleOut : Byte)
  | onset (armLevel triggerLevel : Byte) (levelDelay : Half) (onsetEarly : Byte)
  | other (code : Byte)
  deriving DecidableEq, Repr

/-- The 22 parameter bytes of LOAD CUE as fields (R204): the presence byte and the options byte are kept whole. -/
structure CueArgs where
  id : Half
  s : Quad
  e : Quad
  lead : Byte
  beeps : Byte
  spacing : Byte
  preroll : Half
  postroll : Half
  handleIn : Byte
  handleOut : Byte
  tag : Byte
  presence : Byte
  options : Byte
  deriving DecidableEq, Repr

/-- The selector of READ CUE (R81, R204). -/
inductive CueSelector where
  | byId (id : Half)
  | byIndex (index : Byte)
  | other (selector : Byte)
  deriving DecidableEq, Repr

/-- The step of PLAN STEP (R88, R204). `other` is a step kind that is neither CUE nor BLOCK. -/
inductive StepArgs where
  | cue (first : Half) (run passes mode : Byte)
  | block (span repeats : Byte)
  | other (kind : Byte)
  deriving DecidableEq, Repr

/-- The parameters of SET MARK (R182). -/
structure MarkArgs where
  number : Byte
  low : Quad
  high : Quad
  condition : Byte
  count : Byte
  action : Byte
  rearm : Byte
  deriving DecidableEq, Repr

/-- The commands of the console catalogue (R189). -/
inductive Command where
  | configure (r : ConfigRecord)
  | start
  | reset (kind : Byte)
  | readStatus (section_ index : Byte)
  | readNotice
  | lineTest (mode count : Byte)
  | loadCue (a : CueArgs)
  | deleteCue (id : Half)
  | clearCues
  | readCue (sel : CueSelector)
  | planClear
  | planStep (st : StepArgs)
  | planRun
  | planSkip
  | planAbort
  | go
  | transportLocate (target : Quad) (rate thenPlay : Byte)
  | transportPlay (rate : Byte)
  | transportStop
  | hold
  | release
  | readPeers (address : Byte)
  | readTake (part remove : Byte)
  | setMark (a : MarkArgs)
  | clearMark (number : Byte)
  | step (count : Byte)
  deriving DecidableEq, Repr

/-- A transition of REF (R1). -/
inductive RefTransition where
  | rise
  | fall
  deriving DecidableEq, Repr

/-- A pulse of the level port: LVSYNC raised, or a rising edge of LVCLK with the level of LVDAT (R163, R202). -/
inductive LevelPulse where
  | sync
  | clock (bit : Bool)
  deriving DecidableEq, Repr

/-- The commands of the block, one constructor per row of spec/opcode_table.json. On the line a bit `false` is dominant and `true` recessive (R22); a `line` operand holds the bits read on the line since the last bus event, oldest first. -/
inductive Instr where
  /-- TRANSFER, R187: the bytes taken in on SDI between the fall and the rise of CSN. -/
  | transfer (message : List Byte)
  /-- CONFIGURE, R194. -/
  | configure (r : ConfigRecord)
  /-- START, R196. -/
  | start
  /-- RESET_FULL, R197: the RESET FULL command. -/
  | resetFull
  /-- RESET_REJOIN, R198: the RESET REJOIN command. -/
  | resetRejoin
  /-- READ_STATUS, R199. -/
  | readStatus (section_ index : Byte)
  /-- READ_NOTICE, R192. -/
  | readNotice
  /-- LINE_TEST, R41. -/
  | lineTest (mode count : Byte)
  /-- LOAD_CUE, R77. -/
  | loadCue (a : CueArgs)
  /-- DELETE_CUE, R79. -/
  | deleteCue (id : Half)
  /-- CLEAR_CUES, R80. -/
  | clearCues
  /-- READ_CUE, R81. -/
  | readCue (sel : CueSelector)
  /-- PLAN_CLEAR, R89. -/
  | planClear
  /-- PLAN_STEP, R88. -/
  | planStep (st : StepArgs)
  /-- PLAN_RUN, R91. -/
  | planRun
  /-- PLAN_SKIP, R100. -/
  | planSkip
  /-- PLAN_ABORT, R101. -/
  | planAbort
  /-- GO, R124. -/
  | go
  /-- TRANSPORT_LOCATE, R67. -/
  | transportLocate (target : Quad) (rate thenPlay : Byte)
  /-- TRANSPORT_PLAY, R68. -/
  | transportPlay (rate : Byte)
  /-- TRANSPORT_STOP, R68. -/
  | transportStop
  /-- HOLD, R69. -/
  | hold
  /-- RELEASE, R69. -/
  | release
  /-- READ_PEERS, R70. -/
  | readPeers (address : Byte)
  /-- READ_TAKE, R174. -/
  | readTake (part remove : Byte)
  /-- SET_MARK, R182. -/
  | setMark (a : MarkArgs)
  /-- CLEAR_MARK, R182. -/
  | clearMark (number : Byte)
  /-- STEP, R184. -/
  | step (count : Byte)
  /-- STEPPED_EDGE, R12. -/
  | steppedEdge
  /-- POWER_ON, R197. -/
  | powerOn
  /-- RESETN, R197: RESETN goes low. -/
  | resetn
  /-- RESETN_RELEASE, R197: RESETN rises. -/
  | resetnRelease
  /-- REF_PULSE, R1: a transition of REF, the nanoseconds its level then holds, and its instant in timebase counts. -/
  | refPulse (transition : RefTransition) (heldNs : Nat) (instant : Nat)
  /-- WATCHDOG_EXPIRY, R3. -/
  | watchdogExpiry
  /-- SYNTHESISED_EDGE, R9. -/
  | synthesisedEdge
  /-- TICK, R11. -/
  | tick
  /-- HOLD_EXPIRED, R57: the address whose lease runs out. -/
  | holdExpired (address : Nat)
  /-- PEER_LOST, R61: the address of the peer that times out. -/
  | peerLost (address : Nat)
  /-- SETTLE_END, R53. -/
  | settleEnd
  /-- BEACON_DUE, R63. -/
  | beaconDue
  /-- LINK_ACTIVE, R38. -/
  | linkActive
  /-- TRANSMIT_START, R30. -/
  | transmitStart (line : List Bool)
  /-- ARBITRATION_LOSS, R32. -/
  | arbitrationLoss (line : List Bool)
  /-- BIT_ERROR, R31. -/
  | bitError (line : List Bool)
  /-- FRAME_COMPLETE, R28. -/
  | frameComplete (line : List Bool)
  /-- FRAME_DISCARD, R27. -/
  | frameDiscard (line : List Bool)
  /-- LINE_TEST_FRAME, R42. -/
  | lineTestFrame (line : List Bool)
  /-- LINE_BUSY, R43. -/
  | lineBusy (line : List Bool)
  /-- CLOSURE_OFFER, R121. -/
  | closureOffer
  /-- OVSYNC, R160. -/
  | ovsync
  /-- LEVEL_SAMPLE, R163. -/
  | levelSample (pulses : List LevelPulse)
  /-- MARK_FIRED, R180: the number of the mark. -/
  | markFired (number : Nat)
  /-- OVCLK, R160. -/
  | ovclk
  deriving DecidableEq, Repr

/-- The console command that an instruction sends, for the rows that are console commands (R189). -/
def Instr.command : Instr → Option Command
  | .configure r => some (.configure r)
  | .start => some .start
  | .resetFull => some (.reset 0)
  | .resetRejoin => some (.reset 1)
  | .readStatus sec i => some (.readStatus sec i)
  | .readNotice => some .readNotice
  | .lineTest m c => some (.lineTest m c)
  | .loadCue a => some (.loadCue a)
  | .deleteCue id => some (.deleteCue id)
  | .clearCues => some .clearCues
  | .readCue sel => some (.readCue sel)
  | .planClear => some .planClear
  | .planStep st => some (.planStep st)
  | .planRun => some .planRun
  | .planSkip => some .planSkip
  | .planAbort => some .planAbort
  | .go => some .go
  | .transportLocate t r p => some (.transportLocate t r p)
  | .transportPlay r => some (.transportPlay r)
  | .transportStop => some .transportStop
  | .hold => some .hold
  | .release => some .release
  | .readPeers a => some (.readPeers a)
  | .readTake p r => some (.readTake p r)
  | .setMark a => some (.setMark a)
  | .clearMark n => some (.clearMark n)
  | .step c => some (.step c)
  | .transfer _ => none
  | .steppedEdge => none
  | .powerOn => none
  | .resetn => none
  | .resetnRelease => none
  | .refPulse _ _ _ => none
  | .watchdogExpiry => none
  | .synthesisedEdge => none
  | .tick => none
  | .holdExpired _ => none
  | .peerLost _ => none
  | .settleEnd => none
  | .beaconDue => none
  | .linkActive => none
  | .transmitStart _ => none
  | .arbitrationLoss _ => none
  | .bitError _ => none
  | .frameComplete _ => none
  | .frameDiscard _ => none
  | .lineTestFrame _ => none
  | .lineBusy _ => none
  | .closureOffer => none
  | .ovsync => none
  | .levelSample _ => none
  | .markFired _ => none
  | .ovclk => none

end Sys2Proof
end

