-- ==== Sys2Proof/WellFormed.lean ====
section
/-! DEFINITION. Which commands are well formed: the operands whose type is wider than the range the spec gives them. A catch-all of a coded operand stands only for codes that are none of the named ones; an address is 1..30 and a mark number 1..4. The meanings are total and answer for ill-formed commands too. -/

namespace Sys2Proof

/-- A record code that is not one of the five (R194, R204). -/
def ConfigRecord.wf : ConfigRecord → Bool
  | .other c => decide (5 ≤ c.toNat)
  | _ => true

/-- A selector that is neither BY_ID nor BY_INDEX (R81, R204). -/
def CueSelector.wf : CueSelector → Bool
  | .other c => decide (2 ≤ c.toNat)
  | _ => true

/-- A step kind that is neither CUE nor BLOCK (R88, R204). -/
def StepArgs.wf : StepArgs → Bool
  | .other c => decide (2 ≤ c.toNat)
  | _ => true

/-- A console command whose catch-alls stand for unnamed codes only. -/
def Command.wf : Command → Bool
  | .configure r => r.wf
  | .readCue sel => sel.wf
  | .planStep st => st.wf
  | _ => true

/-- Station addresses are 1..30 (00_scope.md, Fixed numbers). -/
def addressInRange (a : Nat) : Bool := decide (1 ≤ a) && decide (a ≤ 30)

/-- Marks are numbered 1 to 4 (R178). -/
def markInRange (n : Nat) : Bool := decide (1 ≤ n) && decide (n ≤ 4)

/-- The commands of the block that are well formed. -/
def Instr.wf (i : Instr) : Bool :=
  match i.command with
  | some c => c.wf
  | none =>
    match i with
    | .holdExpired a => addressInRange a
    | .peerLost a => addressInRange a
    | .markFired n => markInRange n
    | _ => true

end Sys2Proof
end

