-- ==== Sys2Proof/Decode.lean ====
section
/-! DEFINITION. What words spell. The opcode table gives no row any bits, so no table word spells a command. The console messages are spelled by R203 and R204: `decodeMessage` reads a command from the bytes of a message as R188 judges its framing, and `encodeMessage` writes the message of a command. -/

namespace Sys2Proof

/-- The command a word spells by the table's bits: the table gives no row any bits, so none (98_reader.md counts no row with fixed bits). -/
def decodeTableWord (_nbits _w : Nat) : Option Instr := none

/-- Two bytes, most significant first (R200). -/
def halfOf (hi lo : Byte) : Half := hi ++ lo

/-- Four bytes, most significant first (R200). -/
def quadOf (a b c d : Byte) : Quad := a ++ b ++ c ++ d

/-- The two bytes of a word, most significant first (R200). -/
def halfBytes (x : Half) : List Byte := [x.extractLsb' 8 8, x.extractLsb' 0 8]

/-- The four bytes of a word, most significant first (R200). -/
def quadBytes (x : Quad) : List Byte :=
  [x.extractLsb' 24 8, x.extractLsb' 16 8, x.extractLsb' 8 8, x.extractLsb' 0 8]

/-- What the framing of a message says (R188, orders 1 and 2). -/
inductive Framing where
  | unknown
  | badLength
  | command (c : Command)
  deriving DecidableEq, Repr

/-- The parameters of CONFIGURE: the record code, then the fields of the record (R204). DESIGN CHOICE (log 14): an unknown code is framed with any length that some record carries. -/
def decodeConfigure : List Byte → Option ConfigRecord
  | [c, a, b, d, e] =>
    if c = 0 then some (.timing a b d e)
    else if 5 ≤ c.toNat then some (.other c) else none
  | [c, a, b, d, e, f] =>
    if c = 4 then some (.onset a b (halfOf d e) f)
    else if 5 ≤ c.toNat then some (.other c) else none
  | [c, a, b, d, e, f, g] =>
    if c = 1 then some (.station a b d e f g)
    else if 5 ≤ c.toNat then some (.other c) else none
  | [c, a, b, d, p1, p0, q1, q0, f, g] =>
    if c = 3 then some (.cueDefaults a b d (halfOf p1 p0) (halfOf q1 q0) f g)
    else if 5 ≤ c.toNat then some (.other c) else none
  | [c, a1, a0, b1, b0, d1, d0, e1, e0, w1, w0, p1, p0, f, g] =>
    if c = 2 then
      some (.outputs (halfOf a1 a0) (halfOf b1 b0) (halfOf d1 d0) (halfOf e1 e0) (halfOf w1 w0) (halfOf p1 p0) f g)
    else if 5 ≤ c.toNat then some (.other c) else none
  | _ => none

/-- The 22 parameter bytes of LOAD CUE (R204). -/
def decodeCue : List Byte → Option CueArgs
  | [i1, i0, s3, s2, s1, s0, e3, e2, e1, e0, lead, beeps, spacing, p1, p0, q1, q0, hin, hout, tag, pres, opt] =>
    some ⟨halfOf i1 i0, quadOf s3 s2 s1 s0, quadOf e3 e2 e1 e0, lead, beeps, spacing, halfOf p1 p0, halfOf q1 q0, hin, hout, tag, pres, opt⟩
  | _ => none

/-- The parameters of READ CUE (R204). DESIGN CHOICE (log 14) for an unknown selector. -/
def decodeSelector : List Byte → Option CueSelector
  | [k, i] => if k = 1 then some (.byIndex i) else if 2 ≤ k.toNat then some (.other k) else none
  | [k, i1, i0] => if k = 0 then some (.byId (halfOf i1 i0)) else if 2 ≤ k.toNat then some (.other k) else none
  | _ => none

/-- The parameters of PLAN STEP (R204). DESIGN CHOICE (log 14) for an unknown kind. -/
def decodeStep : List Byte → Option StepArgs
  | [k, a, b] => if k = 1 then some (.block a b) else if 2 ≤ k.toNat then some (.other k) else none
  | [k, i1, i0, run, passes, mode] =>
    if k = 0 then some (.cue (halfOf i1 i0) run passes mode) else if 2 ≤ k.toNat then some (.other k) else none
  | _ => none

/-- The parameters of SET MARK in catalogue order (R189, R200). -/
def decodeMark : List Byte → Option MarkArgs
  | [n, l3, l2, l1, l0, h3, h2, h1, h0, c, k, a, r] => some ⟨n, quadOf l3 l2 l1 l0, quadOf h3 h2 h1 h0, c, k, a, r⟩
  | _ => none

/-- A command of no parameters: its message carries length 0 (R188, R189). -/
def decodeNone (c : Command) : List Byte → Option Command
  | [] => some c
  | _ => none

/-- A command of one parameter byte. -/
def decodeOne (f : Byte → Command) : List Byte → Option Command
  | [a] => some (f a)
  | _ => none

/-- A command of two parameter bytes. -/
def decodeTwo (f : Byte → Byte → Command) : List Byte → Option Command
  | [a, b] => some (f a b)
  | _ => none

/-- DELETE CUE carries a cue id of two bytes (R79, R200). -/
def decodeDelete : List Byte → Option Command
  | [a, b] => some (.deleteCue (halfOf a b))
  | _ => none

/-- TRANSPORT LOCATE carries target, rate, then-play (R67, R189). -/
def decodeLocate : List Byte → Option Command
  | [a, b, c, d, r, p] => some (.transportLocate (quadOf a b c d) r p)
  | _ => none

/-- The catalogue of R189: for a code of the catalogue, how its parameters are read. -/
def catalogue (code : Nat) : Option (List Byte → Option Command) :=
  match code with
  | 1 => some fun ps => (decodeConfigure ps).map .configure
  | 2 => some (decodeNone .start)
  | 3 => some (decodeOne .reset)
  | 4 => some (decodeTwo .readStatus)
  | 5 => some (decodeNone .readNotice)
  | 6 => some (decodeTwo .lineTest)
  | 16 => some fun ps => (decodeCue ps).map .loadCue
  | 17 => some decodeDelete
  | 18 => some (decodeNone .clearCues)
  | 19 => some fun ps => (decodeSelector ps).map .readCue
  | 32 => some (decodeNone .planClear)
  | 33 => some fun ps => (decodeStep ps).map .planStep
  | 34 => some (decodeNone .planRun)
  | 35 => some (decodeNone .planSkip)
  | 36 => some (decodeNone .planAbort)
  | 40 => some (decodeNone .go)
  | 48 => some decodeLocate
  | 49 => some (decodeOne .transportPlay)
  | 50 => some (decodeNone .transportStop)
  | 51 => some (decodeNone .hold)
  | 52 => some (decodeNone .release)
  | 53 => some (decodeOne .readPeers)
  | 64 => some (decodeTwo .readTake)
  | 80 => some fun ps => (decodeMark ps).map .setMark
  | 81 => some (decodeOne .clearMark)
  | 82 => some (decodeOne .step)
  | _ => none

/-- The framing judgement of R188: the code, then the length byte and the bytes taken in; bytes beyond 2 + length are ignored. A message of fewer than 2 bytes is a poll (R187) and is not judged; here it counts as badly framed. -/
def decodeMessage : List Byte → Framing
  | code :: len :: rest =>
    match catalogue code.toNat with
    | none => .unknown
    | some read =>
      if 30 < len.toNat ∨ rest.length < len.toNat then .badLength
      else
        match read (rest.take len.toNat) with
        | some c => .command c
        | none => .badLength
  | _ => .badLength

/-- The command code of R189. -/
def Command.code : Command → Byte
  | .configure _ => 1
  | .start => 2
  | .reset _ => 3
  | .readStatus _ _ => 4
  | .readNotice => 5
  | .lineTest _ _ => 6
  | .loadCue _ => 16
  | .deleteCue _ => 17
  | .clearCues => 18
  | .readCue _ => 19
  | .planClear => 32
  | .planStep _ => 33
  | .planRun => 34
  | .planSkip => 35
  | .planAbort => 36
  | .go => 40
  | .transportLocate _ _ _ => 48
  | .transportPlay _ => 49
  | .transportStop => 50
  | .hold => 51
  | .release => 52
  | .readPeers _ => 53
  | .readTake _ _ => 64
  | .setMark _ => 80
  | .clearMark _ => 81
  | .step _ => 82

/-- The parameter bytes of CONFIGURE (R204). -/
def ConfigRecord.bytes : ConfigRecord → List Byte
  | .timing a b c d => [0, a, b, c, d]
  | .station a b c d e f => [1, a, b, c, d, e, f]
  | .outputs a b c d w p f g =>
    2 :: (halfBytes a ++ halfBytes b ++ halfBytes c ++ halfBytes d ++ halfBytes w ++ halfBytes p ++ [f, g])
  | .cueDefaults a b c p q f g => 3 :: ([a, b, c] ++ halfBytes p ++ halfBytes q ++ [f, g])
  | .onset a t d o => 4 :: ([a, t] ++ halfBytes d ++ [o])
  | .other c => [c, 0, 0, 0, 0]

/-- The parameter bytes of LOAD CUE (R204). -/
def CueArgs.bytes (a : CueArgs) : List Byte :=
  halfBytes a.id ++ quadBytes a.s ++ quadBytes a.e ++ [a.lead, a.beeps, a.spacing] ++ halfBytes a.preroll ++
    halfBytes a.postroll ++ [a.handleIn, a.handleOut, a.tag, a.presence, a.options]

/-- The parameter bytes of a command, in the order of its catalogue entry (R189, R200, R204). -/
def Command.params : Command → List Byte
  | .configure r => r.bytes
  | .start => []
  | .reset k => [k]
  | .readStatus sec i => [sec, i]
  | .readNotice => []
  | .lineTest m c => [m, c]
  | .loadCue a => a.bytes
  | .deleteCue id => halfBytes id
  | .clearCues => []
  | .readCue (.byId id) => 0 :: halfBytes id
  | .readCue (.byIndex i) => [1, i]
  | .readCue (.other k) => [k, 0]
  | .planClear => []
  | .planStep (.cue f r p m) => 0 :: (halfBytes f ++ [r, p, m])
  | .planStep (.block sp rp) => [1, sp, rp]
  | .planStep (.other k) => [k, 0, 0]
  | .planRun => []
  | .planSkip => []
  | .planAbort => []
  | .go => []
  | .transportLocate t r p => quadBytes t ++ [r, p]
  | .transportPlay r => [r]
  | .transportStop => []
  | .hold => []
  | .release => []
  | .readPeers a => [a]
  | .readTake p r => [p, r]
  | .setMark a => a.number :: (quadBytes a.low ++ quadBytes a.high ++ [a.condition, a.count, a.action, a.rearm])
  | .clearMark n => [n]
  | .step c => [c]

/-- The message of a command: code, length, parameters (R203). -/
def encodeMessage (c : Command) : List Byte :=
  c.code :: BitVec.ofNat 8 c.params.length :: c.params

end Sys2Proof
end

