-- ==== Sys2Proof/Machine/State.lean ====
section
/-! DEFINITION. The state of the block as plain data, one record per block of 00_scope.md's block diagram, the reasons a step can stop, and the state after a FULL reset. -/

namespace Sys2Proof.Machine

/-! ## Reference unit and position (chapter 1) -/

/-- Lock states (1.1.2). -/
inductive LockState where
  | noRef
  | acquiring
  | locked
  | holdover
  deriving DecidableEq, Repr

/-- The reference unit (table of 1.1). The timing origin is the tick origin of R8 and R11 as well: both are the last frame edge or absorbed edge. -/
structure RefUnit where
  lock : LockState
  dividerPhase : Fin 2
  timingOrigin : Option Nat
  heldPeriod : Option Nat
  lockCount : Nat
  tickNumber : Nat
  deriving DecidableEq, Repr

/-- The picture position (table of 1.2): positions in subframes, the accumulator in 120ths, the rate in subframes per frame edge. -/
structure Position where
  p : Nat
  pEdge : Nat
  pPrev : Nat
  acc : Nat
  rate : Nat
  deriving DecidableEq, Repr

/-! ## Named values -/

/-- Transport states (3.1). -/
inductive Transport where
  | stopped
  | cueing
  | rolling
  deriving DecidableEq, Repr

/-- Pass states (6.1). -/
inductive PassState where
  | idle
  | standby
  | inPass
  | cleared
  deriving DecidableEq, Repr

/-- The mode of one pass (R95). -/
inductive PassMode where
  | rehearse
  | record
  deriving DecidableEq, Repr

/-! ## Stage bus (chapter 2) -/

/-- Frame kinds (R24), in the order of their codes (R201). -/
inductive FrameKind where
  | anchor
  | locate
  | hold
  | release
  | window
  | done
  | beacon
  | test
  deriving DecidableEq, Repr

/-- A frame as the line carries it: source address, kind and payload bytes (2.2). The class follows from the kind (R24). -/
structure BusFrame where
  source : Nat
  kind : FrameKind
  payload : List Byte
  deriving DecidableEq, Repr

/-- Outcomes of a DONE (R107). -/
inductive DoneOutcome where
  | cleared
  | skipped
  | abandoned
  deriving DecidableEq, Repr

/-- The fields of a frame (R24, R201). A BEACON keeps its frame-rate code as carried, since an unknown code is compared too (R62, R200). -/
inductive Payload where
  | anchor (generation : Nat) (rolling : Bool) (rate position : Nat)
  | locate (generation : Nat) (closure thenPlay : Bool) (rate settle passNumber target : Nat)
  | hold (lease reason : Nat)
  | release
  | window (passNumber firstCue pIn pOut : Nat)
  | done (passNumber : Nat) (outcome : DoneOutcome) (more : Bool)
  | beacon (rateCode : Nat) (transport : Transport) (passState : PassState) (generation passNumber rate pEdge : Nat)
  | test (number : Nat)
  deriving DecidableEq, Repr

/-- A frame in the transmit queue: the fields fixed when it is offered. The generation of an ANCHOR or LOCATE (R54) and all fields of a BEACON (R63) are written at each attempt and are not held here. -/
inductive QueuedFrame where
  | anchor (rolling : Bool) (rate position : Nat)
  | locate (closure thenPlay : Bool) (rate settle passNumber target : Nat)
  | hold (lease reason : Nat)
  | release
  | window (passNumber firstCue pIn pOut : Nat)
  | done (passNumber : Nat) (outcome : DoneOutcome) (more : Bool)
  | beacon
  deriving DecidableEq, Repr

/-- An entry of the transmit queue (2.4). `fromMark` is the model's tag for an ANCHOR that the mark unit offered (R181, log 18). -/
structure TxEntry where
  frame : QueuedFrame
  retries : Nat
  onLine : Bool
  fromMark : Bool
  deriving DecidableEq, Repr

/-- A frame being taken in: the last bit read, the run of equal bits it ends (R25), the unstuffed bits after the start bit, newest first, and the end-field bits taken. -/
structure RxFrame where
  last : Bool
  run : Nat
  bits : List Bool
  endBits : Nat
  deriving DecidableEq, Repr

/-- The receiver's view of the line: the idle count of R23 and the frame being received. -/
structure Receiver where
  idle : Nat
  frame : Option RxFrame
  deriving DecidableEq, Repr

/-- Link states (2.5). -/
inductive LinkState where
  | off
  | listening
  | active
  | listenOnly
  | lineTest
  deriving DecidableEq, Repr

/-- Line test modes (R41). -/
inductive TestMode where
  | internal
  | busEcho
  deriving DecidableEq, Repr

/-- A line test in progress (R41 to R43): mode, frame count, number of the next frame, bad frames so far, and the bit times waited for idle before the next frame. -/
structure LineTest where
  mode : TestMode
  count : Nat
  next : Nat
  bad : Nat
  waited : Nat
  deriving DecidableEq, Repr

/-- Line test results (R44). -/
inductive TestResult where
  | none
  | running
  | pass
  | fail (bad : Nat)
  | lineBusy
  deriving DecidableEq, Repr

/-- The bus controller (R45). The queue is in admission order; `sending` is the frame on the line as its attempt wrote it, and `abort` the dominant bits of an abort that the transmitter has still to send (R23, R31). -/
structure BusCtl where
  link : LinkState
  listeningCount : Nat
  queue : List TxEntry
  sending : Option BusFrame
  rx : Receiver
  lineTest : Option LineTest
  testResult : TestResult
  abort : Nat
  deriving DecidableEq, Repr

/-! ## Agreement unit (chapter 3) -/

/-- The locate being settled (3.1). -/
structure LocateRec where
  target : Nat
  closure : Bool
  thenPlay : Bool
  deriving DecidableEq, Repr

/-- An entry of the pending list: a frame and its echo mark (R47). -/
structure HeardFrame where
  frame : BusFrame
  echo : Bool
  deriving DecidableEq, Repr

/-- An entry of the hold set; `fresh` marks an entry written at step 2 of the present edge (R55, R57). -/
structure HoldEntry where
  address : Nat
  lease : Nat
  reason : Nat
  fresh : Bool
  deriving DecidableEq, Repr

/-- The standing own-hold reasons (R58). -/
structure OwnReasons where
  console : Bool
  logFull : Bool
  mark : Bool
  deriving DecidableEq, Repr

/-- Presence states (3.7). -/
inductive Presence where
  | absent
  | present
  | mismatched
  deriving DecidableEq, Repr

/-- The last beacon of a peer (3.7), position and rate in range (R64). -/
structure LastBeacon where
  rateCode : Nat
  transport : Transport
  generation : Nat
  passNumber : Nat
  passState : PassState
  rate : Nat
  pEdge : Nat
  deriving DecidableEq, Repr

/-- A slot of the presence table (3.7). -/
structure PeerSlot where
  presence : Presence
  age : Nat
  lastBeacon : Option LastBeacon
  deriving DecidableEq, Repr

/-- Join states (R65). -/
inductive JoinState where
  | waiting
  | settled
  deriving DecidableEq, Repr

/-- The agreement unit (3.1). `settleFresh` marks a settle count written at step 2 of the present edge (R53), and `rollFresh` a ROLLING entered since the last edge advance, whose first advance is at the next edge (R20, R46, R49). Slot a − 1 of `peers` is address a. -/
structure Agreement where
  transport : Transport
  generation : Nat
  passNumber : Nat
  settle : Nat
  settleFresh : Bool
  rollFresh : Bool
  locate : Option LocateRec
  frames : List HeardFrame
  holds : List HoldEntry
  reasons : OwnReasons
  peers : Vector PeerSlot 30
  beaconCountdown : Nat
  join : JoinState
  deriving DecidableEq, Repr

/-! ## Cue store and plan unit (chapters 4 and 5) -/

/-- A cue record (4.1); an absent cueing field is `none` (R72). -/
structure CueRec where
  id : Nat
  s : Nat
  e : Nat
  lead : Option Nat
  beeps : Option Nat
  spacing : Option Nat
  preroll : Option Nat
  postroll : Option Nat
  handleIn : Option Nat
  handleOut : Option Nat
  tag : Nat
  noStreamer : Bool
  noFlash : Bool
  silentLast : Bool
  pinned : Bool
  deriving DecidableEq, Repr

/-- The mode of a CUE step (R86). -/
inductive StepMode where
  | rehearse
  | record
  | firstRehearse
  deriving DecidableEq, Repr

/-- A step of the plan (5.1). -/
inductive PlanStep where
  | cue (first run passes : Nat) (mode : StepMode)
  | block (span repeats : Nat)
  deriving DecidableEq, Repr

/-- An entry of the repeat stack (5.3). -/
structure StackEntry where
  first : Nat
  last : Nat
  remaining : Nat
  deriving DecidableEq, Repr

/-- The plan unit (5.3). The head of `stack` is its top. -/
structure PlanUnit where
  steps : List PlanStep
  cursor : Option Nat
  passesRemaining : Nat
  stack : List StackEntry
  deriving DecidableEq, Repr

/-! ## Pass controller (chapter 6) -/

/-- The plan outcome of a clearing (6.1). -/
inductive PlanOutcome where
  | more
  | none
  deriving DecidableEq, Repr

/-- The own window record (6.1). -/
structure OwnWindow where
  label : Nat
  stepIndex : Nat
  mode : PassMode
  set : List Nat
  firstCue : Nat
  pIn : Nat
  pOut : Nat
  deriving DecidableEq, Repr

/-- The status of a window entry (6.2). -/
inductive WindowStatus where
  | announced
  | cleared
  | skipped
  deriving DecidableEq, Repr

/-- An entry of the window table (6.2). -/
structure WindowEntry where
  address : Nat
  passNumber : Nat
  firstCue : Nat
  pIn : Nat
  pOut : Nat
  status : WindowStatus
  more : Option Bool
  deriving DecidableEq, Repr

/-- The pass controller (6.1). The window table is in ascending address order. -/
structure PassCtl where
  state : PassState
  outcome : Option PlanOutcome
  own : Option OwnWindow
  windows : List WindowEntry
  closureCount : Option Nat
  deriving DecidableEq, Repr

/-! ## Event scheduler and output units (chapters 7 and 8) -/

/-- Event kinds (7.1). -/
inductive EventKind where
  | streamerBegin
  | pipOn
  | pipOff
  | flashOn
  | flashOff
  | punchIn
  | punchOut
  | lineEnd
  deriving DecidableEq, Repr

/-- An event of the list (7.1). -/
structure Event where
  cue : Nat
  order : Nat
  kind : EventKind
  pip : Option Nat
  pos : Nat
  fire : Nat
  deriving DecidableEq, Repr

/-- The identity of an event (R126). -/
structure EventId where
  cue : Nat
  kind : EventKind
  pip : Option Nat
  deriving DecidableEq, Repr

/-- The held set (7.1). -/
structure HeldSet where
  cues : List Nat
  mode : PassMode
  deriving DecidableEq, Repr

/-- The event scheduler (7.1). -/
structure Scheduler where
  held : Option HeldSet
  events : List Event
  fired : List EventId
  advOverlay : Nat
  advPip : Nat
  advPunchIn : Nat
  advPunchOut : Nat
  deriving DecidableEq, Repr

/-- A held streamer lane (8.1): the cue, its begin position B and its line start S. -/
structure Lane where
  cue : Nat
  b : Nat
  s : Nat
  deriving DecidableEq, Repr

/-- The pitch of the pips (R153). -/
inductive Pitch where
  | normal
  | accent
  deriving DecidableEq, Repr

/-- The fields of a composed overlay word (R158). -/
structure OverlayWord where
  laneA : Nat
  laneB : Nat
  flash : Bool
  punchTally : Bool
  pipGate : Bool
  countdown : Nat
  label : Nat
  tag : Nat
  transport : Transport
  take : Nat
  deriving DecidableEq, Repr

/-- The shifter of the overlay port (R160): the word and the OVCLK edges it has seen. -/
inductive Shifter where
  | idle
  | shifting (word : OverlayWord) (clocked : Nat)
  deriving DecidableEq, Repr

/-- The output units (8.1). -/
structure OutputUnits where
  laneA : Option Lane
  laneB : Option Lane
  flashCount : Nat
  pipCount : Nat
  pitch : Pitch
  punchCount : Nat
  pipg : Bool
  pipp : Bool
  punch : Bool
  buffer : Option OverlayWord
  shifter : Shifter
  lastWord : Option OverlayWord
  deriving DecidableEq, Repr

/-! ## Onset detector and take log (chapter 9) -/

/-- Detector states (R166). -/
inductive DetectorState where
  | idle
  | waitingQuiet
  | armed
  deriving DecidableEq, Repr

/-- The onset detector and the level port (9.1, 9.2). `sample` holds the bits of a sample being taken in, newest first (R163). -/
structure OnsetUnit where
  detector : DetectorState
  openWindows : List Nat
  sample : Option (List Bool)
  deriving DecidableEq, Repr

/-- Take outcomes (9.4). -/
inductive TakeOutcome where
  | inProgress
  | complete
  | abandoned
  deriving DecidableEq, Repr

/-- The take flags (9.4). -/
structure TakeFlags where
  syncSuspect : Bool
  refUnstable : Bool
  rxOverrun : Bool
  lateEvents : Bool
  deriving DecidableEq, Repr

/-- A cue entry of a take record (9.4). -/
structure TakeCue where
  cue : Nat
  onset : Option Int
  overlap : Bool
  noOnset : Bool
  deriving DecidableEq, Repr

/-- A take record (9.4). -/
structure TakeRec where
  number : Nat
  passNumber : Nat
  stepIndex : Nat
  mode : PassMode
  outcome : TakeOutcome
  punchIn : Option Nat
  punchOut : Option Nat
  flags : TakeFlags
  cues : List TakeCue
  deriving DecidableEq, Repr

/-- The take log (9.5), oldest record first. -/
structure TakeLog where
  records : List TakeRec
  counter : Nat
  deriving DecidableEq, Repr

/-! ## Watch marks (chapter 10) -/

/-- The condition of a mark (R179). -/
inductive MarkCondition where
  | enter
  | leave
  deriving DecidableEq, Repr

/-- The action of a mark (R180). -/
inductive MarkAction where
  | notice
  | hold
  | stop
  deriving DecidableEq, Repr

/-- The re-arm mode of a mark (R180). -/
inductive MarkRearm where
  | once
  | repeating
  deriving DecidableEq, Repr

/-- A watch mark (10.1). -/
structure Mark where
  low : Nat
  high : Nat
  condition : MarkCondition
  count : Nat
  reload : Nat
  action : MarkAction
  rearm : MarkRearm
  armed : Bool
  deriving DecidableEq, Repr

/-! ## Console port (chapter 11) -/

/-- Frame rates (R193), in the order of their codes (R201). -/
inductive FrameRate where
  | f24
  | f25
  | f30
  | f48
  | f50
  | f60
  deriving DecidableEq, Repr

/-- Sources of frame edges (R1). -/
inductive RefSource where
  | inputRise
  | inputFall
  | step
  deriving DecidableEq, Repr

/-- Bus rates in kbit/s (R22). -/
inductive BusRate where
  | k250
  | k500
  | k1000
  deriving DecidableEq, Repr

/-- The TIMING record (R193). -/
structure TimingRec where
  frameRate : FrameRate
  refDiv : Nat
  refSource : RefSource
  busRate : BusRate
  deriving DecidableEq, Repr

/-- The STATION record (R193). -/
structure StationRec where
  address : Nat
  beaconInterval : Nat
  holdLease : Nat
  closureGrace : Nat
  settle : Nat
  slipTolerance : Nat
  deriving DecidableEq, Repr

/-- The OUTPUTS record (R193). -/
structure OutputsRec where
  advOverlay : Nat
  advPip : Nat
  advPunchIn : Nat
  advPunchOut : Nat
  overlayWidth : Nat
  pipLength : Nat
  flashLength : Nat
  accentLast : Bool
  deriving DecidableEq, Repr

/-- The CUE DEFAULTS record (R193). -/
structure DefaultsRec where
  lead : Nat
  beeps : Nat
  spacing : Nat
  preroll : Nat
  postroll : Nat
  handleIn : Nat
  handleOut : Nat
  deriving DecidableEq, Repr

/-- The ONSET record (R193, R195). -/
structure OnsetRec where
  armLevel : Nat
  triggerLevel : Nat
  levelDelay : Nat
  onsetEarly : Nat
  deriving DecidableEq, Repr

/-- The five configuration records, each held or not (11.1). -/
structure Conf where
  timing : Option TimingRec
  station : Option StationRec
  outputs : Option OutputsRec
  defaults : Option DefaultsRec
  onset : Option OnsetRec
  deriving DecidableEq, Repr

/-- Part states (11.1). -/
inductive PartState where
  | config
  | running
  deriving DecidableEq, Repr

/-- Notice kinds (R190), in the order of their codes from 1. -/
inductive NoticeKind where
  | passBegun
  | passCleared
  | passAbandoned
  | takeReady
  | takeSkipped
  | peerJoined
  | peerLost
  | peerMismatch
  | slip
  | refLocked
  | refLost
  | holdExpired
  | markFired
  | planSkip
  | planEnd
  | addressClash
  | txOverflow
  | rxOverrun
  | linkFault
  deriving DecidableEq, Repr

/-- A notice (R190). -/
structure Notice where
  kind : NoticeKind
  detail : Nat
  deriving DecidableEq, Repr

/-- Status codes (R188), in the order of their codes from 0. -/
inductive Status where
  | ok
  | okClamped
  | busy
  | order
  | range
  | full
  | exists_
  | absent
  | state
  | queueFull
  | unknown
  | none
  deriving DecidableEq, Repr

/-- The summary of READ PEERS (R70). -/
structure PeersSummary where
  transport : Transport
  pEdge : Nat
  rate : Nat
  generation : Nat
  passNumber : Nat
  settle : Nat
  reasons : OwnReasons
  join : JoinState
  present : List Nat
  mismatched : List Nat
  holding : List Nat
  deriving DecidableEq, Repr

/-- The data of an answer, by its named fields. -/
inductive Reply where
  /-- No data. -/
  | empty
  /-- READ NOTICE (R192): the notice, the notices left, the overflow flag before the removal. -/
  | notice (n : Notice) (left : Nat) (overflow : Bool)
  /-- PLAN STEP (R88): the index of the new step. -/
  | stepIndex (index : Nat)
  /-- PLAN RUN and PLAN SKIP (R91, R100): step index, mode, cue ids. -/
  | planSet (index : Nat) (mode : PassMode) (cues : List Nat)
  /-- STEP (R184): edges delivered, transport, p_edge. -/
  | stepped (edges : Nat) (transport : Transport) (pEdge : Nat)
  /-- A number of entries: READ TAKE NONE (R174), WINDOW ENTRY ABSENT (R199). -/
  | count (n : Nat)
  /-- READ CUE ABSENT (R81): the number of records in the table. -/
  | cueCount (n : Nat)
  /-- READ CUE (R81): number of records, index, the record as stored. -/
  | cue (records index : Nat) (cue : CueRec)
  /-- READ TAKE HEAD (R175): records before any removal, and the record. -/
  | takeHead (records : Nat) (take : TakeRec)
  /-- READ TAKE CUES_LOW and CUES_HIGH (R175): records before any removal, take number, the entries of the part. -/
  | takeCues (records number : Nat) (cues : List TakeCue)
  /-- READ PEERS, address 0 (R70). -/
  | peers (summary : PeersSummary)
  /-- READ PEERS, one address (R70): its slot, and its hold entry as lease and reason or absent. -/
  | peer (slot : PeerSlot) (hold : Option (Nat × Nat))
  /-- READ STATUS PORT (R199). -/
  | port (part : PartState) (held notices : Nat) (overflow : Bool) (test : TestResult) (link : LinkState) (listening queued : Nat)
  /-- READ STATUS REFERENCE (R13). -/
  | reference (lock : LockState) (count : Nat) (period : Option Nat)
  /-- READ STATUS PLAN (R102); the stack bottom first. -/
  | plan (steps : Nat) (cursor : Option Nat) (remaining : Nat) (stack : List StackEntry)
  /-- READ STATUS PASS (R125, R199); the own window record is read without its set. -/
  | pass (state : PassState) (outcome : Option PlanOutcome) (closure : Option Nat) (windows : Nat) (own : Option OwnWindow)
  /-- READ STATUS OWN SET (R199). -/
  | ownSet (cues : List Nat)
  /-- READ STATUS WINDOW ENTRY (R125). -/
  | windowEntry (entry : WindowEntry)
  /-- READ STATUS SCHEDULER (R145). -/
  | scheduler (events : Nat) (head : Option Event) (held armed : Bool) (advOverlay advPip advPunchIn advPunchOut : Nat)
  /-- READ STATUS OUTPUTS (R161): for each held lane its cue and its column at the last composition. -/
  | outputs (laneA laneB : Option (Nat × Nat)) (flash pip punchCount : Nat) (pitch : Pitch) (pipg pipp punch buffered shifting : Bool)
  /-- READ STATUS LAST WORD (R199). -/
  | lastWord (word : Option OverlayWord)
  /-- READ STATUS TAKES (R176). -/
  | takes (records : Nat) (inProgress : Option Nat) (counter : Nat) (logFull : Bool) (detector : DetectorState) (windows : List Nat)
  /-- READ STATUS MARK (R183). -/
  | mark (m : Mark) (stopFlag : Bool)
  deriving DecidableEq, Repr

/-- A response: status code and data (11.1). -/
structure Response where
  status : Status
  data : Reply
  deriving DecidableEq, Repr

/-- A STEP command in progress: the edges asked and the edges left (R184). -/
structure StepRun where
  asked : Nat
  left : Nat
  deriving DecidableEq, Repr

/-- The console port (11.1). The port is BUSY exactly while `stepRun` is present. `sdo` records the bytes shifted out in the last transfer (R187). -/
structure Port where
  part : PartState
  stepRun : Option StepRun
  response : Option Response
  notices : List Notice
  overflow : Bool
  sdo : List Byte
  deriving DecidableEq, Repr

/-! ## The whole block -/

/-- The state of the block: one field per block, the level of RESETN, and the queue of waiting commands. -/
structure State where
  port : Port
  conf : Conf
  ref : RefUnit
  posn : Position
  bus : BusCtl
  agr : Agreement
  cues : List CueRec
  plan : PlanUnit
  pass : PassCtl
  sched : Scheduler
  out : OutputUnits
  onset : OnsetUnit
  log : TakeLog
  marks : Vector Mark 4
  resetnLow : Bool
  pending : List Instr
  deriving DecidableEq, Repr

/-- Why a step faults. The spec gives the device no fault that stops it: every refusal is an answer and every bus error a discard, a retry or a notice (R27, R31, R36, R188). `unreachable` is raised by no command; it stands here so that the type has a name to give. Safe. -/
inductive Fault where
  /-- Raised by nobody. Safe. -/
  | unreachable
  deriving DecidableEq, Repr

/-- Why a step is refused. -/
inductive Refusal where
  /-- Raised by `exec` for a row that has no meaning yet; no row is in that case. Safe: the model stops. -/
  | notModelled (mnemonic : String)
  deriving DecidableEq, Repr

/-! ## Replacing one block's state -/

/-- The state with `port` replaced. -/
def State.setPort (s : State) (x : Port) : State := { s with port := x }

/-- The state with `conf` replaced. -/
def State.setConf (s : State) (x : Conf) : State := { s with conf := x }

/-- The state with `ref` replaced. -/
def State.setRef (s : State) (x : RefUnit) : State := { s with ref := x }

/-- The state with `posn` replaced. -/
def State.setPosn (s : State) (x : Position) : State := { s with posn := x }

/-- The state with `bus` replaced. -/
def State.setBus (s : State) (x : BusCtl) : State := { s with bus := x }

/-- The state with `agr` replaced. -/
def State.setAgr (s : State) (x : Agreement) : State := { s with agr := x }

/-- The state with `cues` replaced. -/
def State.setCues (s : State) (x : List CueRec) : State := { s with cues := x }

/-- The state with `plan` replaced. -/
def State.setPlan (s : State) (x : PlanUnit) : State := { s with plan := x }

/-- The state with `pass` replaced. -/
def State.setPass (s : State) (x : PassCtl) : State := { s with pass := x }

/-- The state with `sched` replaced. -/
def State.setSched (s : State) (x : Scheduler) : State := { s with sched := x }

/-- The state with `out` replaced. -/
def State.setOut (s : State) (x : OutputUnits) : State := { s with out := x }

/-- The state with `onset` replaced. -/
def State.setOnset (s : State) (x : OnsetUnit) : State := { s with onset := x }

/-- The state with `log` replaced. -/
def State.setLog (s : State) (x : TakeLog) : State := { s with log := x }

/-- The state with `marks` replaced. -/
def State.setMarks (s : State) (x : Vector Mark 4) : State := { s with marks := x }

/-- The state with `resetnLow` replaced. -/
def State.setResetnLow (s : State) (x : Bool) : State := { s with resetnLow := x }

/-- The state with `pending` replaced. -/
def State.setPending (s : State) (x : List Instr) : State := { s with pending := x }

/-! ## Values after a FULL reset -/

/-- R14. -/
def RefUnit.reset : RefUnit := ⟨.noRef, 0, none, none, 0, 0⟩

/-- R21. -/
def Position.reset : Position := ⟨0, 0, 0, 0, 120⟩

/-- R45 (idle count 0, no frame being received). -/
def Receiver.reset : Receiver := ⟨0, none⟩

/-- R45. -/
def BusCtl.reset : BusCtl := ⟨.off, 0, [], none, Receiver.reset, none, .none, 0⟩

/-- R71: every slot ABSENT, age 0, no beacon record. -/
def PeerSlot.reset : PeerSlot := ⟨.absent, 0, none⟩

/-- R71. -/
def Agreement.reset : Agreement :=
  ⟨.stopped, 0, 0, 0, false, false, none, [], [], ⟨false, false, false⟩, Vector.replicate 30 PeerSlot.reset, 0, .waiting⟩

/-- R103. -/
def PlanUnit.reset : PlanUnit := ⟨[], none, 0, []⟩

/-- R125. -/
def PassCtl.reset : PassCtl := ⟨.idle, none, none, [], none⟩

/-- R146. -/
def Scheduler.reset : Scheduler := ⟨none, [], [], 0, 0, 0, 0⟩

/-- R162. -/
def OutputUnits.reset : OutputUnits := ⟨none, none, 0, 0, .normal, 0, false, false, false, none, .idle, none⟩

/-- R177. -/
def OnsetUnit.reset : OnsetUnit := ⟨.idle, [], none⟩

/-- R177. -/
def TakeLog.reset : TakeLog := ⟨[], 0⟩

/-- R183. -/
def Mark.reset : Mark := ⟨0, 0, .enter, 0, 1, .notice, .once, false⟩

/-- R197: no record held. -/
def Conf.reset : Conf := ⟨none, none, none, none, none⟩

/-- R197 after RESETN or power-on: CONFIG, READY, no response, no notices. `sdo` empty is the model's (log 21). -/
def Port.reset : Port := ⟨.config, none, none, [], false, []⟩

/-- The block right after power-on, RESETN high, no command waiting. -/
def State.reset : State where
  port := Port.reset
  conf := Conf.reset
  ref := RefUnit.reset
  posn := Position.reset
  bus := BusCtl.reset
  agr := Agreement.reset
  cues := []
  plan := PlanUnit.reset
  pass := PassCtl.reset
  sched := Scheduler.reset
  out := OutputUnits.reset
  onset := OnsetUnit.reset
  log := TakeLog.reset
  marks := Vector.replicate 4 Mark.reset
  resetnLow := false
  pending := []

end Sys2Proof.Machine
end

