-- ==== Sys2Proof/Machine/Operands.lean ====
section
/-! DEFINITION. The values that commands and rules read: the configuration in force, the range of the position and the rate, the resolved cueing fields, and the modular counters. -/

namespace Sys2Proof.Machine

/-! ## Ranges and counters -/

/-- A value brought to the nearer end of a range (00_scope.md, Arithmetic). -/
def clamp (lo hi x : Nat) : Nat := if x < lo then lo else if hi < x then hi else x

/-- A rate brought into 60..240 (R16). -/
def clampRate (r : Nat) : Nat := clamp 60 240 r

/-- The pass number after n (R67, R104, R105). -/
def nextPass (n : Nat) : Nat := (n + 1) % 65536

/-- The generation that an originated ANCHOR or LOCATE carries (R54). -/
def nextGeneration (g : Nat) : Nat := (g + 1) % 256

/-! ## The configuration in force

Every record is held while the part is RUNNING (R194, R196), so the fallback values below are read by no run (log 22). -/

/-- Frames per second of a frame rate (R193). -/
def FrameRate.fps : FrameRate → Nat
  | .f24 => 24
  | .f25 => 25
  | .f30 => 30
  | .f48 => 48
  | .f50 => 50
  | .f60 => 60

/-- The frame-rate code of R201. -/
def FrameRate.code : FrameRate → Nat
  | .f24 => 0
  | .f25 => 1
  | .f30 => 2
  | .f48 => 3
  | .f50 => 4
  | .f60 => 5

/-- The greatest position for a frame rate (R15). -/
def FrameRate.pMax (f : FrameRate) : Nat := f.fps * 86400 * 120 - 1

/-- The TIMING record in force. -/
def State.timing (s : State) : TimingRec := s.conf.timing.getD ⟨.f24, 1, .inputRise, .k250⟩

/-- The STATION record in force. -/
def State.station (s : State) : StationRec := s.conf.station.getD ⟨1, 5, 25, 2, 0, 0⟩

/-- The OUTPUTS record in force. -/
def State.outputs (s : State) : OutputsRec := s.conf.outputs.getD ⟨0, 0, 0, 0, 64, 60, 1, false⟩

/-- The CUE DEFAULTS record in force. -/
def State.defaults (s : State) : DefaultsRec := s.conf.defaults.getD ⟨6, 0, 6, 0, 0, 0, 0⟩

/-- The ONSET record in force. -/
def State.onsetRec (s : State) : OnsetRec := s.conf.onset.getD ⟨0, 1, 0, 0⟩

/-- The station's own address (R193). -/
def State.address (s : State) : Nat := s.station.address

/-- P_MAX of the TIMING record (R15). -/
def State.pMax (s : State) : Nat := s.timing.frameRate.pMax

/-- A position brought into 0..P_MAX (R15). -/
def State.clampPos (s : State) (x : Nat) : Nat := min x s.pMax

/-- The number of configuration records held, counted from TIMING in record order (11.1). -/
def Conf.held (c : Conf) : Nat :=
  if c.timing.isNone then 0
  else if c.station.isNone then 1
  else if c.outputs.isNone then 2
  else if c.defaults.isNone then 3
  else if c.onset.isNone then 4
  else 5

/-! ## Views of the port -/

/-- READY: no command is being processed. STEP alone holds the port BUSY between steps (R184, R188). -/
def Port.ready (p : Port) : Bool := p.stepRun.isNone

/-- RDY is low while a command is being processed (11.0, R188). -/
def State.rdy (s : State) : Bool := s.port.ready

/-- ATTN is high exactly when the queue holds at least one notice (R191). -/
def State.attn (s : State) : Bool := !s.port.notices.isEmpty

/-- The part is RUNNING. -/
def State.running (s : State) : Bool := decide (s.port.part = .running)

/-! ## Resolved cueing fields (R75) -/

/-- Lead in frames. -/
def CueRec.leadR (c : CueRec) (d : DefaultsRec) : Nat := c.lead.getD d.lead

/-- Beeps; an absent beeps of a cue with SILENT_LAST clear resolves to the smaller of the default and 3. -/
def CueRec.beepsR (c : CueRec) (d : DefaultsRec) : Nat :=
  match c.beeps with
  | some n => n
  | none => if c.silentLast then d.beeps else min d.beeps 3

/-- Spacing in frames. -/
def CueRec.spacingR (c : CueRec) (d : DefaultsRec) : Nat := c.spacing.getD d.spacing

/-- Pre-roll in frames. -/
def CueRec.prerollR (c : CueRec) (d : DefaultsRec) : Nat := c.preroll.getD d.preroll

/-- Post-roll in frames. -/
def CueRec.postrollR (c : CueRec) (d : DefaultsRec) : Nat := c.postroll.getD d.postroll

/-- Handle in, in frames. -/
def CueRec.handleInR (c : CueRec) (d : DefaultsRec) : Nat := c.handleIn.getD d.handleIn

/-- Handle out, in frames. -/
def CueRec.handleOutR (c : CueRec) (d : DefaultsRec) : Nat := c.handleOut.getD d.handleOut

/-! ## Looking up -/

/-- The record of a cue id (R76: no two records share one). -/
def findCue (cues : List CueRec) (id : Nat) : Option CueRec := cues.find? (fun c => c.id == id)

/-- The index of the record of a cue id. -/
def cueIndex (cues : List CueRec) (id : Nat) : Option Nat := cues.findIdx? (fun c => c.id == id)

/-- The hold entry of an address (R55). -/
def holdOf (holds : List HoldEntry) (a : Nat) : Option HoldEntry := holds.find? (fun h => h.address == a)

/-- The window entry of an address (R105). -/
def windowOf (ws : List WindowEntry) (a : Nat) : Option WindowEntry := ws.find? (fun w => w.address == a)

/-- The presence slot of an address 1..30; any other number reads as an ABSENT slot. -/
def Agreement.slot (g : Agreement) (a : Nat) : PeerSlot :=
  if a = 0 then PeerSlot.reset else g.peers.getD (a - 1) PeerSlot.reset

/-- The presence slot of an address 1..30 written. -/
def Agreement.setSlot (g : Agreement) (a : Nat) (x : PeerSlot) : Agreement :=
  if a = 0 then g else { g with peers := g.peers.setIfInBounds (a - 1) x }

/-- Mark n of 1..4. -/
def State.mark (s : State) (n : Nat) : Mark :=
  if n = 0 then Mark.reset else s.marks.getD (n - 1) Mark.reset

/-- Mark n of 1..4 written. -/
def State.setMark (s : State) (n : Nat) (m : Mark) : State :=
  if n = 0 then s else s.setMarks (s.marks.setIfInBounds (n - 1) m)

end Sys2Proof.Machine
end

