-- ==== Sys2Proof/Machine/Flags.lean ====
section
/-! DEFINITION. The notice queue with its overflow flag (R190, R191), the flags and fields that other blocks write into the take that is IN_PROGRESS (R170), and the standing own-hold reasons (R58). -/

namespace Sys2Proof.Machine

/-- Posting a notice (R191): appended when fewer than 16 wait, else dropped with the overflow flag set. -/
def post (k : NoticeKind) (detail : Nat) (s : State) : State :=
  if s.port.notices.length < Config.noticeCapacity then
    s.setPort { s.port with notices := s.port.notices ++ [⟨k, detail⟩] }
  else
    s.setPort { s.port with overflow := true }

/-- A write into the record that is IN_PROGRESS; with none in progress it goes nowhere (R170). -/
def writeTake (f : TakeRec → TakeRec) (s : State) : State :=
  s.setLog { s.log with records := s.log.records.map (fun r => if r.outcome = .inProgress then f r else r) }

/-- The record that is IN_PROGRESS, if there is one (R172). -/
def TakeLog.inProgress (l : TakeLog) : Option TakeRec := l.records.find? (fun r => decide (r.outcome = .inProgress))

/-- REF_UNSTABLE on the take in progress (R13). -/
def flagRefUnstable (s : State) : State :=
  writeTake (fun r => { r with flags := { r.flags with refUnstable := true } }) s

/-- RX_OVERRUN on the take in progress (R47). -/
def flagRxOverrun (s : State) : State :=
  writeTake (fun r => { r with flags := { r.flags with rxOverrun := true } }) s

/-- SYNC_SUSPECT on the take in progress (R66). -/
def flagSyncSuspect (s : State) : State :=
  writeTake (fun r => { r with flags := { r.flags with syncSuspect := true } }) s

/-- SYNC_SUSPECT on the take of a number. -/
def flagTakeSync (n : Nat) (s : State) : State :=
  s.setLog { s.log with records := s.log.records.map fun r =>
    if r.number = n then { r with flags := { r.flags with syncSuspect := true } } else r }

/-- SYNC_SUSPECT of a slip found while the pending list of an edge is applied (R66, R170). `take` and `counter` are the take IN_PROGRESS and the take counter as the edge found them, before its first step. The flag lands before any abandonment of the same edge: in the take that the edge found IN_PROGRESS, though the local stop of step 1 or a frame applied before has abandoned it; else in the take begun at this edge, though a frame applied since has abandoned it; with neither, R66 flags no take (DEDUCED, log 30). -/
def landSlip (take : Option Nat) (counter : Nat) (s : State) : State :=
  match take with
  | some n => flagTakeSync n s
  | none => if s.log.counter = counter then flagSyncSuspect s else flagTakeSync s.log.counter s

/-- LATE_EVENTS on the take in progress (R136). -/
def flagLateEvents (s : State) : State :=
  writeTake (fun r => { r with flags := { r.flags with lateEvents := true } }) s

/-- A write into the entry of one cue of the take in progress (R170). -/
def writeTakeCue (cue : Nat) (f : TakeCue → TakeCue) (s : State) : State :=
  writeTake (fun r => { r with cues := r.cues.map (fun c => if c.cue = cue then f c else c) }) s

/-- At least one own-hold reason stands (R58). -/
def OwnReasons.any (r : OwnReasons) : Bool := r.console || r.logFull || r.mark

/-- The number of the lowest standing reason: CONSOLE 1, LOG_FULL 2, MARK 3 (R58). -/
def OwnReasons.lowest (r : OwnReasons) : Nat :=
  if r.console then 1 else if r.logFull then 2 else 3

/-- The own-hold reasons replaced. -/
def State.setReasons (s : State) (r : OwnReasons) : State := s.setAgr { s.agr with reasons := r }

end Sys2Proof.Machine
end

