-- ==== Sys2Proof/Machine/Ops.lean ====
section
/-! DEFINITION. The transmit queue: classes, admission and the full queue (R24, R35, R36), the offers with origin INTERNAL and CONSOLE, and the own-hold reasons that offer HOLD and RELEASE frames (R58). -/

namespace Sys2Proof.Machine

/-- The class of a kind (R24). -/
def FrameKind.cls : FrameKind → Nat
  | .anchor => 0
  | .locate => 0
  | .hold => 1
  | .release => 1
  | .window => 2
  | .done => 2
  | .beacon => 3
  | .test => 3

/-- The kind of a queued frame. -/
def QueuedFrame.kind : QueuedFrame → FrameKind
  | .anchor _ _ _ => .anchor
  | .locate _ _ _ _ _ _ => .locate
  | .hold _ _ => .hold
  | .release => .release
  | .window _ _ _ _ => .window
  | .done _ _ _ => .done
  | .beacon => .beacon

/-- A BEACON entry waiting and not on the line (R35, R36). -/
def TxEntry.waitingBeacon (e : TxEntry) : Bool := !e.onLine && decide (e.frame.kind = .beacon)

/-- A HOLD or RELEASE entry waiting and not on the line (R35). -/
def TxEntry.waitingHold (e : TxEntry) : Bool :=
  !e.onLine && (decide (e.frame.kind = .hold) || decide (e.frame.kind = .release))

/-- The queue without the newest entry that a test picks. DESIGN CHOICE (log 10): where two BEACON entries wait, a replacement and a displacement fall on the newer one. -/
def dropNewest (test : TxEntry → Bool) (q : List TxEntry) : List TxEntry := (q.reverse.eraseP test).reverse

/-- What admission answers (R35, R36): admitted; not admitted because of the link state; dropped without notice; refused at the full queue. -/
inductive Admission where
  | admitted
  | closed
  | dropped
  | full
  deriving DecidableEq, Repr

/-- A new entry: retry count 0, not on the line (R35). -/
def newEntry (f : QueuedFrame) (fromMark : Bool) : TxEntry := ⟨f, 0, false, fromMark⟩

/-- The queue after a frame is offered to it in LISTENING or ACTIVE, steps 2 to 5 of R35 and R36. The entries stand in admission order, so a replaced entry gives way to a new one at the end. DESIGN CHOICE (log 44): a RELEASE that takes the place of a waiting HOLD is an entry like any other and is sent, as R35 and the worked sequence of 2.4 have it; R58 says that neither of the two reaches the line. -/
def admitTo (q : List TxEntry) (f : QueuedFrame) (fromMark : Bool) : Admission × List TxEntry :=
  let e := newEntry f fromMark
  if f.kind = .beacon ∧ q.any TxEntry.waitingBeacon then (.admitted, dropNewest TxEntry.waitingBeacon q ++ [e])
  else if (f.kind = .hold ∨ f.kind = .release) ∧ q.any TxEntry.waitingHold then
    (.admitted, dropNewest TxEntry.waitingHold q ++ [e])
  else if q.length < Config.queueCapacity then (.admitted, q ++ [e])
  else if f.kind.cls = 3 then (.dropped, q)
  else if q.any TxEntry.waitingBeacon then (.admitted, dropNewest TxEntry.waitingBeacon q ++ [e])
  else (.full, q)

/-- The link state admits frames to the queue (R35, table of 2.5). -/
def LinkState.admits : LinkState → Bool
  | .listening => true
  | .active => true
  | .off => false
  | .listenOnly => false
  | .lineTest => false

/-- A frame offered to the queue (R35, R36), whatever its origin. -/
def offer (f : QueuedFrame) (fromMark : Bool) (s : State) : Admission × State :=
  if s.bus.link.admits then
    ((admitTo s.bus.queue f fromMark).1, s.setBus { s.bus with queue := (admitTo s.bus.queue f fromMark).2 })
  else (.closed, s)

/-- An INTERNAL frame offered: refused at a full queue it is lost and TX_OVERFLOW is posted (R36). -/
def offerTagged (f : QueuedFrame) (fromMark : Bool) (s : State) : State :=
  if (offer f fromMark s).1 = .full then post .txOverflow s.address (offer f fromMark s).2 else (offer f fromMark s).2

/-- An INTERNAL frame of any block but the mark unit. -/
def offerInternal (f : QueuedFrame) (s : State) : State := offerTagged f false s

/-- The refusal of a CONSOLE frame, if it is refused: STATE by the link state, QUEUE_FULL at a full queue (R35, R36). -/
def Admission.refusal : Admission → Option Status
  | .admitted => none
  | .dropped => none
  | .closed => some .state
  | .full => some .queueFull

/-- The queue holds an entry of a kind, waiting or on the line (R59, R109). -/
def State.queued (s : State) (k : FrameKind) : Bool := s.bus.queue.any (fun e => decide (e.frame.kind = k))

/-- The mark stop flag: an ANCHOR STOPPED that the mark unit offered stands in the queue, waiting or on the line (R181). -/
def State.markStopFlag (s : State) : Bool := s.bus.queue.any TxEntry.fromMark

/-! ## Own-hold reasons (R58) -/

/-- The HOLD frame of the standing reasons (R58, R59). -/
def ownHold (s : State) (r : OwnReasons) : QueuedFrame := .hold s.station.holdLease r.lowest

/-- Reasons after one has arisen: a HOLD is offered when none stood before (R58). -/
def raiseReasons (r : OwnReasons) (s : State) : State :=
  if s.agr.reasons.any then s.setReasons r else offerInternal (ownHold s r) (s.setReasons r)

/-- LOG_FULL arises (R173). -/
def raiseLogFull (s : State) : State :=
  if s.agr.reasons.logFull then s else raiseReasons { s.agr.reasons with logFull := true } s

/-- MARK arises (R180). -/
def raiseMark (s : State) : State :=
  if s.agr.reasons.mark then s else raiseReasons { s.agr.reasons with mark := true } s

/-- LOG_FULL clears; when it was the last standing reason, a RELEASE is offered (R58, R173). -/
def clearLogFull (s : State) : State :=
  if s.agr.reasons.logFull then
    if s.agr.reasons.console || s.agr.reasons.mark then s.setReasons { s.agr.reasons with logFull := false }
    else offerInternal .release (s.setReasons { s.agr.reasons with logFull := false })
  else s

end Sys2Proof.Machine
end

