-- ==== Sys2Proof/Machine/Wire.lean ====
section
/-! DEFINITION. The stage bus on the wire: bits and bytes (R200), payload layouts (R201), the CRC (R26), stuffing (R25), the bits of a frame as a transmitter sends them (2.2), the receiver bit by bit (R23, R25 to R28), and how a transmitter judges the bits it reads (R31, R32). A bit `false` is dominant and `true` recessive (R22). -/

namespace Sys2Proof.Machine

/-! ## Bits, bytes and numbers (R200) -/

/-- The bits of a byte, most significant first. -/
def byteBits (b : Byte) : List Bool :=
  [b.getLsbD 7, b.getLsbD 6, b.getLsbD 5, b.getLsbD 4, b.getLsbD 3, b.getLsbD 2, b.getLsbD 1, b.getLsbD 0]

/-- The number that bits spell, most significant first. -/
def bitsNum (bs : List Bool) : Nat := bs.foldl (fun n b => 2 * n + b.toNat) 0

/-- A number in w bytes, most significant byte first. -/
def numBytes : Nat → Nat → List Byte
  | 0, _ => []
  | w + 1, n => BitVec.ofNat 8 (n / 256 ^ w) :: numBytes w n

/-- The number that bytes spell, most significant byte first. -/
def bytesNum (bs : List Byte) : Nat := bs.foldl (fun n b => 256 * n + b.toNat) 0

/-- The bytes of a run of bits; a part of fewer than eight bits is left off. -/
def bitsBytes : List Bool → List Byte
  | b7 :: b6 :: b5 :: b4 :: b3 :: b2 :: b1 :: b0 :: rest =>
    BitVec.ofNat 8 (bitsNum [b7, b6, b5, b4, b3, b2, b1, b0]) :: bitsBytes rest
  | _ => []

/-! ## Kinds and payloads (R24, R201) -/

/-- The kind code of R201. -/
def FrameKind.code : FrameKind → Nat
  | .anchor => 0
  | .locate => 1
  | .hold => 2
  | .release => 3
  | .window => 4
  | .done => 5
  | .beacon => 6
  | .test => 7

/-- The kind of a code; codes 8 to 15 are unknown (R24). -/
def kindOfCode : Nat → Option FrameKind
  | 0 => some .anchor
  | 1 => some .locate
  | 2 => some .hold
  | 3 => some .release
  | 4 => some .window
  | 5 => some .done
  | 6 => some .beacon
  | 7 => some .test
  | _ => none

/-- The payload length of a kind (R24). -/
def FrameKind.payloadBytes : FrameKind → Nat
  | .anchor => 7
  | .locate => 10
  | .hold => 2
  | .release => 0
  | .window => 12
  | .done => 3
  | .beacon => 9
  | .test => 12

/-- The transport state code of R201. -/
def Transport.code : Transport → Nat
  | .stopped => 0
  | .cueing => 1
  | .rolling => 2

/-- The transport state of a code. -/
def transportOfCode : Nat → Option Transport
  | 0 => some .stopped
  | 1 => some .cueing
  | 2 => some .rolling
  | _ => none

/-- The pass state code of R201. -/
def PassState.code : PassState → Nat
  | .idle => 0
  | .standby => 1
  | .inPass => 2
  | .cleared => 3

/-- The pass state of a code. -/
def passStateOfCode : Nat → Option PassState
  | 0 => some .idle
  | 1 => some .standby
  | 2 => some .inPass
  | 3 => some .cleared
  | _ => none

/-- The DONE outcome code of R201. -/
def DoneOutcome.code : DoneOutcome → Nat
  | .cleared => 0
  | .skipped => 1
  | .abandoned => 2

/-- The DONE outcome of a code. -/
def doneOutcomeOfCode : Nat → Option DoneOutcome
  | 0 => some .cleared
  | 1 => some .skipped
  | 2 => some .abandoned
  | _ => none

/-- Bytes 1 to 11 of a TEST payload (R201). -/
def testPattern : List Byte := [0x00, 0xFF, 0x55, 0xAA, 0x0F, 0xF0, 0x33, 0xCC, 0x81, 0x7E, 0xC3]

/-- The kind of a payload. -/
def Payload.kind : Payload → FrameKind
  | .anchor _ _ _ _ => .anchor
  | .locate _ _ _ _ _ _ _ => .locate
  | .hold _ _ => .hold
  | .release => .release
  | .window _ _ _ _ => .window
  | .done _ _ _ => .done
  | .beacon _ _ _ _ _ _ _ => .beacon
  | .test _ => .test

/-- The payload bytes of R201; bits that the layout does not name are 0 (R200). -/
def Payload.bytes : Payload → List Byte
  | .anchor g rolling r p => numBytes 1 g ++ numBytes 1 rolling.toNat ++ numBytes 1 r ++ numBytes 4 p
  | .locate g closure play r st n t =>
    numBytes 1 g ++ numBytes 1 (128 * closure.toNat + 64 * play.toNat) ++ numBytes 1 r ++ numBytes 1 st ++
      numBytes 2 n ++ numBytes 4 t
  | .hold lease reason => numBytes 1 lease ++ numBytes 1 (reason % 16)
  | .release => []
  | .window n c i o => numBytes 2 n ++ numBytes 2 c ++ numBytes 4 i ++ numBytes 4 o
  | .done n oc more => numBytes 2 n ++ numBytes 1 (64 * oc.code + more.toNat)
  | .beacon rc t ps g n r p =>
    numBytes 1 (32 * rc + 8 * t.code + 2 * ps.code) ++ numBytes 1 g ++ numBytes 2 n ++ numBytes 1 r ++ numBytes 4 p
  | .test n => numBytes 1 n ++ testPattern

/-- The fields of a payload: none when a coded field holds a value that is not one of its codes (R200). Bits that the layout does not name are ignored. -/
def parsePayload : FrameKind → List Byte → Option Payload
  | .anchor, [g, st, r, p3, p2, p1, p0] =>
    if st = 0 then some (.anchor g.toNat false r.toNat (bytesNum [p3, p2, p1, p0]))
    else if st = 1 then some (.anchor g.toNat true r.toNat (bytesNum [p3, p2, p1, p0]))
    else none
  | .locate, [g, fl, r, st, n1, n0, t3, t2, t1, t0] =>
    some (.locate g.toNat (fl.getLsbD 7) (fl.getLsbD 6) r.toNat st.toNat (bytesNum [n1, n0]) (bytesNum [t3, t2, t1, t0]))
  | .hold, [lease, reason] => some (.hold lease.toNat (reason.toNat % 16))
  | .release, [] => some .release
  | .window, [n1, n0, c1, c0, i3, i2, i1, i0, o3, o2, o1, o0] =>
    some (.window (bytesNum [n1, n0]) (bytesNum [c1, c0]) (bytesNum [i3, i2, i1, i0]) (bytesNum [o3, o2, o1, o0]))
  | .done, [n1, n0, fl] =>
    (doneOutcomeOfCode (fl.toNat / 64)).map fun oc => .done (bytesNum [n1, n0]) oc (fl.getLsbD 0)
  | .beacon, [b, g, n1, n0, r, p3, p2, p1, p0] =>
    match transportOfCode (b.toNat / 8 % 4), passStateOfCode (b.toNat / 2 % 4) with
    | some t, some ps =>
      some (.beacon (b.toNat / 32) t ps g.toNat (bytesNum [n1, n0]) r.toNat (bytesNum [p3, p2, p1, p0]))
    | _, _ => none
  | .test, n :: _ => some (.test n.toNat)
  | _, _ => none

/-- The frame-rate code of a BEACON, which R62 compares even where another coded field is not one of its codes (R200). -/
def BusFrame.rateCode (f : BusFrame) : Nat :=
  match f.payload with
  | b :: _ => b.toNat / 32
  | [] => 0

/-- The frame of a station with given fields. -/
def Payload.frame (source : Nat) (x : Payload) : BusFrame := ⟨source, x.kind, x.bytes⟩

/-! ## CRC, stuffing and the bits of a frame (R25, R26) -/

/-- One bit of the CRC with polynomial x^16 + x^12 + x^5 + 1 (R26). -/
def crcStep (c : BitVec 16) (b : Bool) : BitVec 16 :=
  if c.msb != b then (c <<< 1) ^^^ 0x1021 else c <<< 1

/-- The CRC of unstuffed bits, initial value 0xFFFF, no final inversion (R26). -/
def crc (bits : List Bool) : BitVec 16 := bits.foldl crcStep 0xFFFF

/-- The 16 bits of a CRC, the coefficient of x^15 first (R201). -/
def crcBits (c : BitVec 16) : List Bool := byteBits (c.extractLsb' 8 8) ++ byteBits (c.extractLsb' 0 8)

/-- The precedence byte and the kind and length byte (R201). -/
def BusFrame.header (f : BusFrame) : List Byte :=
  [BitVec.ofNat 8 (f.kind.cls * 32 + f.source), BitVec.ofNat 8 (f.kind.code * 16 + f.kind.payloadBytes)]

/-- The unstuffed bits that the CRC is taken over (R26). -/
def BusFrame.checkedBits (f : BusFrame) : List Bool := (f.header ++ f.payload).flatMap byteBits

/-- The unstuffed bits from the precedence byte through the CRC (2.2). -/
def BusFrame.dataBits (f : BusFrame) : List Bool := f.checkedBits ++ crcBits (crc f.checkedBits)

/-- A bit as a transmitter sends it, and whether it is judged as contention (R32). -/
structure TxBit where
  level : Bool
  contention : Bool
  deriving DecidableEq, Repr

/-- Stuffing (R25): after 5 equal bits one bit of the opposite value, which begins a new run. `last` and `run` describe the bits sent so far. A stuff bit is judged like the bit that follows it, so one that ends the precedence byte lies outside it (DESIGN CHOICE, log 9). -/
def stuff : Bool → Nat → List TxBit → List TxBit
  | _, _, [] => []
  | last, run, b :: rest =>
    if (if b.level = last then run + 1 else 1) = 5 then
      b :: ⟨!b.level, (rest.head?.map TxBit.contention).getD false⟩ :: stuff (!b.level) 1 rest
    else
      b :: stuff b.level (if b.level = last then run + 1 else 1) rest

/-- The data bits with the eight bits of the precedence byte marked (R32). -/
def BusFrame.tagged (f : BusFrame) : List TxBit :=
  (f.dataBits.take 8).map (fun b => ⟨b, true⟩) ++ (f.dataBits.drop 8).map (fun b => ⟨b, false⟩)

/-- A frame as it is sent: start bit, stuffed region, end field (2.2). -/
def BusFrame.txBits (f : BusFrame) : List TxBit :=
  ⟨false, false⟩ :: stuff false 1 f.tagged ++ List.replicate 8 ⟨true, false⟩

/-- The levels of a frame on the line. -/
def BusFrame.lineBits (f : BusFrame) : List Bool := f.txBits.map TxBit.level

/-! ## The receiver (R23, R25 to R28) -/

/-- How the taking in of a frame ends. -/
inductive RxOutcome where
  | complete (f : BusFrame)
  | discard
  deriving DecidableEq, Repr

/-- The frame has completed (R28). -/
def RxOutcome.isComplete : RxOutcome → Bool
  | .complete _ => true
  | .discard => false

/-- The source address belongs to the kind (R27): 0 for TEST, 1..30 for every other kind. -/
def sourceFits (k : FrameKind) (a : Nat) : Bool :=
  if k = .test then decide (a = 0) else decide (1 ≤ a) && decide (a ≤ 30)

/-- The source and kind of a header of 16 bits, when none of the header conditions of R27 is met. -/
def parseHeader (bits : List Bool) : Option (Nat × FrameKind) :=
  let prec := bitsNum (bits.take 8)
  let second := bitsNum ((bits.drop 8).take 8)
  match kindOfCode (second / 16) with
  | none => none
  | some k =>
    if second % 16 = k.payloadBytes ∧ prec / 32 = k.cls ∧ sourceFits k (prec % 32) then some (prec % 32, k) else none

/-- The unstuffed bits of a frame of a kind, precedence byte through CRC. -/
def FrameKind.dataLength (k : FrameKind) : Nat := 32 + 8 * k.payloadBytes

/-- The unstuffed bits taken in make a whole frame: its header, and all bits through the CRC. -/
def regionEnd (bits : List Bool) : Option (Nat × FrameKind) :=
  match parseHeader bits with
  | some (a, k) => if bits.length = k.dataLength then some (a, k) else none
  | none => none

/-- The discard conditions judged when a data bit has been taken in (R27): the header at 16 bits, the CRC at its end. -/
def dataBitDiscards (bits : List Bool) : Bool :=
  if bits.length = 16 then (parseHeader bits).isNone
  else
    match regionEnd bits with
    | some (_, k) =>
      decide (crcBits (crc (bits.take (16 + 8 * k.payloadBytes))) ≠ bits.drop (16 + 8 * k.payloadBytes))
    | none => false

/-- The frame of the unstuffed bits of a whole frame. -/
def frameOfBits (a : Nat) (k : FrameKind) (bits : List Bool) : BusFrame :=
  ⟨a, k, bitsBytes ((bits.drop 16).take (8 * k.payloadBytes))⟩

/-- A bit inside the stuffed region or the end field of a frame being received (R25, R27, R28). -/
def rxInFrame (idle : Nat) (fr : RxFrame) (b : Bool) : Receiver × Option RxOutcome :=
  if fr.run = 5 then
    -- a stuff bit is due
    if b = fr.last then (⟨0, none⟩, some .discard)
    else (⟨0, some { fr with last := b, run := 1 }⟩, none)
  else
    match if 16 ≤ fr.bits.length then regionEnd fr.bits.reverse else none with
    | some (a, k) =>
      -- the end field
      if b = false then (⟨0, none⟩, some .discard)
      else if fr.endBits = 7 then (⟨idle + 1, none⟩, some (.complete (frameOfBits a k fr.bits.reverse)))
      else (⟨idle + 1, some { fr with endBits := fr.endBits + 1 }⟩, none)
    | none =>
      if dataBitDiscards (b :: fr.bits).reverse then (⟨0, none⟩, some .discard)
      else (⟨0, some { fr with last := b, run := if b = fr.last then fr.run + 1 else 1, bits := b :: fr.bits }⟩, none)

/-- A bit outside a frame (R23, R27): a dominant bit at idle is a start bit. -/
def rxOutside (idle : Nat) (b : Bool) : Receiver :=
  if b then ⟨min Config.idleBits (idle + 1), none⟩
  else if idle = Config.idleBits then ⟨0, some ⟨false, 1, [], 0⟩⟩
  else ⟨0, none⟩

/-- One bit read from the line. -/
def rxBit (rx : Receiver) (b : Bool) : Receiver × Option RxOutcome :=
  match rx.frame with
  | none => (rxOutside rx.idle b, none)
  | some fr => rxInFrame rx.idle fr b

/-- A run of bits read from the line: the receiver after it, and the frames that ended in it. -/
def runRx (rx : Receiver) : List Bool → Receiver × List RxOutcome
  | [] => (rx, [])
  | b :: rest =>
    ((runRx (rxBit rx b).1 rest).1, (rxBit rx b).2.toList ++ (runRx (rxBit rx b).1 rest).2)

/-- The line is idle: ten recessive bits outside a frame (R23). -/
def Receiver.lineIdle (rx : Receiver) : Bool := rx.frame.isNone && decide (rx.idle = Config.idleBits)

/-- The bits up to the first moment at which the line is idle: how many, the receiver then, and the bits after. -/
def bitsToIdle (rx : Receiver) : List Bool → Option (Nat × Receiver × List Bool)
  | [] => if rx.lineIdle then some (0, rx, []) else none
  | b :: rest =>
    if rx.lineIdle then some (0, rx, b :: rest)
    else (bitsToIdle (rxBit rx b).1 rest).map fun (n, r) => (n + 1, r)

/-! ## The transmitter's judgement (R31, R32) -/

/-- What the bits read say of the bits sent. -/
inductive TxVerdict where
  /-- Every bit of the frame read as sent (R34). -/
  | complete
  /-- Recessive sent and dominant read within the precedence byte (R32). -/
  | lost
  /-- Any other difference (R31). -/
  | bitError
  /-- No difference so far, and the frame is not over. -/
  | unfinished
  deriving DecidableEq, Repr

/-- The bits read compared with the bits sent, up to the first difference. -/
def judgeTx : List TxBit → List Bool → TxVerdict
  | [], _ => .complete
  | _ :: _, [] => .unfinished
  | t :: ts, b :: bs =>
    if b = t.level then judgeTx ts bs
    else if t.contention ∧ t.level then .lost
    else .bitError

/-- The bits read after the first difference, or after the frame where there is none. -/
def afterDifference : List TxBit → List Bool → List Bool
  | [], bs => bs
  | _ :: _, [] => []
  | t :: ts, b :: bs => if b = t.level then afterDifference ts bs else bs

end Sys2Proof.Machine
end

