-- ==== Sys2Proof/Machine/Scheduler.lean ====
section
/-! DEFINITION. The event scheduler (chapter 7): effective advances, the events of a cue, the order of the list, builds, requests and emptying. -/

namespace Sys2Proof.Machine

/-! ## Effective advances (R128, R129) -/

/-- A_eff = (A × r + 60) div 120 (R129). -/
def effectiveAdvance (a r : Nat) : Nat := (a * r + 60) / 120

/-- The four effective advances computed for the present rate (R129). -/
def recomputeAdvances (s : State) : State :=
  s.setSched { s.sched with
    advOverlay := effectiveAdvance s.outputs.advOverlay s.posn.rate
    advPip := effectiveAdvance s.outputs.advPip s.posn.rate
    advPunchIn := effectiveAdvance s.outputs.advPunchIn s.posn.rate
    advPunchOut := effectiveAdvance s.outputs.advPunchOut s.posn.rate }

/-- The effective advance of the channel of a kind (7.3). -/
def Scheduler.advanceOf (c : Scheduler) : EventKind → Nat
  | .streamerBegin => c.advOverlay
  | .flashOn => c.advOverlay
  | .flashOff => c.advOverlay
  | .lineEnd => c.advOverlay
  | .pipOn => c.advPip
  | .pipOff => c.advPip
  | .punchIn => c.advPunchIn
  | .punchOut => c.advPunchOut

/-! ## The events of a cue (R126, R127, R130, R131) -/

/-- The identity of an event (R126). -/
def Event.identity (e : Event) : EventId := ⟨e.cue, e.kind, e.pip⟩

/-- The pip numbers of a cue before R127 drops any: n down to 1, and 0 with SILENT_LAST clear (R126). -/
def pipNumbers (n : Nat) (silentLast : Bool) : List Nat :=
  ((List.range n).map (· + 1)).reverse ++ (if silentLast then [] else [0])

/-- An event with its fire position: event position less the effective advance, floored at 0 (R130). -/
def mkEvent (c : Scheduler) (cue order : Nat) (kind : EventKind) (pip : Option Nat) (pos : Nat) : Event :=
  ⟨cue, order, kind, pip, pos, pos - c.advanceOf kind⟩

/-- A closing event: its fire position is raised to its opening event's plus 1 where it is not greater (R131). -/
def closingEvent (c : Scheduler) (opening : Event) (kind : EventKind) (pos : Nat) : Event :=
  let e := mkEvent c opening.cue opening.order kind opening.pip pos
  if e.fire ≤ opening.fire then { e with fire := opening.fire + 1 } else e

/-- The pair of pip k, dropped where its raw position lies below 0 (R127). -/
def pipPair (c : Scheduler) (o : OutputsRec) (pMax order : Nat) (cue : CueRec) (spacing k : Nat) : List Event :=
  if k * spacing * 120 ≤ cue.s then
    let on := mkEvent c cue.id order .pipOn (some k) (min (cue.s - k * spacing * 120) pMax)
    [on, closingEvent c on .pipOff (min (on.pos + o.pipLength) pMax)]
  else []

/-- The pips of a cue, earliest first (R126). -/
def pipEvents (c : Scheduler) (d : DefaultsRec) (o : OutputsRec) (pMax order : Nat) (cue : CueRec) : List Event :=
  (pipNumbers (cue.beepsR d) cue.silentLast).flatMap (pipPair c o pMax order cue (cue.spacingR d))

/-- STREAMER_BEGIN, created with NO_STREAMER clear (R126). -/
def streamerEvents (c : Scheduler) (d : DefaultsRec) (pMax order : Nat) (cue : CueRec) : List Event :=
  if cue.noStreamer then []
  else [mkEvent c cue.id order .streamerBegin none (min (cue.s - cue.leadR d * 120) pMax)]

/-- FLASH_ON, always, and FLASH_OFF, created with NO_FLASH clear (R126). -/
def flashEvents (c : Scheduler) (o : OutputsRec) (pMax order : Nat) (cue : CueRec) : List Event :=
  let on := mkEvent c cue.id order .flashOn none (min cue.s pMax)
  on :: (if cue.noFlash then [] else [closingEvent c on .flashOff (min (cue.s + o.flashLength * 120) pMax)])

/-- PUNCH_IN and PUNCH_OUT, created on a RECORD pass (R126). -/
def punchEvents (c : Scheduler) (d : DefaultsRec) (pMax order : Nat) (cue : CueRec) (mode : PassMode) : List Event :=
  match mode with
  | .rehearse => []
  | .record =>
    let on := mkEvent c cue.id order .punchIn none (min (cue.s - cue.handleInR d * 120) pMax)
    [on, closingEvent c on .punchOut (min (cue.e + cue.handleOutR d * 120) pMax)]

/-- All events of a cue (R126). -/
def cueEvents (c : Scheduler) (d : DefaultsRec) (o : OutputsRec) (pMax order : Nat) (cue : CueRec) (mode : PassMode) :
    List Event :=
  streamerEvents c d pMax order cue ++ pipEvents c d o pMax order cue ++ flashEvents c o pMax order cue ++
    punchEvents c d pMax order cue mode ++ [mkEvent c cue.id order .lineEnd none (min cue.e pMax)]

/-- The events of a held set, each cue with its place in the set (R126). -/
def heldEvents (s : State) (h : HeldSet) : List Event :=
  h.cues.zipIdx.flatMap fun (id, order) =>
    match findCue s.cues id with
    | some cue => cueEvents s.sched s.defaults s.outputs s.pMax order cue h.mode
    | none => []

/-! ## The order of the list (R132) -/

/-- The place of a kind among events of equal fire position (R132). -/
def EventKind.rank : EventKind → Nat
  | .punchOut => 1
  | .lineEnd => 2
  | .flashOff => 3
  | .pipOff => 4
  | .streamerBegin => 5
  | .pipOn => 6
  | .flashOn => 7
  | .punchIn => 8

/-- An event stands before another: by fire position, kind, set order, and the higher pip number first (R132). -/
def Event.before (a b : Event) : Bool :=
  if a.fire ≠ b.fire then decide (a.fire < b.fire)
  else if a.kind.rank ≠ b.kind.rank then decide (a.kind.rank < b.kind.rank)
  else if a.order ≠ b.order then decide (a.order < b.order)
  else decide (b.pip.getD 0 < a.pip.getD 0)

/-- An event put into its place in an ordered list. -/
def insertEvent (e : Event) : List Event → List Event
  | [] => [e]
  | x :: rest => if e.before x then e :: x :: rest else x :: insertEvent e rest

/-- A list of events in list order (R132). -/
def sortEvents : List Event → List Event
  | [] => []
  | e :: rest => insertEvent e (sortEvents rest)

/-! ## Building (R134 to R136) -/

/-- The opening kind of a closing kind (R131). -/
def EventKind.opening : EventKind → Option EventKind
  | .pipOff => some .pipOn
  | .flashOff => some .flashOn
  | .punchOut => some .punchIn
  | .streamerBegin => none
  | .pipOn => none
  | .flashOn => none
  | .punchIn => none
  | .lineEnd => none

/-- A closing event whose opening event is dropped at step 1 of R135: not in the fired record and behind p. -/
def openingDropped (all : List Event) (fired : List EventId) (p : Nat) (e : Event) : Bool :=
  match e.kind.opening with
  | none => false
  | some k =>
    all.any fun o => decide (o.cue = e.cue) && decide (o.kind = k) && decide (o.pip = e.pip) && decide (o.pos < p) &&
      !fired.contains o.identity

/-- The events a build keeps, in list order (R135). -/
def keptEvents (all : List Event) (fired : List EventId) (p : Nat) : List Event :=
  sortEvents (all.filter fun e =>
    !fired.contains e.identity && decide (p ≤ e.pos) && !openingDropped all fired p e)

/-- The held set is armed (R134). -/
def armed (s : State) : Bool :=
  s.sched.held.isSome &&
    (decide (s.pass.state = .inPass) ||
      (decide (s.pass.state = .standby) && decide (s.pass.own.map OwnWindow.label = some s.agr.passNumber) &&
        decide (s.agr.transport ≠ .rolling)))

/-- A build against the present position; a late event flags the take in progress (R135, R136). -/
def build (h : HeldSet) (s : State) : State :=
  let kept := keptEvents (heldEvents s h) s.sched.fired s.posn.p
  let s' := s.setSched { s.sched with events := kept }
  if kept.any (fun e => decide (e.fire < s.posn.p)) then flagLateEvents s' else s'

/-- A request (R134): a build if the held set is armed, an empty list if it is not. -/
def requestBuild (s : State) : State :=
  match s.sched.held with
  | some h => if armed s then build h s else s.setSched { s.sched with events := [] }
  | none => s.setSched { s.sched with events := [] }

/-- Emptying (R140): the list is emptied and the fired record cleared. -/
def emptyList (s : State) : State := s.setSched { s.sched with events := [], fired := [] }

/-- Emptying where the station gives up its held set (R140). -/
def giveUpHeld (s : State) : State := s.setSched { s.sched with held := none, events := [], fired := [] }

/-- A preparation at the scheduler (R137): the new held set, an empty fired record, and a request. -/
def handHeld (h : HeldSet) (s : State) : State := requestBuild (s.setSched { s.sched with held := some h, fired := [] })

/-- A rate taken by an applied frame or by adoption (R16, R129): the advances are recomputed before any build. -/
def takeRate (r : Nat) (s : State) : State := recomputeAdvances (s.setPosn { s.posn with rate := clampRate r })

end Sys2Proof.Machine
end

