-- ==== Sys2Proof/Machine/TakeLog.lean ====
section
/-! DEFINITION. The take log and the onset detector (chapter 9): reservation and close of records, onset windows, the judging of level samples. -/

namespace Sys2Proof.Machine

/-! ## Reservation and close (R169 to R173) -/

/-- The number after a take counter: 65535 is followed by 1 (R169). -/
def nextTake (n : Nat) : Nat := if n = 65535 then 1 else n + 1

/-- The log holds fewer than 16 records (R172). -/
def TakeLog.free (l : TakeLog) : Bool := decide (l.records.length < Config.takeCapacity)

/-- The new record of a begin (R169). -/
def newTake (s : State) (w : OwnWindow) : TakeRec :=
  { number := nextTake s.log.counter, passNumber := s.agr.passNumber, stepIndex := w.stepIndex, mode := w.mode
    outcome := .inProgress, punchIn := none, punchOut := none, flags := ⟨false, false, false, false⟩
    cues := ((s.sched.held.map HeldSet.cues).getD w.set).map fun id => ⟨id, none, false, false⟩ }

/-- A reservation with a free slot (R169); the 16th record raises LOG_FULL in the same event (R173). -/
def reserveTake (w : OwnWindow) (s : State) : State :=
  let s' := s.setLog { records := s.log.records ++ [newTake s w], counter := nextTake s.log.counter }
  if s'.log.records.length = Config.takeCapacity then raiseLogFull s' else s'

/-- The record in progress is closed with an outcome (R171). -/
def closeTake (o : TakeOutcome) (s : State) : State := writeTake (fun r => { r with outcome := o }) s

/-- The number of the take in progress; 0 where none is. -/
def currentTake (s : State) : Nat := (s.log.inProgress.map TakeRec.number).getD 0

/-! ## Onset windows (R164, R165) -/

/-- The cue's entry of the take in progress has an onset. -/
def credited (s : State) (cue : Nat) : Bool :=
  match s.log.inProgress with
  | some r => r.cues.any fun c => decide (c.cue = cue) && c.onset.isSome
  | none => false

/-- The detector state after windows have closed: IDLE when none is left open (R165). -/
def settleDetector (u : OnsetUnit) : OnsetUnit :=
  if u.openWindows.isEmpty then { u with detector := .idle } else u

/-- A cue's window closes; without a credited onset its entry is flagged NO_ONSET (R165). -/
def closeWindow (cue : Nat) (s : State) : State :=
  if s.onset.openWindows.contains cue then
    let s' := s.setOnset (settleDetector { s.onset with openWindows := s.onset.openWindows.filter (· != cue) })
    if credited s cue then s' else writeTakeCue cue (fun c => { c with noOnset := true }) s'
  else s

/-- All open windows close at the end of a pass (R165). -/
def closeWindows (s : State) : State := s.onset.openWindows.foldl (fun t c => closeWindow c t) s

/-- The opening position of a cue (R164). -/
def openingPosition (s : State) (cue : CueRec) : Nat := cue.s - s.onsetRec.onsetEarly * 120

/-- The cue's LINE_END stands in the event list. -/
def lineEndListed (s : State) (id : Nat) : Bool :=
  s.sched.events.any fun e => decide (e.cue = id) && decide (e.kind = .lineEnd)

/-- A cue of the held set whose window opens at this advance (R164). -/
def opensNow (s : State) (id : Nat) : Bool :=
  match findCue s.cues id with
  | some cue => decide (openingPosition s cue ≤ s.posn.p) && !s.onset.openWindows.contains id && lineEndListed s id
  | none => false

/-- The windows that open at an advance in IN_PASS, after the whole group of the advance (R164). -/
def openWindows (s : State) : State :=
  match s.pass.state, s.sched.held with
  | .inPass, some h =>
    if h.cues.any (opensNow s) then
      s.setOnset { s.onset with
        openWindows := h.cues.filter fun id => s.onset.openWindows.contains id || opensNow s id
        detector := if s.onset.detector = .idle then .waitingQuiet else s.onset.detector }
    else s
  | _, _ => s

/-! ## Detection (R166, R167) -/

/-- The onset offset of a trigger for a cue that starts at S (R167). -/
def onsetOffset (s : State) (cueS : Nat) : Int := ((s.posn.p - s.onsetRec.levelDelay : Nat) : Int) - (cueS : Int)

/-- A trigger: the onset goes to the eligible cue of lowest set order, and the detector waits for quiet; without one it is ignored (R166, R167). -/
def trigger (s : State) : State :=
  match s.onset.openWindows.find? (fun id => !credited s id) with
  | some id =>
    writeTakeCue id (fun c => { c with onset := some (onsetOffset s (((findCue s.cues id).map CueRec.s).getD 0)) })
      (s.setOnset { s.onset with detector := .waitingQuiet })
  | none => s

/-- An arrival judged by the detector state (R166). -/
def judgeSample (value : Nat) (s : State) : State :=
  match s.onset.detector with
  | .idle => s
  | .waitingQuiet => if value ≤ s.onsetRec.armLevel then s.setOnset { s.onset with detector := .armed } else s
  | .armed => if s.onsetRec.triggerLevel ≤ value then trigger s else s

/-- An arrival (R163): ignored in CONFIG, handed to the detector in RUNNING. -/
def arrive (value : Nat) (s : State) : State := if s.running then judgeSample value s else s

/-- A pulse of the level port (R163): LVSYNC begins a sample, each of the next eight LVCLK edges takes one bit, the eighth is the arrival. -/
def levelPulse (s : State) : LevelPulse → State
  | .sync => s.setOnset { s.onset with sample := some [] }
  | .clock b =>
    match s.onset.sample with
    | none => s
    | some bits =>
      if bits.length = 7 then arrive (bitsNum (b :: bits).reverse) (s.setOnset { s.onset with sample := none })
      else s.setOnset { s.onset with sample := some (b :: bits) }

end Sys2Proof.Machine
end

