-- ==== Sys2Proof/Machine/Outputs.lean ====
section
/-! DEFINITION. The output units (chapter 8): fired events, settlement, forcing to rest, the overlay word and the overlay port; and the handing of an advance to the scheduler and the detector (R20, R141, R142). -/

namespace Sys2Proof.Machine

/-! ## Fired events (R147 to R156) -/

/-- STREAMER_BEGIN (R148): lane A if free, else lane B if free, else OVERLAP on the cue's entry. -/
def fireStreamer (e : Event) (s : State) : State :=
  let lane : Lane := ⟨e.cue, e.pos, ((findCue s.cues e.cue).map CueRec.s).getD 0⟩
  if s.out.laneA.isNone then s.setOut { s.out with laneA := some lane }
  else if s.out.laneB.isNone then s.setOut { s.out with laneB := some lane }
  else writeTakeCue e.cue (fun c => { c with overlap := true }) s

/-- A lane freed where it holds the cue (R149). -/
def freeLane (cue : Nat) (l : Option Lane) : Option Lane := l.filter fun x => decide (x.cue ≠ cue)

/-- The NO_FLASH flag of a cue. -/
def noFlashOf (s : State) (cue : Nat) : Bool := ((findCue s.cues cue).map CueRec.noFlash).getD false

/-- FLASH_ON (R149): frees the cue's lane, and raises the flash count unless the cue has NO_FLASH. -/
def fireFlashOn (e : Event) (s : State) : State :=
  s.setOut { s.out with
    laneA := freeLane e.cue s.out.laneA
    laneB := freeLane e.cue s.out.laneB
    flashCount := if noFlashOf s e.cue then s.out.flashCount else s.out.flashCount + 1 }

/-- The nearest pip number of a cue: 0 with SILENT_LAST clear, 1 with it set (R153). -/
def nearestPip (s : State) (cue : Nat) : Nat :=
  if ((findCue s.cues cue).map CueRec.silentLast).getD false then 1 else 0

/-- PIP_ON (R153). -/
def firePipOn (e : Event) (s : State) : State :=
  s.setOut { s.out with
    pipCount := s.out.pipCount + 1
    pitch := if s.outputs.accentLast ∧ e.pip = some (nearestPip s e.cue) then .accent else .normal }

/-- The landing position of a punch (R156). -/
def landing (s : State) (k : EventKind) : Nat := min (s.posn.p + s.sched.advanceOf k) s.pMax

/-- PUNCH_IN (R155, R156): the count rises, and the first one of the pass writes the first punch-in. -/
def firePunchIn (e : Event) (s : State) : State :=
  writeTake (fun r => if r.punchIn.isNone then { r with punchIn := some (landing s e.kind) } else r)
    (s.setOut { s.out with punchCount := s.out.punchCount + 1 })

/-- PUNCH_OUT (R155, R156): the count falls, and the last punch-out is written. -/
def firePunchOut (e : Event) (s : State) : State :=
  writeTake (fun r => { r with punchOut := some (landing s e.kind) })
    (s.setOut { s.out with punchCount := s.out.punchCount - 1 })

/-- One event of a group handed to the output units, the take record and the onset detector (R142). -/
def fireEvent (s : State) (e : Event) : State :=
  match e.kind with
  | .streamerBegin => fireStreamer e s
  | .pipOn => firePipOn e s
  | .pipOff => s.setOut { s.out with pipCount := s.out.pipCount - 1 }
  | .flashOn => fireFlashOn e s
  | .flashOff => s.setOut { s.out with flashCount := s.out.flashCount - 1 }
  | .punchIn => firePunchIn e s
  | .punchOut => firePunchOut e s
  | .lineEnd => closeWindow e.cue s

/-- Settlement of PIPG, PIPP, the pitch and PUNCH after a group (R154, R155). -/
def settleLines (o : OutputUnits) : OutputUnits :=
  { o with
    pipg := decide (0 < o.pipCount)
    pipp := decide (0 < o.pipCount) && decide (o.pitch = .accent)
    pitch := if o.pipCount = 0 then .normal else o.pitch
    punch := decide (0 < o.punchCount) }

/-- The events that are due at the present position: from the head, every one whose fire position has been reached (R141). -/
def dueEvents (s : State) : List Event := s.sched.events.takeWhile fun e => decide (e.fire ≤ s.posn.p)

/-- One group fired (R141, R142, R147): the due events leave the list for the fired record, are handed on in list order, and the lines are settled once. -/
def fireGroup (s : State) : State :=
  let due := dueEvents s
  if due.isEmpty then s
  else
    let s1 := s.setSched { s.sched with
      events := s.sched.events.dropWhile fun e => decide (e.fire ≤ s.posn.p)
      fired := s.sched.fired ++ due.map Event.identity }
    let s2 := due.foldl fireEvent s1
    s2.setOut (settleLines s2.out)

/-- An advance handed on (R20): the scheduler fires its group, then the detector opens the windows reached (R164). Where the group closes the last open window and the advance opens another, a detector that was ARMED goes through IDLE to WAITING_QUIET; R164 lets either block go first (DESIGN CHOICE, log 35). -/
def handAdvance (s : State) : State := openWindows (fireGroup s)

/-! ## Forcing to rest (R157) -/

/-- The counts go to 0, the pitch to NORMAL, both lanes are freed and the lines go low. -/
def restOutputs (o : OutputUnits) : OutputUnits :=
  { o with laneA := none, laneB := none, flashCount := 0, pipCount := 0, pitch := .normal, punchCount := 0
           pipg := false, pipp := false, punch := false }

/-- The output units forced to rest. -/
def forceToRest (s : State) : State := s.setOut (restOutputs s.out)

/-! ## The overlay word (R150 to R152, R158) -/

/-- The display position Q = p + A_eff of the overlay channel (R150). -/
def displayPosition (s : State) : Nat := s.posn.p + s.sched.advOverlay

/-- The column of a held lane at display position Q and width W (R150). -/
def laneColumn (w q : Nat) (l : Lane) : Nat :=
  let c := w * min (q - l.b) (l.s - l.b) / (l.s - l.b)
  if c = w then w - 1 else c

/-- The column field of a lane: 4095 where it is free (R158). -/
def columnField (s : State) (l : Option Lane) : Nat :=
  match l with
  | some x => laneColumn s.outputs.overlayWidth (displayPosition s) x
  | none => 4095

/-- The event of lower set order. -/
def lowerOrder (a b : Event) : Event := if b.order < a.order then b else a

/-- The label cue: the cue of lowest set order whose LINE_END stands in the event list (R151). -/
def labelCue (s : State) : Option Nat :=
  match s.sched.events.filter (fun e => decide (e.kind = .lineEnd)) with
  | [] => none
  | e :: rest => some (rest.foldl lowerOrder e).cue

/-- The countdown to a line start (R152). -/
def countdownTo (q cueS : Nat) : Nat := if q < cueS then min 255 ((cueS - q + 119) / 120) else 0

/-- The word composed from the present state (R158). -/
def overlayWord (s : State) : OverlayWord :=
  let cue := (labelCue s).bind (findCue s.cues)
  { laneA := columnField s s.out.laneA
    laneB := columnField s s.out.laneB
    flash := decide (0 < s.out.flashCount)
    punchTally := s.out.punch
    pipGate := s.out.pipg
    countdown := (cue.map fun c => countdownTo (displayPosition s) c.s).getD 0
    label := (labelCue s).getD 0
    tag := (cue.map CueRec.tag).getD 0
    transport := s.agr.transport
    take := s.log.counter % 128 }

/-- A composition (R158, R159): the word replaces any word in the buffer. -/
def compose (s : State) : State :=
  s.setOut { s.out with buffer := some (overlayWord s), lastWord := some (overlayWord s) }

/-! ## The overlay port (R160, R202) -/

/-- The w low bits of a number, most significant first. -/
def numBits : Nat → Nat → List Bool
  | 0, _ => []
  | w + 1, n => n.testBit w :: numBits w n

/-- The 65 bits of a word in the order they are sent (R202). -/
def OverlayWord.wire (x : OverlayWord) : List Bool :=
  true :: (numBits 12 x.laneA ++ numBits 12 x.laneB ++ [x.flash, x.punchTally, x.pipGate] ++ numBits 8 x.countdown ++
    numBits 16 x.label ++ numBits 4 x.tag ++ numBits 2 x.transport.code ++ numBits 7 x.take)

/-- The level of OVDAT: the bit that the shifter puts out, low in IDLE (R160). -/
def OutputUnits.ovdat (o : OutputUnits) : Bool :=
  match o.shifter with
  | .idle => false
  | .shifting w n => (w.wire[n]?).getD false

/-- OVSYNC raised (R160). -/
def overlaySync (o : OutputUnits) : OutputUnits :=
  match o.shifter, o.buffer with
  | .idle, some w => { o with shifter := .shifting w 0, buffer := none }
  | _, _ => o

/-- A rising edge of OVCLK (R160, R202): the next bit, and IDLE after the 65th. -/
def overlayClock (o : OutputUnits) : OutputUnits :=
  match o.shifter with
  | .idle => o
  | .shifting w n => { o with shifter := if n + 1 = Config.overlayBits then .idle else .shifting w (n + 1) }

end Sys2Proof.Machine
end

