-- ==== Sys2Proof/Machine/Plan.lean ====
section
/-! DEFINITION. The plan unit (chapter 5): validation, the search through blocks and repeats, and the requests of the pass controller. -/

namespace Sys2Proof.Machine

/-! ## Validation (R87, R90) -/

/-- The blocks of a plan as index and last step of the body (R87). -/
def planBlocks (steps : List PlanStep) : List (Nat × Nat) :=
  steps.zipIdx.filterMap fun (st, i) =>
    match st with
    | .block span _ => some (i, i + span)
    | .cue _ _ _ _ => none

/-- The blocks that a step is inside (R87). -/
def enclosing (blocks : List (Nat × Nat)) (i : Nat) : List (Nat × Nat) :=
  blocks.filter fun b => decide (b.1 < i) && decide (i ≤ b.2)

/-- The plan is valid (R90): it is not empty, every block ends within the plan and within the blocks around it, and has a depth of at most 3. -/
def planValid (steps : List PlanStep) : Bool :=
  !steps.isEmpty &&
    (planBlocks steps).all fun b =>
      decide (b.2 < steps.length) && (enclosing (planBlocks steps) b.1).all (fun o => decide (b.2 ≤ o.2)) &&
        decide ((enclosing (planBlocks steps) b.1).length ≤ 3)

/-! ## The search (R92, R93, R96, R97) -/

/-- Where a search stands: about to enter a step, or about to leave one. -/
inductive SearchPos where
  | enter (i : Nat)
  | leave (x : Nat)
  deriving DecidableEq, Repr

/-- What a search leaves: the CUE step found or none, the repeat stack, and the missing cue ids of the steps skipped, in order. -/
structure SearchResult where
  found : Option Nat
  stack : List StackEntry
  skipped : List Nat
  deriving DecidableEq, Repr

/-- Prepends a skipped cue id to a result. -/
def SearchResult.skip (id : Nat) (r : SearchResult) : SearchResult := { r with skipped := id :: r.skipped }

/-- The walk of one search. Each stack entry carries whether this search entered the first step of its present run: such a run that ends has formed no set, and its block is given up (R97). The fuel bounds the walk: by R97 a search of a valid plan enters each of its 64 steps at most 6 times (log 23). -/
def search (steps : List PlanStep) (cues : List CueRec) : Nat → List (StackEntry × Bool) → SearchPos → SearchResult
  | 0, _, _ => ⟨none, [], []⟩
  | fuel + 1, stack, .enter i =>
    match steps[i]? with
    | none => ⟨none, [], []⟩
    | some (.block span repeats) =>
      search steps cues fuel ((⟨i + 1, i + span, repeats⟩, true) :: stack) (.enter (i + 1))
    | some (.cue first _ _ _) =>
      if (findCue cues first).isSome then ⟨some i, stack.map Prod.fst, []⟩
      else (search steps cues fuel stack (.leave i)).skip first
  | fuel + 1, [], .leave x => search steps cues fuel [] (.enter (x + 1))
  | fuel + 1, (top, whole) :: rest, .leave x =>
    if x ≠ top.last then search steps cues fuel ((top, whole) :: rest) (.enter (x + 1))
    else if whole || decide (top.remaining ≤ 1) then search steps cues fuel rest (.leave x)
    else
      search steps cues fuel (({ top with remaining := top.remaining - 1 }, true) :: rest) (.enter top.first)

/-- Fuel for a search (log 23). -/
abbrev searchFuel : Nat := 4096

/-- A search from a position, the run of every standing entry begun by an earlier search. -/
def State.search (s : State) (pos : SearchPos) : SearchResult :=
  Sys2Proof.Machine.search s.plan.steps s.cues searchFuel (s.plan.stack.map fun e => (e, false)) pos

/-! ## Sets, modes and answers (R94, R95) -/

/-- What the plan unit answers: an active set with its mode and step index. -/
structure PlanAnswer where
  set : List Nat
  mode : PassMode
  stepIndex : Nat
  deriving DecidableEq, Repr

/-- The active set of a CUE step: the first cue and the records that follow it, run length in all, shortened at the end of the table (R94). -/
def activeSet (cues : List CueRec) (first run : Nat) : List Nat :=
  ((cues.dropWhile fun c => c.id != first).take run).map CueRec.id

/-- The mode of a pass (R95). -/
def passMode (mode : StepMode) (passes remaining : Nat) : PassMode :=
  match mode with
  | .rehearse => .rehearse
  | .record => .record
  | .firstRehearse => if remaining = passes then .rehearse else .record

/-- The answer of the CUE step at an index with the present passes remaining (R94, R95). -/
def stepAnswer (s : State) (i : Nat) : Option PlanAnswer :=
  match s.plan.steps[i]? with
  | some (.cue first run passes mode) =>
    some ⟨activeSet s.cues first run, passMode mode passes s.plan.passesRemaining, i⟩
  | _ => none

/-- The passes field of the CUE step at an index (R93). -/
def stepPasses (steps : List PlanStep) (i : Nat) : Nat :=
  match steps[i]? with
  | some (.cue _ _ passes _) => passes
  | _ => 0

/-- The result of a search taken into the plan unit, with a PLAN_SKIP for each skipped step (R91, R93, R96). -/
def takeSearch (r : SearchResult) (s : State) : State :=
  let s' := r.skipped.foldl (fun t id => post .planSkip id t) s
  match r.found with
  | some i =>
    s'.setPlan { s'.plan with cursor := some i, passesRemaining := stepPasses s.plan.steps i, stack := r.stack }
  | none => s'.setPlan { s'.plan with cursor := none, passesRemaining := 0, stack := [] }

/-- A search made and answered: the state after it, and the set found or none. -/
def searchAnswer (pos : SearchPos) (s : State) : State × Option PlanAnswer :=
  let s' := takeSearch (s.search pos) s
  (s', s'.plan.cursor.bind (stepAnswer s'))

/-! ## Requests (R91, R98 to R101) -/

/-- PLAN RUN at the plan unit: the stack is emptied and the search enters step 0 (R91). -/
def planStart (s : State) : State × Option PlanAnswer :=
  searchAnswer (.enter 0) (s.setPlan { s.plan with stack := [] })

/-- The first cue of the step at an index is in the table (R93, R98, R99). -/
def stepCuePresent (s : State) (i : Nat) : Bool :=
  match s.plan.steps[i]? with
  | some (.cue first _ _ _) => (findCue s.cues first).isSome
  | _ => false

/-- The first cue id of the step at an index. -/
def stepFirstCue (s : State) (i : Nat) : Nat :=
  match s.plan.steps[i]? with
  | some (.cue first _ _ _) => first
  | _ => 0

/-- The present step once more: its set formed afresh, or the step skipped and left when its first cue is missing (R98, R99). -/
def planSame (i : Nat) (s : State) : State × Option PlanAnswer :=
  if stepCuePresent s i then (s, stepAnswer s i)
  else searchAnswer (.leave i) (post .planSkip (stepFirstCue s i) s)

/-- *Advance* (R98). -/
def planAdvance (s : State) : State × Option PlanAnswer :=
  match s.plan.cursor with
  | none => (s, none)
  | some i =>
    let s' := s.setPlan { s.plan with passesRemaining := s.plan.passesRemaining - 1 }
    if s.plan.passesRemaining ≤ 1 then searchAnswer (.leave i) s' else planSame i s'

/-- *Again* (R99). -/
def planAgain (s : State) : State × Option PlanAnswer :=
  match s.plan.cursor with
  | none => (s, none)
  | some i => planSame i s

/-- *Skip* (R100). -/
def planGiveUp (s : State) : State × Option PlanAnswer :=
  match s.plan.cursor with
  | none => (s, none)
  | some i => searchAnswer (.leave i) (s.setPlan { s.plan with passesRemaining := 0 })

/-- The end of a run by PLAN ABORT (R101); the steps are kept. -/
def planEndRun (s : State) : State := s.setPlan { s.plan with cursor := none, passesRemaining := 0, stack := [] }

end Sys2Proof.Machine
end

