-- ==== Sys2Proof/Machine/Pass.lean ====
section
/-! DEFINITION. The pass controller (chapter 6): pins, preparation, the window table, begin, skip, clearing, abandonment, own-entry maintenance and loop closure. -/

namespace Sys2Proof.Machine

/-! ## Pins (R83) -/

/-- The pins of the records of a set, and of no others: the old set's are cleared in the same event. -/
def pinSet (set : List Nat) (s : State) : State :=
  s.setCues (s.cues.map fun c => { c with pinned := set.contains c.id })

/-- Every pin cleared. -/
def clearPins (s : State) : State := pinSet [] s

/-! ## Preparation (R104) -/

/-- The records of a set. -/
def setRecords (s : State) (set : List Nat) : List CueRec := set.filterMap (findCue s.cues)

/-- P_in of a set (R104): the smallest S − pre-roll × 120, floored at 0. -/
def windowIn (s : State) (set : List Nat) : Nat :=
  match (setRecords s set).map fun c => c.s - c.prerollR s.defaults * 120 with
  | [] => 0
  | x :: rest => rest.foldl min x

/-- P_out of a set (R104): the largest E + post-roll × 120, at most P_MAX. -/
def windowOut (s : State) (set : List Nat) : Nat :=
  ((setRecords s set).map fun c => min s.pMax (c.e + c.postrollR s.defaults * 120)).foldl max 0

/-- The label of a prepared pass (R104). -/
def labelNow (s : State) : Nat :=
  if s.agr.transport = .rolling then nextPass s.agr.passNumber else s.agr.passNumber

/-- The own window record of an answer (R104). -/
def ownWindowOf (s : State) (a : PlanAnswer) : OwnWindow :=
  ⟨labelNow s, a.stepIndex, a.mode, a.set, a.set.headD 0, windowIn s a.set, windowOut s a.set⟩

/-- The WINDOW of an own window record (R104). -/
def windowFrame (w : OwnWindow) : QueuedFrame := .window w.label w.firstCue w.pIn w.pOut

/-- Preparation, steps 1 to 5 of R104, with the pass state it leaves. -/
def prepare (a : PlanAnswer) (st : PassState) (s : State) : State :=
  let s1 := pinSet a.set s
  handHeld ⟨a.set, a.mode⟩ (s1.setPass { s1.pass with state := st, own := some (ownWindowOf s1 a) })

/-- Step 6 of R104: the WINDOW of the own window record is offered. -/
def offerWindow (s : State) : State :=
  match s.pass.own with
  | some w => offerInternal (windowFrame w) s
  | none => s

/-- The pass controller gives up its pass: pins cleared, no record, no held set (R116, R117, R118). -/
def giveUpPass (s : State) : State :=
  let s1 := giveUpHeld (clearPins s)
  s1.setPass { s1.pass with state := .idle, outcome := none, own := none }

/-- The label of the own window record replaced (R110, R111, R114). -/
def relabel (n : Nat) (s : State) : State :=
  s.setPass { s.pass with own := s.pass.own.map fun w => { w with label := n } }

/-! ## The window table (R105 to R108) -/

/-- An entry put into the table in address order, in place of the entry of its address. -/
def putWindow (e : WindowEntry) (ws : List WindowEntry) : List WindowEntry :=
  ws.filter (fun w => decide (w.address < e.address)) ++ e :: ws.filter (fun w => decide (e.address < w.address))

/-- The window table replaced. -/
def State.setWindows (s : State) (ws : List WindowEntry) : State := s.setPass { s.pass with windows := ws }

/-- An applied WINDOW (R106). -/
def applyWindow (a n c i o : Nat) (s : State) : State :=
  s.setWindows (putWindow ⟨a, n, c, s.clampPos i, s.clampPos o, .announced, none⟩ s.pass.windows)

/-- The entry of an address removed (R107, R108). -/
def dropWindow (a : Nat) (s : State) : State :=
  s.setWindows (s.pass.windows.filter fun w => decide (w.address ≠ a))

/-- The status and more flag of the entry of an address and pass number written (R107, R108). -/
def markWindow (a n : Nat) (st : WindowStatus) (more : Bool) (s : State) : State :=
  s.setWindows (s.pass.windows.map fun w =>
    if w.address = a ∧ w.passNumber = n then { w with status := st, more := some more } else w)

/-- An applied DONE (R107). -/
def applyDone (a n : Nat) (oc : DoneOutcome) (more : Bool) (s : State) : State :=
  match windowOf s.pass.windows a with
  | none => s
  | some w =>
    if w.passNumber ≠ n then s
    else
      match oc with
      | .cleared => markWindow a n .cleared more s
      | .skipped => markWindow a n .skipped more s
      | .abandoned => dropWindow a s

/-- The pruning of an applied LOCATE (R108). -/
def pruneWindows (n : Nat) (s : State) : State :=
  s.setWindows (s.pass.windows.filter fun w => decide (w.passNumber = n))

/-- An IDLE beacon from a PRESENT peer whose entry is ANNOUNCED (R64, R108). -/
def idleBeacon (a : Nat) (s : State) : State :=
  match windowOf s.pass.windows a with
  | some w => if w.status = .announced then markWindow a w.passNumber .cleared false s else s
  | none => s

/-! ## Begin and skip (R110, R111) -/

/-- The begin of a pass with a free take slot (R110). The begin's request finds the set armed, since the pass state becomes IN_PASS in the same event (R134). Where the reservation raises LOG_FULL (R173) and the full transmit queue refuses the HOLD offered for it, the TX_OVERFLOW of the agreement unit stands before the PASS_BEGUN of the pass controller: two blocks post together, and R191 lets either stand first (DESIGN CHOICE, log 40). -/
def beginPass (w : OwnWindow) (s : State) : State :=
  let s1 := reserveTake w s
  post .passBegun (nextTake s.log.counter) (requestBuild (s1.setPass { s1.pass with state := .inPass }))

/-- A pass skipped for want of a take slot (R111): DONE first, then the WINDOW of the relabelled record. TAKE_SKIPPED stands before the TX_OVERFLOW of either frame, which R191 leaves open (DESIGN CHOICE, log 42). -/
def skipPass (w : OwnWindow) (s : State) : State :=
  let s1 := emptyList (post .takeSkipped w.firstCue s)
  let s2 := offerInternal (.done s.agr.passNumber .skipped true) s1
  offerWindow (relabel (nextPass s.agr.passNumber) s2)

/-- A STANDBY station that does not begin at a roll entry (R110). -/
def missRoll (w : OwnWindow) (s : State) : State :=
  let s1 := emptyList s
  if w.label = s.agr.passNumber then relabel (nextPass s.agr.passNumber) s1 else s1

/-- A roll entry handed to the pass controller (R110, R111). -/
def rollEntry (s : State) : State :=
  match s.pass.state, s.pass.own with
  | .standby, some w =>
    if w.label = s.agr.passNumber ∧ s.bus.link = .active then
      if s.log.free then beginPass w s else skipPass w s
    else missRoll w s
  | _, _ => s

/-! ## Clearing (R112) -/

/-- The clearing test (R112). -/
def clears (s : State) : Bool :=
  decide (s.pass.state = .inPass) && s.sched.events.isEmpty &&
    (match s.pass.own with
     | some w => decide (w.pOut ≤ s.posn.p)
     | none => false)

/-- The clearing of a pass (R112). The notices of the pass controller and the PLAN_SKIP of the plan unit stand before the TX_OVERFLOW of a refused frame, and PASS_CLEARED and TAKE_READY before PLAN_SKIP: R191 leaves the order of two blocks open (DESIGN CHOICE, log 42). -/
def clearPass (s : State) : State :=
  let n := currentTake s
  let s1 := post .takeReady n (post .passCleared n (closeTake .complete (closeWindows s)))
  match planAdvance s1 with
  | (s2, some a) =>
    let s3 := prepare a .cleared s2
    offerWindow (offerInternal (.done s.agr.passNumber .cleared true)
      (s3.setPass { s3.pass with outcome := some .more }))
  | (s2, none) =>
    let s3 := post .planEnd 0 (giveUpHeld (clearPins s2))
    offerInternal (.done s.agr.passNumber .cleared false)
      (s3.setPass { s3.pass with state := .cleared, outcome := some .none, own := none })

/-- The clearing test of a frame edge, made after the agreement unit's handling (R112). -/
def clearingTest (s : State) : State := if clears s then clearPass s else s

/-! ## Abandonment and the stop (R113 to R116) -/

/-- The closure count ends where the transport leaves ROLLING: at an applied LOCATE or ANCHOR STOPPED (R120), and at the local stop, by which the closure condition fails (DEDUCED, log 38). -/
def endClosureCount (s : State) : State := s.setPass { s.pass with closureCount := none }

/-- A pass in IN_PASS abandoned by a stop or a locate (R116). PASS_ABANDONED stands before the PLAN_SKIP of the plan unit, and both and PLAN_END before the TX_OVERFLOW of a refused frame, in the order of the steps of R116; R191 leaves the order of two blocks open (DESIGN CHOICE, log 42). -/
def abandonPass (s : State) : State :=
  let n := currentTake s
  let label := (s.pass.own.map OwnWindow.label).getD s.agr.passNumber
  let s1 := emptyList (forceToRest (post .passAbandoned n (closeTake .abandoned (closeWindows s))))
  match planAgain s1 with
  | (s2, some a) => offerWindow (prepare a .standby s2)
  | (s2, none) => offerInternal (.done label .abandoned false) (post .planEnd 0 (giveUpPass s2))

/-- A station leaves CLEARED when the loop closes or stops (R113). -/
def leaveCleared (s : State) : State :=
  match s.pass.outcome with
  | some .more => s.setPass { s.pass with state := .standby, outcome := none }
  | _ => s.setPass { s.pass with state := .idle, outcome := none, own := none }

/-- An applied ANCHOR STOPPED, or the local stop, at the pass controller (R115). -/
def passStop (s : State) : State :=
  match s.pass.state with
  | .inPass => abandonPass s
  | .cleared => leaveCleared s
  | .standby => s
  | .idle => s

/-- An applied LOCATE at the pass controller by the pass state, after the pruning (R113, R114); the pass number is the LOCATE's already. -/
def passLocate (s : State) : State :=
  match s.pass.state with
  | .inPass => abandonPass s
  | .cleared => relabel s.agr.passNumber (leaveCleared s)
  | .standby => relabel s.agr.passNumber s
  | .idle => s

/-- The re-locate after an applied CLOSURE-origin LOCATE with target t as written (R123). -/
def reLocate (t : Nat) (s : State) : State :=
  match s.pass.state, s.pass.own with
  | .standby, some w =>
    if w.label = s.agr.passNumber ∧ w.pIn < t then
      offerInternal (.locate true true s.posn.rate s.station.settle s.agr.passNumber w.pIn) s
    else s
  | _, _ => s

/-! ## Own-entry maintenance (R109) -/

/-- The frame that own-entry maintenance calls for (R109). -/
def maintenanceFrame (s : State) : Option QueuedFrame :=
  let entry := windowOf s.pass.windows s.address
  match s.pass.own with
  | some w =>
    if entry.map WindowEntry.passNumber = some w.label then none else some (windowFrame w)
  | none =>
    match entry, s.pass.state with
    | some e, .cleared =>
      if e.passNumber = s.agr.passNumber ∧ e.status = .announced then some (.done s.agr.passNumber .cleared false) else none
    | some e, .idle =>
      if e.status = .announced ∨ e.more = some true then some (.done e.passNumber .abandoned false) else none
    | _, _ => none

/-- Own-entry maintenance at a frame edge: nothing while a frame of the kind stands in the queue (R109). -/
def ownEntryMaintenance (s : State) : State :=
  match maintenanceFrame s with
  | some f => if s.queued f.kind then s else offerInternal f s
  | none => s

/-! ## Loop closure (R119 to R121) -/

/-- An entry of the closure set: a current or a next entry (R105, R119). -/
def inClosureSet (n : Nat) (w : WindowEntry) : Bool :=
  decide (w.passNumber = n) || decide (w.passNumber = nextPass n)

/-- The closure set (R119); the table stands in ascending address order. -/
def closureSet (s : State) : List WindowEntry := s.pass.windows.filter (inClosureSet s.agr.passNumber)

/-- The closure condition (R119). -/
def closureCondition (s : State) : Bool :=
  decide (s.agr.transport = .rolling) && decide (s.pass.state ≠ .inPass) &&
    (closureSet s).any (fun w => decide (w.address = s.address)) &&
    s.pass.windows.all fun w =>
      !(decide (w.passNumber = s.agr.passNumber) && (decide (w.status = .announced) || decide (w.more = some true)))

/-- The closure count at this edge when the condition holds (R120). -/
def nextClosureCount : Option Nat → Nat
  | none => 0
  | some c => min 65535 (c + 1)

/-- The duty rank of the station (R120). -/
def dutyRank (s : State) : Nat := (closureSet s).countP fun w => decide (w.address < s.address)

/-- The count is one of the station's duty slots: c = k × G + j × m × G for some j (R120). -/
def dutySlot (k m grace c : Nat) : Bool := decide (k * grace ≤ c) && decide ((c - k * grace) % (m * grace) = 0)

/-- The station's duty comes at this count (R120). -/
def dutyDue (s : State) (c : Nat) : Bool := dutySlot (dutyRank s) (closureSet s).length s.station.closureGrace c

/-- The closing frame (R121): a LOCATE to the earliest next window, or an ANCHOR STOPPED without one. -/
def closingFrame (s : State) : QueuedFrame :=
  match (s.pass.windows.filter fun w => decide (w.passNumber = nextPass s.agr.passNumber)).map WindowEntry.pIn with
  | [] => .anchor false s.posn.rate s.posn.pEdge
  | x :: rest =>
    .locate true true s.posn.rate s.station.settle (nextPass s.agr.passNumber) (rest.foldl min x)

/-- The closure test of a frame edge (R119 to R121). -/
def closureTest (s : State) : State :=
  if closureCondition s then
    let c := nextClosureCount s.pass.closureCount
    let s1 := s.setPass { s.pass with closureCount := some c }
    if dutyDue s c then offerInternal (closingFrame s) s1 else s1
  else s.setPass { s.pass with closureCount := none }

end Sys2Proof.Machine
end

