-- ==== Sys2Proof/Machine/Marks.lean ====
section
/-! DEFINITION. The mark unit (chapter 10): occurrences, the action of a mark, the judging of a handed pair. -/

namespace Sys2Proof.Machine

/-- A position inside the range of a mark, both ends included (10.1). -/
def Mark.inside (m : Mark) (x : Nat) : Bool := decide (m.low ≤ x) && decide (x ≤ m.high)

/-- The pair of two edge positions is an occurrence (R179). -/
def Mark.occurs (m : Mark) (prev edge : Nat) : Bool :=
  match m.condition with
  | .enter => !m.inside prev && m.inside edge
  | .leave => m.inside prev && !m.inside edge

/-- The STOP action (R181): one ANCHOR STOPPED of the mark unit at most stands in the queue, and several marks that act with STOP at one edge offer one frame; `offered` says that a mark has acted with STOP at this edge before. -/
def markStop (offered : Bool) (s : State) : State :=
  if offered || s.markStopFlag then s else offerTagged (.anchor false s.posn.rate s.posn.pEdge) true s

/-- The action of a mark (R180). -/
def markAction (offered : Bool) (a : MarkAction) (s : State) : State :=
  match a with
  | .notice => s
  | .hold => raiseMark s
  | .stop => markStop offered s

/-- A mark after it has acted (R180). -/
def Mark.afterActing (m : Mark) : Mark :=
  match m.rearm with
  | .once => { m with count := 0, armed := false }
  | .repeating => { m with count := m.reload }

/-- A mark acts (R180): MARK_FIRED, the action, then the re-arming. MARK_FIRED of the mark unit stands before the TX_OVERFLOW of a refused STOP, which R191 leaves open (DESIGN CHOICE, log 42). -/
def fireMark (offered : Bool) (n : Nat) (s : State) : State :=
  let m := s.mark n
  (markAction offered m.action (post .markFired n s)).setMark n m.afterActing

/-- A mark acts on a handed pair: an occurrence brings the count of an armed mark to 0 (R179, R180). -/
def Mark.acts (m : Mark) (prev edge : Nat) : Bool := m.armed && m.occurs prev edge && decide (m.count ≤ 1)

/-- One mark judged against a handed pair (R179). -/
def judgeMark (prev edge : Nat) (offered : Bool) (s : State) (n : Nat) : State :=
  let m := s.mark n
  if m.acts prev edge then fireMark offered n s
  else if m.armed && m.occurs prev edge then s.setMark n { m with count := m.count - 1 }
  else s

/-- A mark of a lower number acts with STOP on a handed pair (R181). -/
def stopBefore (prev edge : Nat) (s : State) (n : Nat) : Bool :=
  [1, 2, 3].any fun k => decide (k < n) && (s.mark k).acts prev edge && decide ((s.mark k).action = .stop)

/-- The four marks judged in the order of their numbers (R178, R180); the first one that acts with STOP offers the frame of the edge (R181). -/
def judgeMarks (pair : Option (Nat × Nat)) (s : State) : State :=
  match pair with
  | some (prev, edge) => [1, 2, 3, 4].foldl (fun t n => judgeMark prev edge (stopBefore prev edge s n) t n) s
  | none => s

end Sys2Proof.Machine
end

