-- ==== Sys2Proof/Machine/Agreement.lean ====
section
/-! DEFINITION. The agreement unit (chapters 1 and 3): the advance, the application of pending frames, holds, presence, settle, roll and beacons. -/

namespace Sys2Proof.Machine

/-! ## The advance (R17 to R20) -/

/-- The transport leaves ROLLING: the outputs go to rest and the closure count ends (R50, R51, R18, R120, R157). -/
def leaveRolling (t : Transport) (s : State) : State :=
  endClosureCount (forceToRest (s.setAgr { s.agr with transport := t, rollFresh := false }))

/-- The transport enters ROLLING at an edge, by a transport record that says so. The position rests until the next edge advances it (R20, R46, R49): ticks of the first frame do not move it. -/
def Agreement.entersRoll (a : Agreement) : Agreement := { a with transport := .rolling, rollFresh := true }

/-- The local stop at P_MAX: the transport stops, the outputs go to rest, the pass controller is told (R18, R115, R157). -/
def localStop (s : State) : State := passStop (leaveRolling .stopped s)

/-- The edge position after an edge of a ROLLING transport (R17). -/
def edgeTarget (s : State) : Nat := min (s.posn.pEdge + s.posn.rate) s.pMax

/-- Step 1 of the edge handling (R17, R18, R46). The advance is served before the local stop takes hold (R143). -/
def edgeAdvance (s : State) : State :=
  if s.agr.transport = .rolling then
    let s0 := s.setAgr { s.agr with rollFresh := false }
    let s1 := s0.setPosn { s.posn with pPrev := s.posn.pEdge, pEdge := edgeTarget s, p := edgeTarget s, acc := 0 }
    let s2 := if s.posn.p ≠ edgeTarget s then handAdvance s1 else s1
    if s.pMax < s.posn.pEdge + s.posn.rate then localStop s2 else s2
  else s.setPosn { s.posn with pPrev := s.posn.pEdge }

/-- The pair handed to the mark unit: the transport was ROLLING when step 1 began and still is when it ends (R178). -/
def handedPair (before after : State) : Option (Nat × Nat) :=
  if before.agr.transport = .rolling ∧ after.agr.transport = .rolling then some (after.posn.pPrev, after.posn.pEdge) else none

/-- The cap of a tick (R19). -/
def tickCap (s : State) : Nat := min (s.posn.pEdge + s.posn.rate - 1) s.pMax

/-- A tick of a ROLLING transport (R19); it is an advance when it changes p (R20). R19 moves p at every tick of a ROLLING transport, while R20, R46 and R49 let the position rest from the edge at which ROLLING is entered until the next edge, which is the first advance of the roll: the model follows these three, and a tick of that first frame leaves position and accumulator as they are (DESIGN CHOICE, log 29). -/
def tickAdvance (s : State) : State :=
  if s.agr.transport = .rolling ∧ s.agr.rollFresh = false then
    let p' := min (s.posn.p + (s.posn.acc + s.posn.rate) / 120) (tickCap s)
    let s1 := s.setPosn { s.posn with p := p', acc := (s.posn.acc + s.posn.rate) % 120 }
    if p' = s.posn.p then s1 else handAdvance s1
  else s

/-- A position write by an applied frame or by adoption (R15): clamped, p_prev unchanged, not an advance. -/
def writePosition (x : Nat) (s : State) : State :=
  s.setPosn { s.posn with p := s.clampPos x, pEdge := s.clampPos x, acc := 0 }

/-! ## Presence (R60 to R62) -/

/-- The hold entry of an address removed (R56). -/
def dropHold (a : Nat) (s : State) : State :=
  s.setAgr { s.agr with holds := s.agr.holds.filter fun h => decide (h.address ≠ a) }

/-- The slot of an address written. -/
def State.setSlot (s : State) (a : Nat) (x : PeerSlot) : State := s.setAgr (s.agr.setSlot a x)

/-- The presence update of a frame that is not a BEACON (R60). A peer that rejoins by such a frame keeps the beacon record that its timeout left, until a BEACON is applied from it: R61 keeps the record "until the slot is next written", and the table of 3.7 calls it the record of the last BEACON applied (DESIGN CHOICE, log 39). -/
def heardFrom (a : Nat) (s : State) : State :=
  let slot := s.agr.slot a
  if slot.presence = .absent then post .peerJoined a (s.setSlot a { slot with presence := .present, age := 0 })
  else s.setSlot a { slot with age := 0 }

/-- The presence update of a BEACON with an equal frame-rate code (R60, R62). -/
def beaconEqual (a : Nat) (s : State) : State :=
  let slot := s.agr.slot a
  let s1 := s.setSlot a { slot with presence := .present, age := 0 }
  if slot.presence = .present then s1 else post .peerJoined a s1

/-- The presence update of a BEACON with a different frame-rate code (R62). -/
def beaconDiffers (a : Nat) (s : State) : State :=
  let slot := s.agr.slot a
  let s1 := s.setSlot a { slot with presence := .mismatched, age := 0 }
  if slot.presence = .mismatched then s1 else post .peerMismatch a (dropWindow a (dropHold a s1))

/-- The presence update of a frame from a peer (R48, R60, R62). -/
def presenceUpdate (f : BusFrame) (s : State) : State :=
  if f.kind = .beacon then
    if f.rateCode = s.timing.frameRate.code then beaconEqual f.source s else beaconDiffers f.source s
  else heardFrom f.source s

/-! ## Application of frames (R48 to R66) -/

/-- An ANCHOR or LOCATE has been applied: the join state is SETTLED (R65), and the generation is taken. -/
def takeGeneration (g : Nat) (s : State) : State := s.setAgr { s.agr with generation := g, join := .settled }

/-- An ANCHOR at a STOPPED or CUEING station (R49). The request of the position write and that of a changed rate build the same list (R134). An ANCHOR STOPPED in CUEING stops at the position carried in the frame, as R49 and R181 state it; R122 says of a closing STOP that it stops at the target, and no field tells a closing STOP from another (DESIGN CHOICE, log 31). -/
def anchorAtRest (g : Nat) (rolling : Bool) (r p : Nat) (s : State) : State :=
  let s1 := takeRate r (writePosition p (takeGeneration g s))
  let rest : Agreement := { s1.agr with transport := .stopped, settle := 0, settleFresh := false, locate := none }
  requestBuild (if rolling then rollEntry (s1.setAgr rest.entersRoll) else passStop (s1.setAgr rest))

/-- An ANCHOR at a ROLLING station (R50). The build of a changed rate comes before the stop reaches the pass controller, so that a late event found at it flags the take that the stop then closes (R136, R139, R170; R50 itself gives no order: DEDUCED, log 30). -/
def anchorAtRoll (g : Nat) (rolling : Bool) (r : Nat) (s : State) : State :=
  let s1 := takeRate r (takeGeneration g s)
  let s2 := if s1.posn.rate = s.posn.rate then s1 else requestBuild s1
  if rolling then s2 else passStop (leaveRolling .stopped s2)

/-- An applied ANCHOR (R49, R50). -/
def applyAnchor (g : Nat) (rolling : Bool) (r p : Nat) (s : State) : State :=
  if s.agr.transport = .rolling then anchorAtRoll g rolling r s else anchorAtRest g rolling r p s

/-- A LOCATE that R52 discards: CUEING on the same pass number, and a target not earlier than the record's. -/
def duplicateDiscarded (n t : Nat) (s : State) : Bool :=
  decide (s.agr.transport = .cueing) && decide (n = s.agr.passNumber) &&
    (match s.agr.locate with
     | some l => decide (l.target ≤ s.clampPos t)
     | none => false)

/-- The LOCATE taken by the agreement unit (R51). -/
def takeLocate (g : Nat) (closure play : Bool) (r st n t : Nat) (s : State) : State :=
  let s0 := if s.agr.transport = .rolling then leaveRolling .cueing s else s
  let s1 := takeRate r (writePosition t (takeGeneration g s0))
  s1.setAgr { s1.agr with
    transport := .cueing, settle := min st 250, settleFresh := true, passNumber := n
    locate := some ⟨s.clampPos t, closure, play⟩ }

/-- An applied LOCATE (R51, R52): taken, handed to the pass controller (R108, R114, R123), then to the scheduler. -/
def applyLocate (g : Nat) (closure play : Bool) (r st n t : Nat) (s : State) : State :=
  if duplicateDiscarded n t s then s
  else
    let s1 := passLocate (pruneWindows n (takeLocate g closure play r st n t s))
    requestBuild (if closure then reLocate (s.clampPos t) s1 else s1)

/-- A hold entry put into the set in address order, in place of the entry of its address. -/
def putHold (e : HoldEntry) (hs : List HoldEntry) : List HoldEntry :=
  hs.filter (fun h => decide (h.address < e.address)) ++ e :: hs.filter (fun h => decide (e.address < h.address))

/-- An applied HOLD (R55): a lease of 0 is raised to 1; the entry is fresh for this edge. -/
def applyHold (a lease reason : Nat) (s : State) : State :=
  s.setAgr { s.agr with holds := putHold ⟨a, max 1 lease, reason, true⟩ s.agr.holds }

/-- An applied RELEASE (R56). -/
def applyRelease (a : Nat) (s : State) : State := dropHold a s

/-- The generation, p_edge and p_prev as they stood when step 2 began (R66), and the number of the take IN_PROGRESS and the take counter as the edge found them (R170). -/
structure SlipRef where
  generation : Nat
  pEdge : Nat
  pPrev : Nat
  take : Option Nat
  counter : Nat
  deriving DecidableEq, Repr

/-- The reference of the slip check of an edge: the compared values from the state in which step 2 begins (R66), the take and the counter from the state before step 1, so that a slip lands before an abandonment by the local stop too (R170; DEDUCED, log 30). -/
def slipRef (before s : State) : SlipRef :=
  ⟨s.agr.generation, s.posn.pEdge, s.posn.pPrev, before.log.inProgress.map TakeRec.number, before.log.counter⟩

/-- Two positions lie within a tolerance of one another. -/
def within (tol a b : Nat) : Bool := decide (a ≤ b + tol) && decide (b ≤ a + tol)

/-- The slip check passes (R66). -/
def slipPasses (k : SlipRef) (tol g p : Nat) : Bool :=
  decide (g = k.generation) && (within tol p k.pEdge || within tol p k.pPrev)

/-- The slip check (R66); a beacon's position stands clamped in its record (R64). -/
def slipCheck (k : SlipRef) (a g p : Nat) (s : State) : State :=
  if s.agr.join = .settled ∧ ¬ slipPasses k s.station.slipTolerance g p then landSlip k.take k.counter (post .slip a s) else s

/-- The beacon is adopted (R65). -/
def adopts (t : Transport) (s : State) : Bool :=
  decide (s.bus.link = .listening) && decide (s.agr.join = .waiting) && decide (t ≠ .cueing)

/-- Join adoption (R65): transport, rate, generation, pass number, and the position as a position write. -/
def adopt (t : Transport) (g n r p : Nat) (s : State) : State :=
  let s1 := takeRate r (takeGeneration g s)
  let s2 := writePosition (if t = .rolling then p + s1.posn.rate else p) s1
  let taken : Agreement := { s2.agr with
    transport := t, passNumber := n, settle := 0, settleFresh := false, rollFresh := false, locate := none }
  requestBuild (if t = .rolling then rollEntry (s2.setAgr taken.entersRoll) else s2.setAgr taken)

/-- An applied BEACON after its presence update (R64 to R66). -/
def applyBeacon (k : SlipRef) (a rc : Nat) (t : Transport) (ps : PassState) (g n r p : Nat) (s : State) : State :=
  let slot := s.agr.slot a
  if slot.presence = .absent then s
  else
    let s1 := s.setSlot a { slot with lastBeacon := some ⟨rc, t, g, n, ps, clampRate r, s.clampPos p⟩ }
    if slot.presence = .present then
      let s2 := if ps = .idle then idleBeacon a s1 else s1
      if adopts t s2 then adopt t g n r (s.clampPos p) s2 else slipCheck k a g (s.clampPos p) s2
    else s1

/-- The effect of the kind (R48). A TEST frame reaches no pending list (R28). -/
def applyPayload (k : SlipRef) (a : Nat) (x : Payload) (s : State) : State :=
  match x with
  | .anchor g rolling r p => applyAnchor g rolling r p s
  | .locate g closure play r st n t => applyLocate g closure play r st n t s
  | .hold lease reason => applyHold a lease reason s
  | .release => applyRelease a s
  | .window n c i o => applyWindow a n c i o s
  | .done n oc more => applyDone a n oc more s
  | .beacon rc t ps g n r p => applyBeacon k a rc t ps g n r p s
  | .test _ => s

/-- One frame of the pending list applied (R48): the presence update, the discard of a MISMATCHED peer's frame, the effect. A frame with a coded field that holds none of its codes has no effect (R200). -/
def applyFrame (k : SlipRef) (s : State) (h : HeardFrame) : State :=
  let s1 := if h.echo then s else presenceUpdate h.frame s
  if ¬ h.echo ∧ (s1.agr.slot h.frame.source).presence = .mismatched ∧ h.frame.kind ≠ .beacon then s1
  else
    match parsePayload h.frame.kind h.frame.payload with
    | some x => applyPayload k h.frame.source x s1
    | none => s1

/-- Step 2 of the edge handling (R46, R48): the pending list is applied in completion order and left empty; `before` is the state before step 1 (R170). -/
def applyFrames (before s : State) : State :=
  s.agr.frames.foldl (applyFrame (slipRef before s)) (s.setAgr { s.agr with frames := [] })

/-! ## Holds (R57, R59) -/

/-- An entry after step 3, or none where its lease has run out (R57). -/
def HoldEntry.count (h : HoldEntry) : Option HoldEntry :=
  if h.fresh then some { h with fresh := false }
  else if h.lease ≤ 1 then none
  else some { h with lease := h.lease - 1 }

/-- The leases counted; HOLD_EXPIRED is posted for the station's own entry (R57). -/
def countLeases (s : State) : State :=
  let ran := s.agr.holds.any fun h => decide (h.address = s.address) && h.count.isNone
  let s1 := s.setAgr { s.agr with holds := s.agr.holds.filterMap HoldEntry.count }
  if ran then post .holdExpired s.address s1 else s1

/-- Own-hold maintenance (R59). -/
def ownHoldMaintenance (s : State) : State :=
  let own := holdOf s.agr.holds s.address
  if s.agr.reasons.any then
    if (own.map fun h => decide (s.station.holdLease / 2 < h.lease)).getD false || s.queued .hold then s
    else offerInternal (ownHold s s.agr.reasons) s
  else if own.isSome && !s.queued .hold && !s.queued .release then offerInternal .release s
  else s

/-- Step 3 of the edge handling (R57, R59): HOLD_EXPIRED of the agreement unit stands before the TX_OVERFLOW of a refused HOLD or RELEASE (DESIGN CHOICE, log 42). -/
def holdsStep (s : State) : State := ownHoldMaintenance (countLeases s)

/-! ## Presence ages (R61) -/

/-- A peer times out (R61). The age keeps the value that exceeded the limit. -/
def losePeer (a : Nat) (s : State) : State :=
  let slot := s.agr.slot a
  post .peerLost a (dropWindow a (dropHold a (s.setSlot a { slot with presence := .absent, age := slot.age + 1 })))

/-- The age of one slot raised (R61). -/
def agePeer (s : State) (a : Nat) : State :=
  let slot := s.agr.slot a
  if slot.presence = .absent then s
  else if 3 * s.station.beaconInterval < slot.age + 1 then losePeer a s
  else s.setSlot a { slot with age := slot.age + 1 }

/-- The station addresses 1..30 in ascending order. -/
def addresses : List Nat := (List.range 30).map (· + 1)

/-- Step 4 of the edge handling (R61). Peers that time out at one edge are handled in ascending address order, which the rule leaves open (DESIGN CHOICE, log 32). -/
def presenceStep (s : State) : State := addresses.foldl agePeer s

/-! ## Settle and roll (R53) -/

/-- Step 5 of the edge handling: the settle count is lowered, unless it was written at this edge. -/
def settleStep (s : State) : State :=
  if s.agr.transport = .cueing then
    s.setAgr { s.agr with settle := if s.agr.settleFresh then s.agr.settle else s.agr.settle - 1, settleFresh := false }
  else s

/-- Step 6 of the edge handling: the roll condition. -/
def rollStep (s : State) : State :=
  match s.agr.transport, s.agr.settle, s.agr.locate with
  | .cueing, 0, some l =>
    if l.thenPlay then
      if s.agr.holds.isEmpty then rollEntry (s.setAgr { s.agr.entersRoll with locate := none }) else s
    else s.setAgr { s.agr with transport := .stopped, locate := none }
  | _, _, _ => s

/-! ## Beacons and the listening period (R38, R63) -/

/-- A BEACON is offered and the countdown set again (R38, R63). -/
def offerBeacon (s : State) : State :=
  offerInternal .beacon (s.setAgr { s.agr with beaconCountdown := s.station.beaconInterval })

/-- Step 7 of the edge handling (R63). -/
def beaconStep (s : State) : State :=
  if s.agr.beaconCountdown ≤ 1 then offerBeacon s
  else s.setAgr { s.agr with beaconCountdown := s.agr.beaconCountdown - 1 }

/-- The listening period ends (R38, R65): ACTIVE, SETTLED, and a BEACON at once. -/
def linkUp (s : State) : State :=
  let s1 := s.setBus { s.bus with link := .active, listeningCount := 0 }
  offerBeacon (s1.setAgr { s1.agr with join := .settled })

/-- The listening count of the bus controller, after the agreement unit's handling (R38). -/
def listeningStep (s : State) : State :=
  if s.bus.link = .listening then
    if s.bus.listeningCount ≤ 1 then linkUp s
    else s.setBus { s.bus with listeningCount := s.bus.listeningCount - 1 }
  else s

/-! ## The frame edge (R46) -/

/-- Steps 2 to 7 of the edge handling, on the state that step 1 left (R46); `before` is the state before step 1. -/
def agreementSteps (before s : State) : State :=
  beaconStep (rollStep (settleStep (presenceStep (holdsStep (applyFrames before s)))))

/-- A frame edge: the agreement unit's seven steps, the listening count, the pass controller's clearing, maintenance and closure tests, the judging of the marks, and the composition of the overlay word (R38, R46, R112, R109, R119, R178, R158, R184). -/
def frameEdge (s : State) : State :=
  let s1 := edgeAdvance s
  let s2 := listeningStep (agreementSteps s s1)
  let s3 := closureTest (ownEntryMaintenance (clearingTest s2))
  compose (judgeMarks (handedPair s s1) s3)

end Sys2Proof.Machine
end

