-- ==== Sys2Proof/Machine/Reference.lean ====
section
/-! DEFINITION. The reference unit (chapter 1): qualification, the divider, the lock logic, the watchdog, holdover, ticks, and the edges of a STEP command; the meanings of REF_PULSE, WATCHDOG_EXPIRY, SYNTHESISED_EDGE, TICK and STEPPED_EDGE. -/

namespace Sys2Proof.Machine

/-- The reference unit replaced by one in which a new sequence of ticks begins (R11). -/
def RefUnit.atOrigin (u : RefUnit) (lock : LockState) (origin : Nat) (period : Option Nat) (count : Nat) : RefUnit :=
  { u with lock := lock, timingOrigin := some origin, heldPeriod := period, lockCount := count, tickNumber := 0 }

/-- The watchdog is armed (R3). -/
def RefUnit.watchdogArmed (u : RefUnit) : Bool :=
  u.timingOrigin.isSome && u.heldPeriod.isSome && (decide (u.lock = .acquiring) || decide (u.lock = .locked))

/-- A measured period from the timing origin, with the period held (R3): at most 16,777,215; a distance of 0 counts as 1 (DESIGN CHOICE, log 6). An edge that is taken first at the moment of its watchdog's expiry measures T + T div 2, one count less than its distance; one that a sender gives later, the watchdog still armed, is taken as an edge at that moment (DESIGN CHOICE, log 36). A period brought down to 16,777,215 is compared like any other (DESIGN CHOICE, log 45). -/
def measuredPeriod (held : Option Nat) (origin instant : Nat) : Nat :=
  let counts :=
    match held with
    | some t => min (t + t / 2) (instant - origin)
    | none => instant - origin
  min Config.longestPeriod (max 1 counts)

/-- Two periods agree (R3). -/
def periodsAgree (t held : Nat) : Bool := decide (t ≤ held + held / 256) && decide (held ≤ t + held / 256)

/-- The period of a candidate edge agrees with the one held. That of an edge at the moment of the watchdog's expiry does not (R3). DESIGN CHOICE (log 45): a period of more than 16,777,215 counts is compared as 16,777,215 and may agree; R3 says that no such period reaches a comparison because the watchdog expires first, but the watchdog of a held period above 11,184,810 expires only past 16,777,215 counts. -/
def edgeAgrees (held origin instant : Nat) : Bool :=
  decide (instant - origin ≤ held + held / 2) && periodsAgree (measuredPeriod (some held) origin instant) held

/-- Events of the device's own time and of its ports act while RESETN is high and the part is RUNNING (R1, R197). -/
def State.live (s : State) : Bool := !s.resetnLow && s.running

/-! ## Candidate edges (R4, R5, R7, R10) -/

/-- A candidate edge in NO_REF (R4). -/
def candidateNoRef (x : Nat) (s : State) : State := frameEdge (s.setRef (s.ref.atOrigin .acquiring x none 0))

/-- The lock count after a period in ACQUIRING (R5). -/
def acquiredCount (u : RefUnit) (origin instant : Nat) : Nat :=
  match u.heldPeriod with
  | some held => if edgeAgrees held origin instant then u.lockCount + 1 else 1
  | none => 1

/-- A candidate edge in ACQUIRING with a timing origin (R5). REF_LOCKED stands before the notices of the edge's handling (log 19). -/
def candidateAcquiring (o x : Nat) (s : State) : State :=
  let t := measuredPeriod s.ref.heldPeriod o x
  if Config.lockPeriods ≤ acquiredCount s.ref o x then
    frameEdge (post .refLocked 0 (s.setRef (s.ref.atOrigin .locked x (some t) Config.lockPeriods)))
  else frameEdge (s.setRef (s.ref.atOrigin .acquiring x (some t) (acquiredCount s.ref o x)))

/-- A candidate edge in LOCKED (R7, R13). -/
def candidateLocked (o held x : Nat) (s : State) : State :=
  let t := measuredPeriod (some held) o x
  if edgeAgrees held o x then frameEdge (s.setRef (s.ref.atOrigin .locked x (some t) s.ref.lockCount))
  else frameEdge (flagRefUnstable (s.setRef (s.ref.atOrigin .acquiring x (some t) 1)))

/-- A candidate edge in HOLDOVER (R10): absorbed soon after a synthesised edge, else a frame edge. -/
def candidateHoldover (o held x : Nat) (s : State) : State :=
  let s1 := s.setRef (s.ref.atOrigin .acquiring x (some held) 1)
  if x - o ≤ held / 2 then s1 else frameEdge s1

/-- A candidate edge at an instant, by the lock state (1.1.2). In ACQUIRING without an origin it becomes the origin with no period measured (R6). -/
def candidateEdge (x : Nat) (s : State) : State :=
  match s.ref.lock, s.ref.timingOrigin, s.ref.heldPeriod with
  | .acquiring, some o, _ => candidateAcquiring o x s
  | .acquiring, none, _ => frameEdge (s.setRef (s.ref.atOrigin .acquiring x none 0))
  | .locked, some o, some held => candidateLocked o held x s
  | .holdover, some o, some held => candidateHoldover o held x s
  | _, _, _ => candidateNoRef x s

/-- A transition of REF is a pulse of the configured source (R1). -/
def RefSource.takes (src : RefSource) (t : RefTransition) : Bool :=
  match src, t with
  | .inputRise, .rise => true
  | .inputFall, .fall => true
  | _, _ => false

/-- The pulse is qualified (R1): RUNNING under its source, and held for at least 2 µs. -/
def qualifies (t : RefTransition) (heldNs : Nat) (s : State) : Bool :=
  s.live && s.timing.refSource.takes t && decide (Config.qualifyNs ≤ heldNs)

/-- REF_PULSE (R1, R2): a qualified pulse goes through the divider. -/
def execRefPulse (t : RefTransition) (heldNs instant : Nat) (s : State) : Host.Outcome State Fault Refusal :=
  if qualifies t heldNs s then
    if s.timing.refDiv = 1 then .next (candidateEdge instant s)
    else if s.ref.dividerPhase = 0 then .next (candidateEdge instant (s.setRef { s.ref with dividerPhase := 1 }))
    else .next (s.setRef { s.ref with dividerPhase := 0 })
  else .next s

/-! ## The unit's own time (R6, R8, R9, R11) -/

/-- The watchdog expires in ACQUIRING (R6). -/
def expireAcquiring (s : State) : State :=
  s.setRef { s.ref with lockCount := 0, heldPeriod := none, timingOrigin := none }

/-- The moment at which the watchdog expires: the first count at which the time exceeds T + T div 2 (R3; the worked sequence of 1.1 has 60,001 for T = 40,000). A candidate edge at this same count may be taken first (R3, log 4). -/
def watchdogMoment (o held : Nat) : Nat := o + held + held / 2 + 1

/-- The watchdog expires in LOCKED (R8, R13): REF_LOST, the flag, then one synthesised edge. -/
def enterHoldover (o held : Nat) (s : State) : State :=
  frameEdge (flagRefUnstable (post .refLost 0
    (s.setRef (s.ref.atOrigin .holdover (watchdogMoment o held) (some held) s.ref.lockCount))))

/-- WATCHDOG_EXPIRY (R3, R6, R8). An unarmed watchdog does not expire. -/
def execWatchdogExpiry (s : State) : Host.Outcome State Fault Refusal :=
  if s.live then
    match s.ref.lock, s.ref.timingOrigin, s.ref.heldPeriod with
    | .acquiring, some _, some _ => .next (expireAcquiring s)
    | .locked, some o, some held => .next (enterHoldover o held s)
    | _, _, _ => .next s
  else .next s

/-- SYNTHESISED_EDGE (R9). -/
def execSynthesisedEdge (s : State) : Host.Outcome State Fault Refusal :=
  if s.live then
    match s.ref.lock, s.ref.timingOrigin, s.ref.heldPeriod with
    | .holdover, some o, some held =>
      .next (frameEdge (s.setRef (s.ref.atOrigin .holdover (o + held) (some held) s.ref.lockCount)))
    | _, _, _ => .next s
  else .next s

/-- The lock states that deliver ticks (R11). -/
def LockState.ticks : LockState → Bool
  | .locked => true
  | .holdover => true
  | .noRef => false
  | .acquiring => false

/-- TICK (R11, R19). -/
def execTick (s : State) : Host.Outcome State Fault Refusal :=
  if s.live && s.ref.lock.ticks then
    .next (tickAdvance (s.setRef { s.ref with tickNumber := min 255 (s.ref.tickNumber + 1) }))
  else .next s

/-! ## Stepped edges (R12, R184) -/

/-- The answer of a STEP command whose last edge has been handled (R184). -/
def answerStep (asked : Nat) (s : State) : State :=
  s.setPort { s.port with
    stepRun := none
    response := some ⟨.ok, .stepped asked s.agr.transport s.posn.pEdge⟩ }

/-- STEPPED_EDGE (R12, R184): the next edge of the STEP command in progress; the last one answers the command. -/
def execSteppedEdge (s : State) : Host.Outcome State Fault Refusal :=
  if s.live then
    match s.port.stepRun with
    | some r =>
      let s1 := frameEdge s
      if r.left ≤ 1 then .next (answerStep r.asked s1)
      else .next (s1.setPort { s1.port with stepRun := some { r with left := r.left - 1 } })
    | none => .next s
  else .next s

end Sys2Proof.Machine
end

