-- ==== Sys2Proof/Machine/Bus.lean ====
section
/-! DEFINITION. The bus controller (chapter 2): attempts, lost contentions, bit errors, completed and discarded frames, address clashes, the pending list, and the line test; the meanings of the stage-bus commands. -/

namespace Sys2Proof.Machine

/-! ## The line as the controller reads it -/

/-- The controller reads the real line: in every link state but OFF and an INTERNAL line test (R37, R42). -/
def State.readsLine (s : State) : Bool :=
  match s.bus.link, s.bus.lineTest with
  | .off, _ => false
  | .lineTest, some t => decide (t.mode = .busEcho)
  | .lineTest, none => false
  | _, _ => true

/-- The receiver replaced. -/
def State.setRx (s : State) (rx : Receiver) : State := s.setBus { s.bus with rx := rx }

/-- The controller drives the real line: in ACTIVE, and in a BUS_ECHO line test (R37). -/
def State.drives (s : State) : Bool :=
  match s.bus.link, s.bus.lineTest with
  | .active, _ => true
  | .lineTest, some t => decide (t.mode = .busEcho)
  | _, _ => false

/-- The bits that the transmitter puts out from here on: the frame of its attempt, or what is left of an abort (R23, R31). `true` is recessive. -/
def BusCtl.output (b : BusCtl) : List Bool :=
  match b.sending with
  | some f => f.lineBits
  | none => List.replicate b.abort false

/-- The bits that the controller puts on TXD from here on, one a bit time, before it leaves the line released (R22, R37): those of the transmitter where it drives the real line, none elsewhere. -/
def State.driven (s : State) : List Bool := if s.drives then s.bus.output else []

/-- The level of TXD after a step: the first of the bits driven, and high where nothing is driven (R22, R37). `true` is high, recessive. -/
def State.txd (s : State) : Bool := s.driven.headD true

/-! ## The queue and the frame on the line (R30 to R34) -/

/-- The lowest class among entries (R30). -/
def lowestClass (q : List TxEntry) : Nat := (q.map fun e => e.frame.kind.cls).foldl min 3

/-- The entry that an attempt takes: the oldest of the lowest class (R30). -/
def chosenEntry (q : List TxEntry) : Option TxEntry := q.find? fun e => decide (e.frame.kind.cls = lowestClass q)

/-- The queue with its chosen entry marked on the line (R30). -/
def markChosen (cls : Nat) : List TxEntry → List TxEntry
  | [] => []
  | e :: rest => if e.frame.kind.cls = cls then { e with onLine := true } :: rest else e :: markChosen cls rest

/-- The fields of a frame as its attempt writes them: the generation of R54, the beacon fields of R63. -/
def attemptPayload (s : State) : QueuedFrame → Payload
  | .anchor rolling r p => .anchor (nextGeneration s.agr.generation) rolling r p
  | .locate closure play r st n t => .locate (nextGeneration s.agr.generation) closure play r st n t
  | .hold lease reason => .hold lease reason
  | .release => .release
  | .window n c i o => .window n c i o
  | .done n oc more => .done n oc more
  | .beacon =>
    .beacon s.timing.frameRate.code s.agr.transport s.pass.state s.agr.generation s.agr.passNumber s.posn.rate s.posn.pEdge

/-- The entry on the line leaves the queue (R31, R34). -/
def dropOnLine (b : BusCtl) : BusCtl :=
  { b with queue := b.queue.filter fun e => !e.onLine, sending := none }

/-- The entry on the line waits again (R31, R32). -/
def unmarkOnLine (retry : Bool) (b : BusCtl) : BusCtl :=
  { b with
    queue := b.queue.map fun e =>
      if e.onLine then { e with onLine := false, retries := if retry then e.retries + 1 else e.retries } else e
    sending := none }

/-- The retry count of the entry on the line (R31). -/
def onLineRetries (q : List TxEntry) : Nat := ((q.find? TxEntry.onLine).map TxEntry.retries).getD 0

/-- The bits read since the last bus event leave the line idle, and no frame began or ended in them (R23, R30). -/
def waitsToIdle (line : List Bool) (rx : Receiver) : Bool :=
  (runRx rx line).1.lineIdle && (runRx rx line).2.isEmpty

/-- A bit error ends an attempt (R31): the transmitter sends the abort of 8 dominant bits, starting at the next bit time. Bits read after the one in error fall into the abort, and the receiver counts from them (R23). -/
def beginAbort (after : List Bool) (b : BusCtl) : BusCtl :=
  { b with sending := none, rx := (runRx Receiver.reset after).1, abort := Config.abortBits - after.length }

/-- The start of an attempt (R30, R54, R63). -/
def startAttempt (e : TxEntry) (s : State) : State :=
  s.setBus { s.bus with
    queue := markChosen e.frame.kind.cls s.bus.queue
    sending := some ((attemptPayload s e.frame).frame s.address)
    rx := ⟨Config.idleBits, none⟩
    abort := 0 }

/-- TRANSMIT_START (R30): the link ACTIVE, no frame of its own on the line, an entry in the queue, and the line idle after the bits read, in which an abort still to be sent has gone out (R31). With a condition unmet it changes nothing (log 2). -/
def execTransmitStart (line : List Bool) (s : State) : Host.Outcome State Fault Refusal :=
  if !s.resetnLow && decide (s.bus.link = .active) && s.bus.sending.isNone && waitsToIdle line s.bus.rx &&
      decide (s.bus.abort ≤ line.length) then
    match chosenEntry s.bus.queue with
    | some e => .next (startAttempt e s)
    | none => .next s
  else .next s

/-! ## Frames that end in the bits read (R27, R28, R39, R40, R47) -/

/-- A frame handed to the pending list; at a full list it is discarded with RX_OVERRUN (R47). -/
def handOn (f : BusFrame) (echo : Bool) (s : State) : State :=
  if s.agr.frames.length < Config.pendingCapacity then
    s.setAgr { s.agr with frames := s.agr.frames ++ [⟨f, echo⟩] }
  else flagRxOverrun (post .rxOverrun f.source s)

/-- An address clash (R39): the queue is emptied, ADDRESS_CLASH posted, the link LISTEN_ONLY; the join state of a link that leaves LISTENING is SETTLED (R65), as it already is in ACTIVE. In LISTEN_ONLY the frame is discarded alone (R40). The listening count of a link that leaves LISTENING so stays as it stood, and READ STATUS PORT shows it: R38, R39 and R45 say neither that it is kept, nor that it goes on falling, nor that it is cleared (DESIGN CHOICE, log 41). -/
def addressClash (s : State) : State :=
  if s.bus.link = .listenOnly then s
  else
    post .addressClash s.address
      ((s.setBus { s.bus with link := .listenOnly, queue := [] }).setAgr { s.agr with join := .settled })

/-- A complete frame that the controller was not driving (R28). -/
def foreignFrame (f : BusFrame) (s : State) : State :=
  match s.bus.link with
  | .listening | .active | .listenOnly =>
    if f.kind = .test then s
    else if f.source = s.address then addressClash s
    else handOn f false s
  | .off | .lineTest => s

/-- What the frames that ended in a run of bits bring about, in the order in which they ended: a complete one is handled (R28), and a discard is silent (R27). -/
def received (outcomes : List RxOutcome) (s : State) : State :=
  outcomes.foldl (fun t o =>
    match o with
    | .complete f => foreignFrame f t
    | .discard => t) s

/-! ## The line test (R41 to R44) -/

/-- Test frame i (R41, R201): class 3, source address 0, the fixed pattern. -/
def testFrame (i : Nat) : BusFrame := (Payload.test i).frame 0

/-- The end of a test with a result: the link returns to OFF, where nothing is read or driven (R37, R44). -/
def endTest (r : TestResult) (s : State) : State :=
  s.setBus { s.bus with link := .off, sending := none, rx := Receiver.reset, lineTest := none, testResult := r, abort := 0 }

/-- The result of a test whose frames have all been judged (R42). -/
def judgedResult (bad : Nat) : TestResult := if bad = 0 then .pass else .fail bad

/-- What is read while a test frame is sent (R42, R43): in BUS_ECHO the real line, in INTERNAL the transmitter's own output. -/
def LineTest.reads (t : LineTest) (line : List Bool) : List Bool :=
  match t.mode with
  | .internal => (testFrame t.next).lineBits
  | .busEcho => line

/-- The judgement of a test frame (R31, R32, R42). In INTERNAL no other station can contend, so that a difference within the precedence byte is a bit error like any other (DESIGN CHOICE, log 37). -/
def LineTest.judge (t : LineTest) (line : List Bool) : TxVerdict :=
  match judgeTx (testFrame t.next).txBits line, t.mode with
  | .lost, .internal => .bitError
  | v, _ => v

/-- All frames of the test have been judged. The test still runs where the last one met a bit error and its abort is still to be sent (log 37). -/
def LineTest.allJudged (t : LineTest) : Bool := decide (t.count < t.next)

/-- The wait for 10 recessive bits (R43): from a receiver's state and the bit times waited so far through a run of bits, the bit times waited after it, or none where the wait has run out, no idle line seen within 1,000 bit times. An idle line ends the wait; where the start bit of another station takes it before the test frame, the wait begins again there, as after a lost contention (DESIGN CHOICE, log 24). -/
def idleWait (rx : Receiver) (waited : Nat) : List Bool → Option Nat
  | [] => if rx.lineIdle then some 0 else if waited < Config.lineTestWait then some waited else none
  | b :: rest =>
    if rx.lineIdle then idleWait (rxBit rx b).1 1 rest
    else if waited < Config.lineTestWait then idleWait (rxBit rx b).1 (waited + 1) rest
    else none

/-- The wait of a test for its next frame; in INTERNAL it cannot run out (R42). -/
def LineTest.waits (t : LineTest) (rx : Receiver) (line : List Bool) : Option Nat :=
  match t.mode with
  | .internal => some 0
  | .busEcho => idleWait rx t.waited line

/-- A test with no frame of its own on the line goes on through the bits read from a receiver's state on. With all frames judged it ends when the abort of the last one has gone out (log 37); else it waits for the next frame, and ends at once with LINE_BUSY where the wait runs out (R43). -/
def testGoesOn (t : LineTest) (rx : Receiver) (line : List Bool) (s : State) : State :=
  if t.allJudged then
    if s.bus.abort = 0 then endTest (judgedResult t.bad) s else s.setBus { s.bus with lineTest := some t }
  else
    match t.waits rx line with
    | some w => s.setBus { s.bus with lineTest := some { t with waited := w } }
    | none => endTest .lineBusy s

/-- Bits taken in while no frame of the controller's own is on the line: the receiver moves on by them (R23), an abort is sent in as many bit times (R31), and a line test goes on through them (R43). -/
def hear (line : List Bool) (s : State) : State :=
  let s1 := s.setBus { s.bus with rx := (runRx s.bus.rx line).1, abort := s.bus.abort - line.length }
  match s.bus.lineTest with
  | some t => testGoesOn t s.bus.rx line s1
  | none => s1

/-- A test frame judged good or bad (R42, R43), `after` the bits read after its end; the wait for the next frame begins there, after a bit error at the bit in error (DESIGN CHOICE, log 24). With the last frame judged the test ends, but while the abort of R31 and R43 is still to be sent it runs on to the end of the abort (DESIGN CHOICE, log 37: R43 does not say whether it ends at the bit error or after the abort). -/
def judgeTestFrame (good : Bool) (after : List Bool) (t : LineTest) (s : State) : State :=
  if good then
    testGoesOn { t with next := t.next + 1, waited := 0 } ⟨8, none⟩ after
      (s.setBus { s.bus with sending := none, rx := (runRx ⟨8, none⟩ after).1, abort := 0 })
  else
    testGoesOn { t with next := t.next + 1, bad := t.bad + 1, waited := 0 } Receiver.reset after
      (s.setBus (beginAbort after s.bus))

/-- A test frame that loses the contention is not judged and waits again from the end of the attempt (R43); the controller takes in the rest as a receiver (R32). -/
def testFrameLost (line after : List Bool) (t : LineTest) (s : State) : State :=
  testGoesOn { t with waited := 0 } (runRx ⟨Config.idleBits, none⟩ (line.take (line.length - after.length))).1 after
    (s.setBus { s.bus with sending := none, rx := (runRx ⟨Config.idleBits, none⟩ line).1, abort := 0 })

/-- What the bits read of a test frame bring about: judged good, judged bad with the abort, lost, or still on the line with nothing read. -/
def testFrameBits (line : List Bool) (t : LineTest) (s : State) : State :=
  let f := testFrame t.next
  let after := afterDifference f.txBits line
  match t.judge line with
  | .complete => judgeTestFrame true after t s
  | .bitError => judgeTestFrame false after t s
  | .lost => testFrameLost line after t s
  | .unfinished =>
    if line.isEmpty then s.setBus { s.bus with sending := some f, rx := ⟨Config.idleBits, none⟩, abort := 0 } else s

/-- The wait of a BUS_ECHO test before a frame has not run out (R43): at most 1,000 bit times (log 24). -/
def LineTest.mayWait (t : LineTest) (n : Nat) : Bool := decide (t.waited + n ≤ Config.lineTestWait)

/-- LINE_TEST_FRAME (R42, R43). In BUS_ECHO the bits read first bring the line to idle, an abort having gone out; the bits after that are what is read while the next test frame is sent. In INTERNAL the loop reads the transmitter's own output, an abort first and the recessive bits up to idle after it, and the operand says only whether the frame has ended: with bits it is read back whole. With no bits of the frame it stands on the line, and a later bus event judges it (log 20). Where all frames are judged and the last one's abort goes out, the test ends (log 37). -/
def execLineTestFrame (line : List Bool) (s : State) : Host.Outcome State Fault Refusal :=
  if !s.resetnLow && decide (s.bus.link = .lineTest) && s.bus.sending.isNone then
    match s.bus.lineTest with
    | none => .next s
    | some t =>
      if t.allJudged then
        if t.mode = .internal ∨ s.bus.abort ≤ line.length then .next (endTest (judgedResult t.bad) s) else .next s
      else
        match t.mode, bitsToIdle s.bus.rx line with
        | .internal, _ => .next (testFrameBits (if line.isEmpty then [] else t.reads line) t s)
        | .busEcho, some (n, _, rest) =>
          if t.mayWait n && decide (s.bus.abort ≤ n) then .next (testFrameBits rest t s) else .next s
        | .busEcho, none => .next s
  else .next s

/-- LINE_BUSY (R43): in BUS_ECHO the wait for idle before a frame runs out in the bits read. -/
def execLineBusy (line : List Bool) (s : State) : Host.Outcome State Fault Refusal :=
  if !s.resetnLow && decide (s.bus.link = .lineTest) && s.bus.sending.isNone then
    match s.bus.lineTest with
    | some t =>
      if t.allJudged = false ∧ t.waits s.bus.rx line = none then .next (endTest .lineBusy s)
      else .next s
    | none => .next s
  else .next s

/-! ## Lost contentions and bit errors (R31, R32) -/

/-- ARBITRATION_LOSS (R32): the bits read since the start of the attempt reach a recessive bit of the precedence byte read dominant. The frame on the line is taken in as a receiver, and a frame that completes in the bits after the lost one is handled like any other (R28). -/
def execArbitrationLoss (line : List Bool) (s : State) : Host.Outcome State Fault Refusal :=
  match s.bus.sending with
  | some f =>
    match s.bus.lineTest with
    | some t => if !s.resetnLow && decide (t.judge line = .lost) then .next (testFrameBits line t s) else .next s
    | none =>
      if !s.resetnLow && decide (judgeTx f.txBits line = .lost) then
        .next (received (runRx s.bus.rx line).2 (s.setBus { unmarkOnLine false s.bus with rx := (runRx s.bus.rx line).1 }))
      else .next s
  | none => .next s

/-- A bit error of a queue entry (R31): the abort, and the retry or the drop with LINK_FAULT; a frame that completes in the bits after the one in error is handled like any other (R28). LINK_FAULT stands before the notices of the agreement unit for such a frame (DESIGN CHOICE, log 42). -/
def entryBitError (after : List Bool) (s : State) : State :=
  received (runRx Receiver.reset after).2
    (if onLineRetries s.bus.queue < 2 then s.setBus (beginAbort after (unmarkOnLine true s.bus))
     else post .linkFault s.address (s.setBus (beginAbort after (dropOnLine s.bus))))

/-- BIT_ERROR (R31): the bits read since the start of the attempt differ from those sent, outside contention. In an INTERNAL line test the bits are those of a loop that does not give back what was sent (R42, log 37). -/
def execBitError (line : List Bool) (s : State) : Host.Outcome State Fault Refusal :=
  match s.bus.sending with
  | some f =>
    match s.bus.lineTest with
    | some t => if !s.resetnLow && decide (t.judge line = .bitError) then .next (testFrameBits line t s) else .next s
    | none =>
      if !s.resetnLow && decide (judgeTx f.txBits line = .bitError) then
        .next (entryBitError (afterDifference f.txBits line) s)
      else .next s
  | none => .next s

/-! ## FRAME_COMPLETE and FRAME_DISCARD (R27, R28, R34, R39) -/

/-- The echo of the entry on the line completes (R28, R34), `after` the bits read after its end, in which frames of other stations may end too. -/
def echoComplete (f : BusFrame) (after : List Bool) (s : State) : State :=
  received (runRx ⟨8, none⟩ after).2
    (handOn f true (s.setBus { dropOnLine s.bus with rx := (runRx ⟨8, none⟩ after).1 }))

/-- FRAME_COMPLETE (R28, R34, R39): the bits read complete the controller's own frame on the line (in an INTERNAL line test as its transmitter put it out, R42), or frames of other stations. With a condition unmet it changes nothing (log 2). -/
def execFrameComplete (line : List Bool) (s : State) : Host.Outcome State Fault Refusal :=
  if s.resetnLow then .next s
  else
    match s.bus.sending, s.bus.lineTest with
    | some _, some t => if t.judge (t.reads line) = .complete then .next (testFrameBits (t.reads line) t s) else .next s
    | some f, none =>
      if judgeTx f.txBits line = .complete then .next (echoComplete f (afterDifference f.txBits line) s) else .next s
    | none, _ =>
      if s.readsLine && (runRx s.bus.rx line).2.any RxOutcome.isComplete then
        .next (received (runRx s.bus.rx line).2 (hear line s))
      else .next s

/-- FRAME_DISCARD (R27): frames of other stations end in the bits read, every one of them in a silent discard. With a condition unmet it changes nothing (log 2). -/
def execFrameDiscard (line : List Bool) (s : State) : Host.Outcome State Fault Refusal :=
  if !s.resetnLow && s.readsLine && s.bus.sending.isNone && !(runRx s.bus.rx line).2.isEmpty &&
      !(runRx s.bus.rx line).2.any RxOutcome.isComplete then .next (hear line s)
  else .next s

end Sys2Proof.Machine
end

