-- ==== Sys2Proof/Machine/Reset.lean ====
section
/-! DEFINITION. The resets and START: the values each block takes after a FULL reset, at START and after a REJOIN; the meanings of POWER_ON, RESETN and RESETN_RELEASE. -/

namespace Sys2Proof.Machine

/-- The marks with their fields kept and the armed flags cleared (R183). -/
def disarmed (ms : Vector Mark 4) : Vector Mark 4 := ms.map fun m => { m with armed := false }

/-- The effective advances at r = 120: each equal to its configured advance (R146). -/
def startAdvances (o : OutputsRec) : Scheduler :=
  ⟨none, [], [], o.advOverlay, o.advPip, o.advPunchIn, o.advPunchOut⟩

/-- The bus controller in LISTENING from the beginning (R38, R45). -/
def startLink (interval : Nat) (result : TestResult) : BusCtl :=
  ⟨.listening, 2 * interval, [], none, Receiver.reset, none, result, 0⟩

/-- The FULL-reset values of every block (R14, R21, R45, R71, R85, R103, R125, R146, R162, R177, R183, R197), with no response. What lies outside the device stays: the level of RESETN, the commands still to come, and the bytes shifted out last. -/
def fullReset (s : State) : State :=
  { State.reset with port := { Port.reset with sdo := s.port.sdo }, resetnLow := s.resetnLow, pending := s.pending }

/-- The START values of every block (R14, R45, R71, R85, R103, R125, R146, R162, R177, R183, R196). Position, presence table, notices and line test result stay. -/
def startValues (s : State) : State :=
  { s with
    port := { s.port with part := .running }
    ref := RefUnit.reset
    bus := startLink s.station.beaconInterval s.bus.testResult
    agr := { Agreement.reset with peers := s.agr.peers, beaconCountdown := s.station.beaconInterval }
    cues := []
    plan := PlanUnit.reset
    pass := PassCtl.reset
    sched := startAdvances s.outputs
    out := OutputUnits.reset
    onset := { OnsetUnit.reset with sample := s.onset.sample }
    log := TakeLog.reset
    marks := disarmed s.marks }

/-- The REJOIN values of every block (R14, R21, R45, R71, R85, R103, R125, R146, R162, R177, R183, R198). The configuration, the cues and the part state stay. -/
def rejoinValues (s : State) : State :=
  { s with
    port := { s.port with notices := [], overflow := false }
    ref := RefUnit.reset
    posn := Position.reset
    bus := startLink s.station.beaconInterval s.bus.testResult
    agr := { Agreement.reset with beaconCountdown := s.station.beaconInterval }
    cues := s.cues.map fun c => { c with pinned := false }
    plan := PlanUnit.reset
    pass := PassCtl.reset
    sched := startAdvances s.outputs
    out := OutputUnits.reset
    onset := OnsetUnit.reset
    log := TakeLog.reset
    marks := disarmed s.marks }

/-- POWER_ON (R197). With RESETN held low the device stays in the reset (log 16). -/
def execPowerOn (s : State) : Host.Outcome State Fault Refusal := .next (fullReset s)

/-- RESETN falls (R197): a FULL reset; a STEP in processing ends without an answer (R184). -/
def execResetn (s : State) : Host.Outcome State Fault Refusal := .next ((fullReset s).setResetnLow true)

/-- RESETN rises (R197): the device leaves the reset. -/
def execResetnRelease (s : State) : Host.Outcome State Fault Refusal := .next (s.setResetnLow false)

end Sys2Proof.Machine
end

