-- ==== Sys2Proof/Machine/Configure.lean ====
section
/-! DEFINITION. The port's own commands: CONFIGURE, START and the RESET command (R193 to R198), and LINE TEST (R41). A command body gives the state it leaves and the response it forms; STEP alone forms none at once. -/

namespace Sys2Proof.Machine

/-- What a command body gives: the state it leaves, and the response written to the buffer (R188). -/
abbrev Body := State × Option Response

/-- An answer with data. -/
def answer (st : Status) (d : Reply) (s : State) : Body := (s, some ⟨st, d⟩)

/-- An answer without data; a refusal leaves the state as it was. -/
def answerPlain (st : Status) (s : State) : Body := answer st .empty s

/-- The answer of an accepted command that may have brought a value into range. -/
def okStatus (clamped : Bool) : Status := if clamped then .okClamped else .ok

/-! ## The five records (R193, R195) -/

/-- A frame rate of a code (R201). -/
def frameRateOfCode : Nat → Option FrameRate
  | 0 => some .f24
  | 1 => some .f25
  | 2 => some .f30
  | 3 => some .f48
  | 4 => some .f50
  | 5 => some .f60
  | _ => none

/-- REF_SOURCE of a code, numbered in the order of R193. -/
def refSourceOfCode : Nat → Option RefSource
  | 0 => some .inputRise
  | 1 => some .inputFall
  | 2 => some .step
  | _ => none

/-- BUS_RATE of a code, numbered in the order of R193. -/
def busRateOfCode : Nat → Option BusRate
  | 0 => some .k250
  | 1 => some .k500
  | 2 => some .k1000
  | _ => none

/-- The TIMING record, refused out of range. -/
def timingOf (rate div src bus : Byte) : Option TimingRec :=
  match frameRateOfCode rate.toNat, refSourceOfCode src.toNat, busRateOfCode bus.toNat with
  | some f, some r, some b => if div = 1 ∨ div = 2 then some ⟨f, div.toNat, r, b⟩ else none
  | _, _, _ => none

/-- The STATION record with its fields brought into range, whatever the address. -/
def StationRec.inRange (r : StationRec) : StationRec :=
  { r with
    beaconInterval := clamp 5 50 r.beaconInterval
    holdLease := clamp 25 250 r.holdLease
    closureGrace := clamp 2 25 r.closureGrace
    settle := clamp 0 250 r.settle
    slipTolerance := clamp 0 119 r.slipTolerance }

/-- The OUTPUTS record with its fields brought into range. -/
def OutputsRec.inRange (r : OutputsRec) : OutputsRec :=
  { r with
    advOverlay := clamp 0 1200 r.advOverlay
    advPip := clamp 0 1200 r.advPip
    advPunchIn := clamp 0 1200 r.advPunchIn
    advPunchOut := clamp 0 1200 r.advPunchOut
    overlayWidth := clamp 64 4094 r.overlayWidth
    pipLength := clamp 60 1200 r.pipLength
    flashLength := clamp 1 12 r.flashLength }

/-- The CUE DEFAULTS record with its fields brought into range. -/
def DefaultsRec.inRange (r : DefaultsRec) : DefaultsRec :=
  { lead := clamp 6 240 r.lead
    beeps := clamp 0 4 r.beeps
    spacing := clamp 6 120 r.spacing
    preroll := clamp 0 1200 r.preroll
    postroll := clamp 0 1200 r.postroll
    handleIn := clamp 0 240 r.handleIn
    handleOut := clamp 0 240 r.handleOut }

/-- TRIGGER_LEVEL against the stored ARM_LEVEL (R195). -/
def triggerOf (arm trigger : Nat) : Nat := if trigger ≤ arm then arm + 1 else trigger

/-- The ONSET record with its fields brought into range, ARM_LEVEL first (R195). -/
def OnsetRec.inRange (r : OnsetRec) : OnsetRec :=
  { armLevel := clamp 0 254 r.armLevel
    triggerLevel := triggerOf (clamp 0 254 r.armLevel) r.triggerLevel
    levelDelay := clamp 0 1200 r.levelDelay
    onsetEarly := clamp 0 48 r.onsetEarly }

/-- The place of a record in the record order, 1 to 5 (R194). -/
def recordPlace : ConfigRecord → Option Nat
  | .timing _ _ _ _ => some 1
  | .station _ _ _ _ _ _ => some 2
  | .outputs _ _ _ _ _ _ _ _ => some 3
  | .cueDefaults _ _ _ _ _ _ _ => some 4
  | .onset _ _ _ _ => some 5
  | .other _ => none

/-- The records after an accepted TIMING: it is written, and the four after it are discarded (R194). -/
def Conf.withTiming (r : TimingRec) : Conf := ⟨some r, none, none, none, none⟩

/-- The records after an accepted STATION. -/
def Conf.withStation (c : Conf) (r : StationRec) : Conf := ⟨c.timing, some r, none, none, none⟩

/-- The records after an accepted OUTPUTS. -/
def Conf.withOutputs (c : Conf) (r : OutputsRec) : Conf := ⟨c.timing, c.station, some r, none, none⟩

/-- The records after an accepted CUE DEFAULTS. -/
def Conf.withDefaults (c : Conf) (r : DefaultsRec) : Conf := ⟨c.timing, c.station, c.outputs, some r, none⟩

/-- The records after an accepted ONSET. -/
def Conf.withOnset (c : Conf) (r : OnsetRec) : Conf := ⟨c.timing, c.station, c.outputs, c.defaults, some r⟩

/-- The configuration after a record is written, and whether a field was brought into range; none where a field is refused (R193 to R195). -/
def writeRecord (c : Conf) : ConfigRecord → Option (Conf × Bool)
  | .timing rate div src bus => (timingOf rate div src bus).map fun r => (Conf.withTiming r, false)
  | .station a b h g st t =>
    let raw : StationRec := ⟨a.toNat, b.toNat, h.toNat, g.toNat, st.toNat, t.toNat⟩
    if addressInRange a.toNat then some (c.withStation raw.inRange, decide (raw.inRange ≠ raw)) else none
  | .outputs o p i q w l f x =>
    let raw : OutputsRec := ⟨o.toNat, p.toNat, i.toNat, q.toNat, w.toNat, l.toNat, f.toNat, decide (x = 1)⟩
    if x.toNat ≤ 1 then some (c.withOutputs raw.inRange, decide (raw.inRange ≠ raw)) else none
  | .cueDefaults l b sp pre post hin hout =>
    let raw : DefaultsRec := ⟨l.toNat, b.toNat, sp.toNat, pre.toNat, post.toNat, hin.toNat, hout.toNat⟩
    some (c.withDefaults raw.inRange, decide (raw.inRange ≠ raw))
  | .onset a t d e =>
    let raw : OnsetRec := ⟨a.toNat, t.toNat, d.toNat, e.toNat⟩
    some (c.withOnset raw.inRange, decide (raw.inRange ≠ raw))
  | .other _ => none

/-- CONFIGURE (R194). -/
def configureBody (r : ConfigRecord) (s : State) : Body :=
  if s.running then answerPlain .state s
  else
    match recordPlace r with
    | none => answerPlain .range s
    | some k =>
      if s.conf.held + 1 < k then answerPlain .order s
      else
        match writeRecord s.conf r with
        | none => answerPlain .range s
        | some (c, clamped) => answerPlain (okStatus clamped) (s.setConf c)

/-- START (R196). -/
def startBody (s : State) : Body :=
  if s.running then answerPlain .state s
  else if s.conf.held < 5 then answerPlain .order s
  else answerPlain .ok (startValues s)

/-- RESET FULL (R197): accepted in every part state; the buffer then holds OK. -/
def resetFullBody (s : State) : Body := answerPlain .ok (fullReset s)

/-- RESET REJOIN (R198). -/
def resetRejoinBody (s : State) : Body :=
  if s.running then answerPlain .ok (rejoinValues s) else answerPlain .state s

/-- RESET with its kind, FULL 0 and REJOIN 1 (R197, R198). -/
def resetBody (kind : Byte) (s : State) : Body :=
  if kind = 0 then resetFullBody s else if kind = 1 then resetRejoinBody s else answerPlain .range s

/-- The mode of a line test, INTERNAL 0 and BUS_ECHO 1 (R41). -/
def testModeOfCode : Nat → Option TestMode
  | 0 => some .internal
  | 1 => some .busEcho
  | _ => none

/-- A line test begun (R41): the link in LINE_TEST, the result RUNNING, frame 1 next. -/
def beginTest (m : TestMode) (count : Nat) (s : State) : State :=
  s.setBus { s.bus with link := .lineTest, rx := Receiver.reset, lineTest := some ⟨m, count, 1, 0, 0⟩, testResult := .running }

/-- LINE TEST (R41). The table of R41 has no order: where TIMING is not held and the mode or the count is out of range too, ORDER is answered (DESIGN CHOICE, log 15). -/
def lineTestBody (mode count : Byte) (s : State) : Body :=
  if s.running then answerPlain .state s
  else if s.conf.held = 0 then answerPlain .order s
  else
    match testModeOfCode mode.toNat with
    | some m =>
      if 1 ≤ count.toNat ∧ count.toNat ≤ 16 then answerPlain .ok (beginTest m count.toNat s) else answerPlain .range s
    | none => answerPlain .range s

end Sys2Proof.Machine
end

