-- ==== Sys2Proof/Machine/CueStore.lean ====
section
/-! DEFINITION. The cue store (chapter 4): the judging and building of a record, its place in the table, and the cue commands LOAD CUE, DELETE CUE, CLEAR CUES and READ CUE. -/

namespace Sys2Proof.Machine

/-- A cueing field: its value where its presence bit is set (R204). -/
def presentField (presence : Byte) (bit value : Nat) : Option Nat := if presence.getLsbD bit then some value else none

/-- The record that a LOAD CUE asks for, before the beeps reduction (R72, R204). -/
def rawCue (a : CueArgs) : CueRec :=
  { id := a.id.toNat, s := a.s.toNat, e := a.e.toNat
    lead := presentField a.presence 6 a.lead.toNat
    beeps := presentField a.presence 5 a.beeps.toNat
    spacing := presentField a.presence 4 a.spacing.toNat
    preroll := presentField a.presence 3 a.preroll.toNat
    postroll := presentField a.presence 2 a.postroll.toNat
    handleIn := presentField a.presence 1 a.handleIn.toNat
    handleOut := presentField a.presence 0 a.handleOut.toNat
    tag := a.tag.toNat
    noStreamer := a.options.getLsbD 0
    noFlash := a.options.getLsbD 1
    silentLast := !a.options.getLsbD 2
    pinned := false }

/-- The replace flag (R204). -/
def replaceFlag (a : CueArgs) : Bool := a.options.getLsbD 3

/-- A present cueing field lies in its range; an absent one is not checked (R73). -/
def fieldFits (lo hi : Nat) (x : Option Nat) : Bool :=
  match x with
  | some v => decide (lo ≤ v) && decide (v ≤ hi)
  | none => true

/-- The fields of a record satisfy R73 under a frame rate. -/
def cueFits (f : FrameRate) (c : CueRec) : Bool :=
  decide (c.id ≠ 0) && decide (c.s + 1 ≤ f.pMax) && decide (c.s < c.e) && decide (c.e ≤ f.pMax) &&
    decide (c.e - c.s ≤ f.fps * 7200) && fieldFits 6 240 c.lead && fieldFits 0 4 c.beeps && fieldFits 6 120 c.spacing &&
    fieldFits 0 1200 c.preroll && fieldFits 0 1200 c.postroll && fieldFits 0 240 c.handleIn &&
    fieldFits 0 240 c.handleOut && decide (c.tag ≤ 15)

/-- The beeps reduction applies: beeps 4 with SILENT_LAST clear (R74). -/
def beepsReduced (c : CueRec) : Bool := decide (c.beeps = some 4) && !c.silentLast

/-- The record stored (R74). -/
def storedCue (c : CueRec) : CueRec := if beepsReduced c then { c with beeps := some 3 } else c

/-- A record stands before another: by S, then by id (R76). -/
def CueRec.before (a b : CueRec) : Bool := decide (a.s < b.s) || (decide (a.s = b.s) && decide (a.id < b.id))

/-- A record put at the index that the order gives it (R76). -/
def insertCue (c : CueRec) : List CueRec → List CueRec
  | [] => [c]
  | x :: rest => if c.before x then c :: x :: rest else x :: insertCue c rest

/-- The record of an id removed, the gap closed (R76). -/
def removeCue (id : Nat) (cues : List CueRec) : List CueRec := cues.filter fun c => c.id != id

/-- LOAD CUE (R77, R78). -/
def loadCueBody (a : CueArgs) (s : State) : Body :=
  let raw := rawCue a
  let cue := storedCue raw
  if !s.running then answerPlain .state s
  else if !cueFits s.timing.frameRate raw then answerPlain .range s
  else
    match findCue s.cues raw.id with
    | none =>
      if Config.cueCapacity ≤ s.cues.length then answerPlain .full s
      else answerPlain (okStatus (beepsReduced raw)) (s.setCues (insertCue cue s.cues))
    | some old =>
      if !replaceFlag a then answerPlain .exists_ s
      else if old.pinned then answerPlain .busy s
      else answerPlain (okStatus (beepsReduced raw)) (s.setCues (insertCue cue (removeCue raw.id s.cues)))

/-- DELETE CUE (R79). -/
def deleteCueBody (id : Half) (s : State) : Body :=
  if !s.running then answerPlain .state s
  else if id = 0 then answerPlain .range s
  else
    match findCue s.cues id.toNat with
    | none => answerPlain .absent s
    | some old => if old.pinned then answerPlain .busy s else answerPlain .ok (s.setCues (removeCue id.toNat s.cues))

/-- CLEAR CUES (R80). -/
def clearCuesBody (s : State) : Body :=
  if !s.running then answerPlain .state s
  else if s.cues.any CueRec.pinned then answerPlain .busy s
  else answerPlain .ok (s.setCues [])

/-- The answer of READ CUE for an index found or not (R81). -/
def readCueAt (s : State) (i : Option Nat) : Body :=
  match i with
  | some k =>
    match s.cues[k]? with
    | some c => answer .ok (.cue s.cues.length k c) s
    | none => answer .absent (.cueCount s.cues.length) s
  | none => answer .absent (.cueCount s.cues.length) s

/-- READ CUE (R81). -/
def readCueBody (sel : CueSelector) (s : State) : Body :=
  if !s.running then answerPlain .state s
  else
    match sel with
    | .byId id => if id = 0 then answerPlain .range s else readCueAt s (cueIndex s.cues id.toNat)
    | .byIndex i => readCueAt s (some i.toNat)
    | .other _ => answerPlain .range s

end Sys2Proof.Machine
end

