-- ==== Sys2Proof/Machine/PlanCommands.lean ====
section
/-! DEFINITION. The plan commands PLAN CLEAR, PLAN STEP, PLAN RUN, PLAN SKIP and PLAN ABORT (R88 to R91, R100, R101, R104, R117, R118). -/

namespace Sys2Proof.Machine

/-- PLAN CLEAR (R89). -/
def planClearBody (s : State) : Body :=
  if !s.running || decide (s.pass.state ≠ .idle) then answerPlain .state s
  else answerPlain .ok (s.setPlan { s.plan with steps := [] })

/-- The mode of a step, REHEARSE 0, RECORD 1, FIRST_REHEARSE 2 (R204). -/
def stepModeOfCode : Nat → Option StepMode
  | 0 => some .rehearse
  | 1 => some .record
  | 2 => some .firstRehearse
  | _ => none

/-- The step of a PLAN STEP, none where a field lies outside the range of 5.1 (R88). -/
def planStepOf : StepArgs → Option PlanStep
  | .cue first run passes mode =>
    match stepModeOfCode mode.toNat with
    | some m =>
      if first ≠ 0 ∧ 1 ≤ run.toNat ∧ run.toNat ≤ 8 ∧ 1 ≤ passes.toNat ∧ passes.toNat ≤ 99 then
        some (.cue first.toNat run.toNat passes.toNat m)
      else none
    | none => none
  | .block span repeats =>
    if 1 ≤ span.toNat ∧ span.toNat ≤ 63 ∧ 1 ≤ repeats.toNat ∧ repeats.toNat ≤ 99 then
      some (.block span.toNat repeats.toNat)
    else none
  | .other _ => none

/-- PLAN STEP (R88). -/
def planStepBody (st : StepArgs) (s : State) : Body :=
  if !s.running || decide (s.pass.state ≠ .idle) then answerPlain .state s
  else
    match planStepOf st with
    | none => answerPlain .range s
    | some x =>
      if Config.planCapacity ≤ s.plan.steps.length then answerPlain .full s
      else answer .ok (.stepIndex s.plan.steps.length) (s.setPlan { s.plan with steps := s.plan.steps ++ [x] })

/-- The data of an answer that names a prepared pass (R91, R100). -/
def planSetReply (a : PlanAnswer) : Reply := .planSet a.stepIndex a.mode a.set

/-- PLAN RUN (R91): the first pass is prepared and its WINDOW offered (R104), or NONE. R96, R102 and R125 tie PLAN_END to an answer of *none* by the plan unit, and R91 lists what a PLAN RUN without a set does and names no such notice: the model posts none (DESIGN CHOICE, log 34). -/
def planRunBody (s : State) : Body :=
  if !s.running || decide (s.pass.state ≠ .idle) then answerPlain .state s
  else if !planValid s.plan.steps then answerPlain .range s
  else
    match planStart s with
    | (s1, some a) => answer .ok (planSetReply a) (offerWindow (prepare a .standby s1))
    | (s1, none) => answerPlain .none s1

/-- The label of the own window record. -/
def ownLabel (s : State) : Nat := (s.pass.own.map OwnWindow.label).getD s.agr.passNumber

/-- PLAN SKIP (R100, R118): the DONE with the old label, then the WINDOW of the pass prepared, or PLAN_END. A DONE refused at a full queue posts its TX_OVERFLOW before PLAN_END, in the order in which R118 names the two (R191 lets either occur: DESIGN CHOICE, log 33). -/
def planSkipBody (s : State) : Body :=
  if !s.running || decide (s.pass.state ≠ .standby) then answerPlain .state s
  else
    match planGiveUp s with
    | (s1, some a) =>
      answer .ok (planSetReply a)
        (offerWindow (prepare a .standby (offerInternal (.done (ownLabel s) .abandoned true) (emptyList (clearPins s1)))))
    | (s1, none) =>
      answerPlain .none (post .planEnd 0 (offerInternal (.done (ownLabel s) .abandoned false) (giveUpPass s1)))

/-- The pass in IN_PASS ended by PLAN ABORT (R116, R117): windows closed, the take closed ABANDONED with its notice, the outputs at rest. -/
def abortPass (s : State) : State :=
  forceToRest (post .passAbandoned (currentTake s) (closeTake .abandoned (closeWindows s)))

/-- PLAN ABORT at the pass controller, by the pass state (R117). In IN_PASS the PASS_ABANDONED of the pass controller stands before the TX_OVERFLOW that the bus controller posts for a DONE refused at a full queue: R117 gives no order and R191 lets either stand first (DESIGN CHOICE, log 42). -/
def abortByState (s : State) : State :=
  match s.pass.state, s.pass.outcome with
  | .standby, _ => offerInternal (.done (ownLabel s) .abandoned false) (giveUpPass s)
  | .inPass, _ => offerInternal (.done s.agr.passNumber .abandoned false) (giveUpPass (abortPass s))
  | .cleared, some .more => offerInternal (.done (ownLabel s) .abandoned false) (giveUpPass s)
  | .cleared, _ => s.setPass { s.pass with state := .idle, outcome := none, own := none }
  | .idle, _ => s

/-- PLAN ABORT (R101, R117). -/
def planAbortBody (s : State) : Body :=
  if !s.running || decide (s.pass.state = .idle) then answerPlain .state s
  else answerPlain .ok (abortByState (planEndRun s))

end Sys2Proof.Machine
end

