-- ==== Sys2Proof/Machine/TransportCommands.lean ====
section
/-! DEFINITION. The commands that concern the stage: GO, TRANSPORT LOCATE, TRANSPORT PLAY, TRANSPORT STOP, HOLD, RELEASE and READ PEERS (R67 to R70, R124). -/

namespace Sys2Proof.Machine

/-- A frame offered with origin CONSOLE: the refusal of admission is the answer, and admission carries the command out (R35, R36). -/
def consoleOffer (f : QueuedFrame) (accept : State → Body) (s : State) : Body :=
  match (offer f false s).1.refusal with
  | some st => answerPlain st s
  | none => accept (offer f false s).2

/-- The smallest P_in among the ANNOUNCED entries of pass n or n + 1 (R124). -/
def goTarget (s : State) : Option Nat :=
  match (s.pass.windows.filter fun w =>
      decide (w.status = .announced) && inClosureSet s.agr.passNumber w).map WindowEntry.pIn with
  | [] => none
  | x :: rest => some (rest.foldl min x)

/-- An OPERATOR locate of the next pass (R67, R124). -/
def operatorLocate (target rate : Nat) (play : Bool) (s : State) : QueuedFrame :=
  .locate false play rate s.station.settle (nextPass s.agr.passNumber) target

/-- GO (R124). -/
def goBody (s : State) : Body :=
  if !s.running || decide (s.agr.transport = .rolling) then answerPlain .state s
  else
    match goTarget s with
    | none => answerPlain .state s
    | some t => consoleOffer (operatorLocate t 120 true s) (answerPlain .ok) s

/-- A flag parameter other than 0 or 1 (R200). -/
def badFlag (b : Byte) : Bool := decide (1 < b.toNat)

/-- TRANSPORT LOCATE (R67). -/
def transportLocateBody (target : Quad) (rate thenPlay : Byte) (s : State) : Body :=
  if !s.running then answerPlain .state s
  else if badFlag thenPlay then answerPlain .range s
  else
    consoleOffer (operatorLocate (s.clampPos target.toNat) (clampRate rate.toNat) (decide (thenPlay = 1)) s)
      (answerPlain (okStatus
        (decide (s.clampPos target.toNat ≠ target.toNat) || decide (clampRate rate.toNat ≠ rate.toNat)))) s

/-- The position that TRANSPORT PLAY carries (R68). -/
def playPosition (s : State) : Nat :=
  if s.agr.transport = .cueing then (s.agr.locate.map LocateRec.target).getD s.posn.pEdge else s.posn.pEdge

/-- TRANSPORT PLAY (R68). -/
def transportPlayBody (rate : Byte) (s : State) : Body :=
  if !s.running then answerPlain .state s
  else
    consoleOffer (.anchor true (clampRate rate.toNat) (playPosition s))
      (answerPlain (okStatus (decide (clampRate rate.toNat ≠ rate.toNat)))) s

/-- TRANSPORT STOP (R68). -/
def transportStopBody (s : State) : Body :=
  if !s.running then answerPlain .state s
  else consoleOffer (.anchor false s.posn.rate s.posn.pEdge) (answerPlain .ok) s

/-- HOLD (R69). -/
def holdBody (s : State) : Body :=
  let raised := { s.agr.reasons with console := true }
  if !s.running then answerPlain .state s
  else if s.agr.reasons.console then answerPlain .ok s
  else if s.agr.reasons.any then answerPlain .ok (s.setReasons raised)
  else consoleOffer (.hold s.station.holdLease 1) (fun t => answerPlain .ok (t.setReasons raised)) s

/-- RELEASE (R69). -/
def releaseBody (s : State) : Body :=
  let cleared := { s.agr.reasons with console := false, mark := false }
  if !s.running then answerPlain .state s
  else if !s.agr.reasons.console && !s.agr.reasons.mark then answerPlain .ok s
  else if s.agr.reasons.logFull then answerPlain .ok (s.setReasons cleared)
  else consoleOffer .release (fun t => answerPlain .ok (t.setReasons cleared)) s

/-- The addresses whose slot is in a presence state, in ascending order (R70). -/
def addressesIn (p : Presence) (s : State) : List Nat := addresses.filter fun a => decide ((s.agr.slot a).presence = p)

/-- The summary of READ PEERS (R70). -/
def peersSummary (s : State) : PeersSummary :=
  { transport := s.agr.transport, pEdge := s.posn.pEdge, rate := s.posn.rate, generation := s.agr.generation
    passNumber := s.agr.passNumber, settle := s.agr.settle, reasons := s.agr.reasons, join := s.agr.join
    present := addressesIn .present s, mismatched := addressesIn .mismatched s
    holding := s.agr.holds.map HoldEntry.address }

/-- The slot of an address as READ PEERS gives it: the own address reads ABSENT (R70). -/
def peerSlotRead (s : State) (a : Nat) : PeerSlot := if a = s.address then PeerSlot.reset else s.agr.slot a

/-- READ PEERS (R70). -/
def readPeersBody (a : Byte) (s : State) : Body :=
  if !s.running then answerPlain .state s
  else if 30 < a.toNat then answerPlain .range s
  else if a = 0 then answer .ok (.peers (peersSummary s)) s
  else answer .ok (.peer (peerSlotRead s a.toNat) ((holdOf s.agr.holds a.toNat).map fun h => (h.lease, h.reason))) s

end Sys2Proof.Machine
end

