-- ==== Sys2Proof/Machine/TakeCommands.lean ====
section
/-! DEFINITION. READ TAKE (R174, R175), SET MARK and CLEAR MARK (R182), and STEP (R184). -/

namespace Sys2Proof.Machine

/-- The parts of READ TAKE (R174). -/
inductive TakePart where
  | head
  | cuesLow
  | cuesHigh
  deriving DecidableEq, Repr

/-- The part of a code, numbered in the order of R175. -/
def takePartOfCode : Nat → Option TakePart
  | 0 => some .head
  | 1 => some .cuesLow
  | 2 => some .cuesHigh
  | _ => none

/-- The data of a part (R175). -/
def takeReply (part : TakePart) (records : Nat) (r : TakeRec) : Reply :=
  match part with
  | .head => .takeHead records r
  | .cuesLow => .takeCues records r.number (r.cues.take 4)
  | .cuesHigh => .takeCues records r.number ((r.cues.drop 4).take 4)

/-- A record that READ TAKE reads: one that is not IN_PROGRESS (R174). -/
def TakeRec.closed (r : TakeRec) : Bool := decide (r.outcome ≠ .inProgress)

/-- The oldest closed record removed; LOG_FULL clears below 16 records (R173, R174). -/
def removeTake (s : State) : State :=
  let s1 := s.setLog { s.log with records := s.log.records.eraseP TakeRec.closed }
  if s1.log.free then clearLogFull s1 else s1

/-- READ TAKE (R174). A flag other than 0 or 1 is judged with the part (log 15). -/
def readTakeBody (part remove : Byte) (s : State) : Body :=
  if !s.running then answerPlain .state s
  else if badFlag remove then answerPlain .range s
  else
    match takePartOfCode part.toNat with
    | none => answerPlain .range s
    | some p =>
      match s.log.records.find? TakeRec.closed with
      | none => answer .none (.count s.log.records.length) s
      | some r => answer .ok (takeReply p s.log.records.length r) (if remove = 1 then removeTake s else s)

/-- The condition of a code (R182). -/
def markConditionOfCode : Nat → Option MarkCondition
  | 0 => some .enter
  | 1 => some .leave
  | _ => none

/-- The action of a code (R182). -/
def markActionOfCode : Nat → Option MarkAction
  | 0 => some .notice
  | 1 => some .hold
  | 2 => some .stop
  | _ => none

/-- The re-arm mode of a code (R182). -/
def markRearmOfCode : Nat → Option MarkRearm
  | 0 => some .once
  | 1 => some .repeating
  | _ => none

/-- The mark of a SET MARK whose codes and count are in range, its positions clamped (R182). -/
def markOf (a : MarkArgs) (s : State) : Option Mark :=
  match markConditionOfCode a.condition.toNat, markActionOfCode a.action.toNat, markRearmOfCode a.rearm.toNat with
  | some c, some act, some re =>
    if markInRange a.number.toNat ∧ a.count ≠ 0 then
      some ⟨s.clampPos a.low.toNat, s.clampPos a.high.toNat, c, a.count.toNat, a.count.toNat, act, re, true⟩
    else none
  | _, _, _ => none

/-- SET MARK (R182). -/
def setMarkBody (a : MarkArgs) (s : State) : Body :=
  if !s.running then answerPlain .state s
  else
    match markOf a s with
    | none => answerPlain .range s
    | some m =>
      if m.high < m.low then answerPlain .range s
      else
        answerPlain (okStatus (decide (s.pMax < a.low.toNat) || decide (s.pMax < a.high.toNat)))
          (s.setMark a.number.toNat m)

/-- CLEAR MARK (R182). -/
def clearMarkBody (number : Byte) (s : State) : Body :=
  if !s.running then answerPlain .state s
  else if !markInRange number.toNat then answerPlain .range s
  else answerPlain .ok (s.setMark number.toNat { s.mark number.toNat with armed := false })

/-- STEP (R184): judged, then in progress with the port BUSY until its last edge (log 11). -/
def stepBody (count : Byte) (s : State) : Body :=
  if !s.running || decide (s.timing.refSource ≠ .step) then answerPlain .state s
  else if count = 0 ∨ 250 < count.toNat then answerPlain .range s
  else (s.setPort { s.port with stepRun := some ⟨count.toNat, count.toNat⟩ }, none)

end Sys2Proof.Machine
end

