-- ==== Sys2Proof/Machine/Status.lean ====
section
/-! DEFINITION. READ STATUS (R199, with R13, R44, R102, R125, R145, R161, R176, R183) and READ NOTICE (R192). -/

namespace Sys2Proof.Machine

/-- Section PORT (R199). -/
def portSection (s : State) : Reply :=
  .port s.port.part s.conf.held s.port.notices.length s.port.overflow s.bus.testResult s.bus.link s.bus.listeningCount
    s.bus.queue.length

/-- The column of a held lane at the last composition (R161); before any composition no column has been computed and the field of a free lane is given. -/
def laneRead (l : Option Lane) (column : Option Nat) : Option (Nat × Nat) :=
  l.map fun x => (x.cue, column.getD 4095)

/-- Section OUTPUTS (R161). -/
def outputsSection (o : OutputUnits) : Reply :=
  .outputs (laneRead o.laneA (o.lastWord.map OverlayWord.laneA)) (laneRead o.laneB (o.lastWord.map OverlayWord.laneB))
    o.flashCount o.pipCount o.punchCount o.pitch o.pipg o.pipp o.punch o.buffer.isSome (decide (o.shifter ≠ .idle))

/-- Section TAKES (R176). -/
def takesSection (s : State) : Reply :=
  .takes s.log.records.length (s.log.inProgress.map TakeRec.number) s.log.counter s.agr.reasons.logFull s.onset.detector
    s.onset.openWindows

/-- Section SCHEDULER (R145). -/
def schedulerSection (s : State) : Reply :=
  .scheduler s.sched.events.length s.sched.events.head? s.sched.held.isSome (armed s) s.sched.advOverlay s.sched.advPip
    s.sched.advPunchIn s.sched.advPunchOut

/-- A section whose index is 0 (R199); none for the codes 5 and 10 and for a code outside the table. No section gives the fields of a configuration record: R195 says that READ STATUS returns the stored values, and the table of R199 has no section for them (DESIGN CHOICE, log 43). -/
def plainSection (code : Nat) (s : State) : Option Reply :=
  match code with
  | 0 => some (portSection s)
  | 1 => some (.reference s.ref.lock s.ref.lockCount s.ref.heldPeriod)
  | 2 => some (.plan s.plan.steps.length s.plan.cursor s.plan.passesRemaining s.plan.stack.reverse)
  | 3 => some (.pass s.pass.state s.pass.outcome s.pass.closureCount s.pass.windows.length s.pass.own)
  | 4 => some (.ownSet ((s.pass.own.map OwnWindow.set).getD []))
  | 6 => some (schedulerSection s)
  | 7 => some (outputsSection s.out)
  | 8 => some (.lastWord s.out.lastWord)
  | 9 => some (takesSection s)
  | _ => none

/-- READ STATUS (R199). -/
def readStatusBody (section_ index : Byte) (s : State) : Body :=
  if section_ = 5 then
    match s.pass.windows[index.toNat]? with
    | some w => answer .ok (.windowEntry w) s
    | none => answer .absent (.count s.pass.windows.length) s
  else if section_ = 10 then
    if markInRange index.toNat then answer .ok (.mark (s.mark index.toNat) s.markStopFlag) s else answerPlain .range s
  else
    match plainSection section_.toNat s with
    | some d => if index = 0 then answer .ok d s else answerPlain .range s
    | none => answerPlain .range s

/-- READ NOTICE (R192). -/
def readNoticeBody (s : State) : Body :=
  match s.port.notices with
  | [] => answerPlain .none s
  | n :: rest =>
    answer .ok (.notice n rest.length s.port.overflow)
      (s.setPort { s.port with notices := rest, overflow := s.port.overflow && !rest.isEmpty })

end Sys2Proof.Machine
end

