-- ==== Sys2Proof/Machine/Console.lean ====
section
/-! DEFINITION. The console port at work (R188): the taking of a command, the line-test judgement, the response; and the meaning of each console command of the table. -/

namespace Sys2Proof.Machine

/-- The response buffer replaced. -/
def State.setResponse (s : State) (r : Option Response) : State := s.setPort { s.port with response := r }

/-- A line test is running (R41, R188). -/
def State.testing (s : State) : Bool := s.bus.lineTest.isSome

/-- A body run after the line-test judgement of R188, on a port whose response buffer has been emptied; then its response is written. `served` says that the command is served during a line test. -/
def process (served : Bool) (body : State → Body) (s : State) : State :=
  let s0 := s.setResponse none
  let r := if s0.testing && !served then answerPlain .busy s0 else body s0
  r.1.setResponse r.2

/-- A command taken by the port (R187, R188): nothing is taken while RESETN is low or the port is BUSY. -/
def take (served : Bool) (body : State → Body) (s : State) : State :=
  if s.resetnLow || !s.port.ready then s else process served body s

/-- CONFIGURE (R194). -/
def execConfigure (r : ConfigRecord) (s : State) : Host.Outcome State Fault Refusal :=
  .next (take false (configureBody r) s)

/-- START (R196). -/
def execStart (s : State) : Host.Outcome State Fault Refusal := .next (take false startBody s)

/-- RESET FULL (R197). -/
def execResetFull (s : State) : Host.Outcome State Fault Refusal := .next (take true resetFullBody s)

/-- RESET REJOIN (R198). -/
def execResetRejoin (s : State) : Host.Outcome State Fault Refusal := .next (take true resetRejoinBody s)

/-- READ STATUS (R199). -/
def execReadStatus (section_ index : Byte) (s : State) : Host.Outcome State Fault Refusal :=
  .next (take true (readStatusBody section_ index) s)

/-- READ NOTICE (R192). -/
def execReadNotice (s : State) : Host.Outcome State Fault Refusal := .next (take true readNoticeBody s)

/-- LINE TEST (R41). -/
def execLineTest (mode count : Byte) (s : State) : Host.Outcome State Fault Refusal :=
  .next (take false (lineTestBody mode count) s)

/-- LOAD CUE (R77). -/
def execLoadCue (a : CueArgs) (s : State) : Host.Outcome State Fault Refusal := .next (take false (loadCueBody a) s)

/-- DELETE CUE (R79). -/
def execDeleteCue (id : Half) (s : State) : Host.Outcome State Fault Refusal := .next (take false (deleteCueBody id) s)

/-- CLEAR CUES (R80). -/
def execClearCues (s : State) : Host.Outcome State Fault Refusal := .next (take false clearCuesBody s)

/-- READ CUE (R81). -/
def execReadCue (sel : CueSelector) (s : State) : Host.Outcome State Fault Refusal := .next (take false (readCueBody sel) s)

/-- PLAN CLEAR (R89). -/
def execPlanClear (s : State) : Host.Outcome State Fault Refusal := .next (take false planClearBody s)

/-- PLAN STEP (R88). -/
def execPlanStep (st : StepArgs) (s : State) : Host.Outcome State Fault Refusal := .next (take false (planStepBody st) s)

/-- PLAN RUN (R91). -/
def execPlanRun (s : State) : Host.Outcome State Fault Refusal := .next (take false planRunBody s)

/-- PLAN SKIP (R100). -/
def execPlanSkip (s : State) : Host.Outcome State Fault Refusal := .next (take false planSkipBody s)

/-- PLAN ABORT (R101). -/
def execPlanAbort (s : State) : Host.Outcome State Fault Refusal := .next (take false planAbortBody s)

/-- GO (R124). -/
def execGo (s : State) : Host.Outcome State Fault Refusal := .next (take false goBody s)

/-- TRANSPORT LOCATE (R67). -/
def execTransportLocate (target : Quad) (rate thenPlay : Byte) (s : State) : Host.Outcome State Fault Refusal :=
  .next (take false (transportLocateBody target rate thenPlay) s)

/-- TRANSPORT PLAY (R68). -/
def execTransportPlay (rate : Byte) (s : State) : Host.Outcome State Fault Refusal :=
  .next (take false (transportPlayBody rate) s)

/-- TRANSPORT STOP (R68). -/
def execTransportStop (s : State) : Host.Outcome State Fault Refusal := .next (take false transportStopBody s)

/-- HOLD (R69). -/
def execHold (s : State) : Host.Outcome State Fault Refusal := .next (take false holdBody s)

/-- RELEASE (R69). -/
def execRelease (s : State) : Host.Outcome State Fault Refusal := .next (take false releaseBody s)

/-- READ PEERS (R70). -/
def execReadPeers (address : Byte) (s : State) : Host.Outcome State Fault Refusal :=
  .next (take false (readPeersBody address) s)

/-- READ TAKE (R174). -/
def execReadTake (part remove : Byte) (s : State) : Host.Outcome State Fault Refusal :=
  .next (take false (readTakeBody part remove) s)

/-- SET MARK (R182). -/
def execSetMark (a : MarkArgs) (s : State) : Host.Outcome State Fault Refusal := .next (take false (setMarkBody a) s)

/-- CLEAR MARK (R182). -/
def execClearMark (number : Byte) (s : State) : Host.Outcome State Fault Refusal :=
  .next (take false (clearMarkBody number) s)

/-- STEP (R184). -/
def execStep (count : Byte) (s : State) : Host.Outcome State Fault Refusal := .next (take false (stepBody count) s)

/-- A command of the catalogue is served during a line test: RESET, READ STATUS and READ NOTICE (R41, R188). -/
def servedInTest : Command → Bool
  | .reset _ => true
  | .readStatus _ _ => true
  | .readNotice => true
  | _ => false

/-- The command's own judgement in its owning chapter (R188, order 4; R189). -/
def commandBody : Command → State → Body
  | .configure r => configureBody r
  | .start => startBody
  | .reset k => resetBody k
  | .readStatus sec i => readStatusBody sec i
  | .readNotice => readNoticeBody
  | .lineTest m c => lineTestBody m c
  | .loadCue a => loadCueBody a
  | .deleteCue id => deleteCueBody id
  | .clearCues => clearCuesBody
  | .readCue sel => readCueBody sel
  | .planClear => planClearBody
  | .planStep st => planStepBody st
  | .planRun => planRunBody
  | .planSkip => planSkipBody
  | .planAbort => planAbortBody
  | .go => goBody
  | .transportLocate t r p => transportLocateBody t r p
  | .transportPlay r => transportPlayBody r
  | .transportStop => transportStopBody
  | .hold => holdBody
  | .release => releaseBody
  | .readPeers a => readPeersBody a
  | .readTake p r => readTakeBody p r
  | .setMark a => setMarkBody a
  | .clearMark n => clearMarkBody n
  | .step c => stepBody c

end Sys2Proof.Machine
end

