-- ==== Sys2Proof/Machine/Answers.lean ====
section
/-! DEFINITION. The bytes of a response (R203, R204). READ TAKE's layout is R204's. The others follow the conventions that R200 states for parameters, in the order in which their rules list the fields (DESIGN CHOICE, log 13): fewest bytes, codes from 0 in table order, a presence byte before the optional fields of an answer, absent fields as 0, sets of addresses as 30 bits of four bytes. -/

namespace Sys2Proof.Machine

/-! ## Codes, numbered from 0 in table order (R200) -/

/-- The status code (R188). -/
def Status.code : Status → Nat
  | .ok => 0
  | .okClamped => 1
  | .busy => 2
  | .order => 3
  | .range => 4
  | .full => 5
  | .exists_ => 6
  | .absent => 7
  | .state => 8
  | .queueFull => 9
  | .unknown => 10
  | .none => 11

/-- The notice kind code (R190). -/
def NoticeKind.code : NoticeKind → Nat
  | .passBegun => 1
  | .passCleared => 2
  | .passAbandoned => 3
  | .takeReady => 4
  | .takeSkipped => 5
  | .peerJoined => 6
  | .peerLost => 7
  | .peerMismatch => 8
  | .slip => 9
  | .refLocked => 10
  | .refLost => 11
  | .holdExpired => 12
  | .markFired => 13
  | .planSkip => 14
  | .planEnd => 15
  | .addressClash => 16
  | .txOverflow => 17
  | .rxOverrun => 18
  | .linkFault => 19

/-- Part states (11.1). -/
def PartState.code : PartState → Nat
  | .config => 0
  | .running => 1

/-- Lock states (1.1.2). -/
def LockState.code : LockState → Nat
  | .noRef => 0
  | .acquiring => 1
  | .locked => 2
  | .holdover => 3

/-- Link states (2.5). -/
def LinkState.code : LinkState → Nat
  | .off => 0
  | .listening => 1
  | .active => 2
  | .listenOnly => 3
  | .lineTest => 4

/-- Line test results (R44). -/
def TestResult.code : TestResult → Nat
  | .none => 0
  | .running => 1
  | .pass => 2
  | .fail _ => 3
  | .lineBusy => 4

/-- The count of bad frames of a line test result (R44). -/
def TestResult.badFrames : TestResult → Nat
  | .none => 0
  | .running => 0
  | .pass => 0
  | .fail n => n
  | .lineBusy => 0

/-- Presence states (3.7). -/
def Presence.code : Presence → Nat
  | .absent => 0
  | .present => 1
  | .mismatched => 2

/-- Join states (R65). -/
def JoinState.code : JoinState → Nat
  | .waiting => 0
  | .settled => 1

/-- Pass modes (R95). -/
def PassMode.code : PassMode → Nat
  | .rehearse => 0
  | .record => 1

/-- Plan outcomes (6.1). -/
def PlanOutcome.code : PlanOutcome → Nat
  | .more => 0
  | .none => 1

/-- Window statuses (6.2). -/
def WindowStatus.code : WindowStatus → Nat
  | .announced => 0
  | .cleared => 1
  | .skipped => 2

/-- Event kinds (7.1). -/
def EventKind.code : EventKind → Nat
  | .streamerBegin => 0
  | .pipOn => 1
  | .pipOff => 2
  | .flashOn => 3
  | .flashOff => 4
  | .punchIn => 5
  | .punchOut => 6
  | .lineEnd => 7

/-- Pitches (R153). -/
def Pitch.code : Pitch → Nat
  | .normal => 0
  | .accent => 1

/-- Detector states (R166). -/
def DetectorState.code : DetectorState → Nat
  | .idle => 0
  | .waitingQuiet => 1
  | .armed => 2

/-- Take outcomes, COMPLETE 1 and ABANDONED 2 (R204). -/
def TakeOutcome.code : TakeOutcome → Nat
  | .inProgress => 0
  | .complete => 1
  | .abandoned => 2

/-- Mark conditions (10.1). -/
def MarkCondition.code : MarkCondition → Nat
  | .enter => 0
  | .leave => 1

/-- Mark actions (10.1). -/
def MarkAction.code : MarkAction → Nat
  | .notice => 0
  | .hold => 1
  | .stop => 2

/-- Re-arm modes (10.1). -/
def MarkRearm.code : MarkRearm → Nat
  | .once => 0
  | .repeating => 1

/-! ## Bytes -/

/-- A number of one byte. -/
def b1 (n : Nat) : List Byte := numBytes 1 n

/-- A number of two bytes. -/
def b2 (n : Nat) : List Byte := numBytes 2 n

/-- A number of three bytes. -/
def b3 (n : Nat) : List Byte := numBytes 3 n

/-- A number of four bytes. -/
def b4 (n : Nat) : List Byte := numBytes 4 n

/-- A flag of one byte. -/
def bFlag (b : Bool) : List Byte := b1 b.toNat

/-- Flags as the low bits of one number, the first the most significant. -/
def flagBits (bs : List Bool) : Nat := bitsNum bs

/-- A signed number in three bytes, two's complement (R204). -/
def signed3 (x : Int) : List Byte := b3 (x % 16777216).toNat

/-- A set of addresses: bit a of four bytes. -/
def addressSet (as : List Nat) : List Byte := b4 ((as.map (2 ^ ·)).foldl (· + ·) 0)

/-- The value of an optional number, 0 where it is absent (R200). -/
def orZero (x : Option Nat) : Nat := x.getD 0

/-- A cue record as READ CUE gives it (R81), in the order of R204's LOAD CUE; the options byte carries pin, SILENT_LAST, NO_FLASH and NO_STREAMER. -/
def CueRec.bytes (c : CueRec) : List Byte :=
  b2 c.id ++ b4 c.s ++ b4 c.e ++ b1 (orZero c.lead) ++ b1 (orZero c.beeps) ++ b1 (orZero c.spacing) ++
    b2 (orZero c.preroll) ++ b2 (orZero c.postroll) ++ b1 (orZero c.handleIn) ++ b1 (orZero c.handleOut) ++ b1 c.tag ++
    b1 (flagBits [c.lead.isSome, c.beeps.isSome, c.spacing.isSome, c.preroll.isSome, c.postroll.isSome,
      c.handleIn.isSome, c.handleOut.isSome]) ++
    b1 (flagBits [c.pinned, c.silentLast, c.noFlash, c.noStreamer])

/-- The HEAD part after the take number (R204). -/
def TakeRec.headBytes (r : TakeRec) : List Byte :=
  b2 r.passNumber ++ b1 r.stepIndex ++ b1 r.mode.code ++ b1 r.outcome.code ++
    b1 (flagBits [r.punchIn.isSome, r.punchOut.isSome, false, false, r.flags.syncSuspect, r.flags.refUnstable,
      r.flags.rxOverrun, r.flags.lateEvents]) ++
    b4 (orZero r.punchIn) ++ b4 (orZero r.punchOut) ++ b1 r.cues.length

/-- One entry of a CUES part (R204). -/
def TakeCue.bytes (c : TakeCue) : List Byte :=
  b2 c.cue ++ b1 (flagBits [c.onset.isSome, false, false, false, false, false, c.overlap, c.noOnset]) ++
    signed3 (c.onset.getD 0)

/-- The own-hold reasons as bits: MARK, LOG_FULL, CONSOLE. -/
def OwnReasons.bits (r : OwnReasons) : Nat := flagBits [r.mark, r.logFull, r.console]

/-- An own window record without its set (R199), zeros where it is absent. -/
def ownWindowBytes (w : Option OwnWindow) : List Byte :=
  match w with
  | some x => b2 x.label ++ b1 x.stepIndex ++ b1 x.mode.code ++ b2 x.firstCue ++ b4 x.pIn ++ b4 x.pOut
  | none => List.replicate 14 0

/-- A beacon record (R70), zeros where it is absent. -/
def lastBeaconBytes (x : Option LastBeacon) : List Byte :=
  match x with
  | some b =>
    b1 b.rateCode ++ b1 b.transport.code ++ b1 b.generation ++ b2 b.passNumber ++ b1 b.passState.code ++ b1 b.rate ++
      b4 b.pEdge
  | none => List.replicate 11 0

/-- The head event (R145), zeros where it is absent. -/
def headEventBytes (x : Option Event) : List Byte :=
  match x with
  | some e => b2 e.cue ++ b1 e.kind.code ++ b1 (orZero e.pip) ++ b4 e.pos ++ b4 e.fire
  | none => List.replicate 12 0

/-- A lane as READ STATUS gives it (R161), zeros where it is free. -/
def laneBytes (x : Option (Nat × Nat)) : List Byte :=
  match x with
  | some (cue, column) => b2 cue ++ b2 column
  | none => List.replicate 4 0

/-- The fields of an overlay word (R199), zeros where it is absent. -/
def lastWordBytes (x : Option OverlayWord) : List Byte :=
  match x with
  | some w =>
    b2 w.laneA ++ b2 w.laneB ++ bFlag w.flash ++ bFlag w.punchTally ++ bFlag w.pipGate ++ b1 w.countdown ++ b2 w.label ++
      b1 w.tag ++ b1 w.transport.code ++ b1 w.take
  | none => List.replicate 13 0

/-- The data bytes of an answer. -/
def Reply.bytes : Reply → List Byte
  | .empty => []
  | .notice n left overflow => b1 n.kind.code ++ b2 n.detail ++ b1 left ++ bFlag overflow
  | .stepIndex i => b1 i
  | .planSet i m cues => b1 i ++ b1 m.code ++ cues.flatMap b2
  | .stepped n t p => b1 n ++ b1 t.code ++ b4 p
  | .count n => b1 n
  | .cueCount n => b2 n
  | .cue n i c => b2 n ++ b1 i ++ c.bytes
  | .takeHead n r => b1 n ++ b2 r.number ++ r.headBytes
  | .takeCues n number cues => b1 n ++ b2 number ++ b1 cues.length ++ cues.flatMap TakeCue.bytes
  | .peers x =>
    b1 x.transport.code ++ b4 x.pEdge ++ b1 x.rate ++ b1 x.generation ++ b2 x.passNumber ++ b1 x.settle ++
      b1 x.reasons.bits ++ b1 x.join.code ++ addressSet x.present ++ addressSet x.mismatched ++ addressSet x.holding
  | .peer slot hold =>
    b1 slot.presence.code ++ b1 slot.age ++ b1 (flagBits [slot.lastBeacon.isSome, hold.isSome]) ++
      lastBeaconBytes slot.lastBeacon ++ b1 ((hold.map Prod.fst).getD 0) ++ b1 ((hold.map Prod.snd).getD 0)
  | .port part held notices overflow test link listening queued =>
    b1 part.code ++ b1 held ++ b1 notices ++ bFlag overflow ++ b1 test.code ++ b1 test.badFrames ++ b1 link.code ++
      b1 listening ++ b1 queued
  | .reference lock n period => b1 lock.code ++ b1 n ++ bFlag period.isSome ++ b3 (orZero period)
  | .plan steps cursor remaining stack =>
    b1 steps ++ bFlag cursor.isSome ++ b1 (orZero cursor) ++ b1 remaining ++
      stack.flatMap fun e => b1 e.first ++ b1 e.last ++ b1 e.remaining
  | .pass st outcome closure windows own =>
    b1 st.code ++ b1 (flagBits [outcome.isSome, closure.isSome, own.isSome]) ++
      b1 ((outcome.map PlanOutcome.code).getD 0) ++ b2 (orZero closure) ++ b1 windows ++ ownWindowBytes own
  | .ownSet cues => cues.flatMap b2
  | .windowEntry w =>
    b1 w.address ++ b2 w.passNumber ++ b2 w.firstCue ++ b4 w.pIn ++ b4 w.pOut ++ b1 w.status.code ++ bFlag w.more.isSome ++
      bFlag (w.more.getD false)
  | .scheduler n head held arm o p i q =>
    b1 n ++ b1 (flagBits [head.isSome, (head.bind Event.pip).isSome]) ++ headEventBytes head ++ bFlag held ++ bFlag arm ++
      b2 o ++ b2 p ++ b2 i ++ b2 q
  | .outputs a b flash pip punchCount pitch pipg pipp punch buffered shifting =>
    b1 (flagBits [a.isSome, b.isSome]) ++ laneBytes a ++ laneBytes b ++ b1 flash ++ b1 pip ++ b1 punchCount ++
      b1 pitch.code ++ bFlag pipg ++ bFlag pipp ++ bFlag punch ++ bFlag buffered ++ bFlag shifting
  | .lastWord x => bFlag x.isSome ++ lastWordBytes x
  | .takes n inProgress counter logFull detector windows =>
    b1 n ++ bFlag inProgress.isSome ++ b2 (orZero inProgress) ++ b2 counter ++ bFlag logFull ++ b1 detector.code ++
      windows.flatMap b2
  | .mark m stop =>
    b4 m.low ++ b4 m.high ++ b1 m.condition.code ++ b1 m.count ++ b1 m.reload ++ b1 m.action.code ++ b1 m.rearm.code ++
      bFlag m.armed ++ bFlag stop

/-- A response as it is shifted out: status code, length, data (R203). -/
def Response.bytes (r : Response) : List Byte :=
  b1 r.status.code ++ b1 r.data.bytes.length ++ r.data.bytes

end Sys2Proof.Machine
end

