-- ==== Sys2Proof/Machine/Transfer.lean ====
section
/-! DEFINITION. A console transfer (R187, R188, R203): the bytes shifted out, the judgement of the message, and the meaning of TRANSFER. -/

namespace Sys2Proof.Machine

/-- The port status byte (R203). -/
def statusByte (s : State) : Byte :=
  BitVec.ofNat 8 (flagBits [s.port.ready, s.attn, s.port.overflow, s.port.response.isSome, s.running, s.testing, false, false])

/-- The bytes that a transfer begun in a state offers, before the zeros: the port status byte, and the response where the port is READY and holds one (R187). -/
def shiftedBytes (s : State) : List Byte :=
  statusByte s ::
    (match s.port.response with
     | some r => if s.port.ready then r.bytes else []
     | none => [])

/-- The first n bytes shifted out, with zeros after those offered; all zeros while RESETN is low (R187). -/
def shiftedOut (n : Nat) (s : State) : List Byte :=
  if s.resetnLow then List.replicate n 0 else (shiftedBytes s ++ List.replicate n 0).take n

/-- A message is a poll (R187). -/
def isPoll : List Byte → Bool
  | code :: _ :: _ => decide (code = 0)
  | _ => true

/-- A message taken (R188): UNKNOWN and the length RANGE come before the line-test judgement. -/
def runMessage (message : List Byte) (s : State) : State :=
  match decodeMessage message with
  | .unknown => take true (answerPlain .unknown) s
  | .badLength => take true (answerPlain .range) s
  | .command c => take (servedInTest c) (commandBody c) s

/-- TRANSFER (R187): a transfer of as many bytes as come in on SDI; the first 32 are the message. -/
def execTransfer (message : List Byte) (s : State) : Host.Outcome State Fault Refusal :=
  let out := shiftedOut message.length s
  let s1 := if isPoll (message.take Config.messageCapacity) then s else runMessage (message.take Config.messageCapacity) s
  .next (s1.setPort { s1.port with sdo := out })

end Sys2Proof.Machine
end

