-- ==== Sys2Proof/Machine/Events.lean ====
section
/-! DEFINITION. The events that the table lists on their own: the parts of a frame edge that fall due (HOLD_EXPIRED, PEER_LOST, SETTLE_END, BEACON_DUE, LINK_ACTIVE, CLOSURE_OFFER, MARK_FIRED), and the events of the overlay and level ports. A part of a frame edge acts where it is due at the present state and leaves every other state as it was (DESIGN CHOICE, log 1); a frame edge brings the same parts about in its own course. -/

namespace Sys2Proof.Machine

/-- The lease of an address runs out at its next count (R57). -/
def leaseDue (s : State) (a : Nat) : Bool :=
  ((holdOf s.agr.holds a).map fun h => !h.fresh && decide (h.lease ≤ 1)).getD false

/-- HOLD_EXPIRED (R57): the entry is removed, with the notice for the station's own. -/
def execHoldExpired (a : Nat) (s : State) : Host.Outcome State Fault Refusal :=
  if s.live && leaseDue s a then
    .next (if a = s.address then post .holdExpired s.address (dropHold a s) else dropHold a s)
  else .next s

/-- The age of an address exceeds its limit at its next count (R61). -/
def peerDue (s : State) (a : Nat) : Bool :=
  decide ((s.agr.slot a).presence ≠ .absent) && decide (3 * s.station.beaconInterval < (s.agr.slot a).age + 1)

/-- PEER_LOST (R61). -/
def execPeerLost (a : Nat) (s : State) : Host.Outcome State Fault Refusal :=
  if s.live && peerDue s a then .next (losePeer a s) else .next s

/-- SETTLE_END (R53): a settle count of 1 reaches 0, and the roll condition decides. -/
def execSettleEnd (s : State) : Host.Outcome State Fault Refusal :=
  if s.live && decide (s.agr.transport = .cueing) && decide (s.agr.settle = 1) then
    .next (rollStep (s.setAgr { s.agr with settle := 0 }))
  else .next s

/-- BEACON_DUE (R63): a countdown of 1 reaches 0, and a BEACON is offered. -/
def execBeaconDue (s : State) : Host.Outcome State Fault Refusal :=
  if s.live && decide (s.agr.beaconCountdown = 1) then .next (offerBeacon s) else .next s

/-- LINK_ACTIVE (R38): a listening count of 1 reaches 0, and the link becomes ACTIVE. -/
def execLinkActive (s : State) : Host.Outcome State Fault Refusal :=
  if s.live && decide (s.bus.link = .listening) && decide (s.bus.listeningCount = 1) then .next (linkUp s) else .next s

/-- CLOSURE_OFFER (R120, R121): the closure condition holds and its next count is one of the station's duty slots. -/
def execClosureOffer (s : State) : Host.Outcome State Fault Refusal :=
  if s.live && closureCondition s && dutyDue s (nextClosureCount s.pass.closureCount) then .next (closureTest s)
  else .next s

/-- MARK_FIRED (R180): the count of an armed mark reaches 0. -/
def execMarkFired (n : Nat) (s : State) : Host.Outcome State Fault Refusal :=
  if s.live && markInRange n && (s.mark n).armed && decide ((s.mark n).count = 1) then .next (fireMark false n s)
  else .next s

/-- OVSYNC (R160). -/
def execOvsync (s : State) : Host.Outcome State Fault Refusal :=
  if s.resetnLow then .next s else .next (s.setOut (overlaySync s.out))

/-- OVCLK (R160, R202). -/
def execOvclk (s : State) : Host.Outcome State Fault Refusal :=
  if s.resetnLow then .next s else .next (s.setOut (overlayClock s.out))

/-- LEVEL_SAMPLE (R163, R202): the pulses of the level port, in order. -/
def execLevelSample (pulses : List LevelPulse) (s : State) : Host.Outcome State Fault Refusal :=
  if s.resetnLow then .next s else .next (pulses.foldl levelPulse s)

end Sys2Proof.Machine
end

