-- ==== Sys2Proof/Machine/Dispatch.lean ====
section
/-! DEFINITION. One arm per command, each a direct call of its meaning. -/

namespace Sys2Proof.Machine

/-- The effect of a command on everything but the queue of waiting commands. -/
def exec (i : Instr) (s : State) : Host.Outcome State Fault Refusal :=
  match i with
  | .transfer message => Sys2Proof.Machine.execTransfer message s
  | .configure r => Sys2Proof.Machine.execConfigure r s
  | .start => Sys2Proof.Machine.execStart s
  | .resetFull => Sys2Proof.Machine.execResetFull s
  | .resetRejoin => Sys2Proof.Machine.execResetRejoin s
  | .readStatus section_ index => Sys2Proof.Machine.execReadStatus section_ index s
  | .readNotice => Sys2Proof.Machine.execReadNotice s
  | .lineTest mode count => Sys2Proof.Machine.execLineTest mode count s
  | .loadCue a => Sys2Proof.Machine.execLoadCue a s
  | .deleteCue id => Sys2Proof.Machine.execDeleteCue id s
  | .clearCues => Sys2Proof.Machine.execClearCues s
  | .readCue sel => Sys2Proof.Machine.execReadCue sel s
  | .planClear => Sys2Proof.Machine.execPlanClear s
  | .planStep st => Sys2Proof.Machine.execPlanStep st s
  | .planRun => Sys2Proof.Machine.execPlanRun s
  | .planSkip => Sys2Proof.Machine.execPlanSkip s
  | .planAbort => Sys2Proof.Machine.execPlanAbort s
  | .go => Sys2Proof.Machine.execGo s
  | .transportLocate target rate thenPlay => Sys2Proof.Machine.execTransportLocate target rate thenPlay s
  | .transportPlay rate => Sys2Proof.Machine.execTransportPlay rate s
  | .transportStop => Sys2Proof.Machine.execTransportStop s
  | .hold => Sys2Proof.Machine.execHold s
  | .release => Sys2Proof.Machine.execRelease s
  | .readPeers address => Sys2Proof.Machine.execReadPeers address s
  | .readTake part remove => Sys2Proof.Machine.execReadTake part remove s
  | .setMark a => Sys2Proof.Machine.execSetMark a s
  | .clearMark number => Sys2Proof.Machine.execClearMark number s
  | .step count => Sys2Proof.Machine.execStep count s
  | .steppedEdge => Sys2Proof.Machine.execSteppedEdge s
  | .powerOn => Sys2Proof.Machine.execPowerOn s
  | .resetn => Sys2Proof.Machine.execResetn s
  | .resetnRelease => Sys2Proof.Machine.execResetnRelease s
  | .refPulse transition heldNs instant => Sys2Proof.Machine.execRefPulse transition heldNs instant s
  | .watchdogExpiry => Sys2Proof.Machine.execWatchdogExpiry s
  | .synthesisedEdge => Sys2Proof.Machine.execSynthesisedEdge s
  | .tick => Sys2Proof.Machine.execTick s
  | .holdExpired address => Sys2Proof.Machine.execHoldExpired address s
  | .peerLost address => Sys2Proof.Machine.execPeerLost address s
  | .settleEnd => Sys2Proof.Machine.execSettleEnd s
  | .beaconDue => Sys2Proof.Machine.execBeaconDue s
  | .linkActive => Sys2Proof.Machine.execLinkActive s
  | .transmitStart line => Sys2Proof.Machine.execTransmitStart line s
  | .arbitrationLoss line => Sys2Proof.Machine.execArbitrationLoss line s
  | .bitError line => Sys2Proof.Machine.execBitError line s
  | .frameComplete line => Sys2Proof.Machine.execFrameComplete line s
  | .frameDiscard line => Sys2Proof.Machine.execFrameDiscard line s
  | .lineTestFrame line => Sys2Proof.Machine.execLineTestFrame line s
  | .lineBusy line => Sys2Proof.Machine.execLineBusy line s
  | .closureOffer => Sys2Proof.Machine.execClosureOffer s
  | .ovsync => Sys2Proof.Machine.execOvsync s
  | .levelSample pulses => Sys2Proof.Machine.execLevelSample pulses s
  | .markFired number => Sys2Proof.Machine.execMarkFired number s
  | .ovclk => Sys2Proof.Machine.execOvclk s

end Sys2Proof.Machine
end

