-- ==== Sys2Proof/Safety.lean ====
section
/-! DEFINITION. What a good state of the block is: the conditions under which the port takes a command, and the invariants that the rules state of every state the device can be in. -/

namespace Sys2Proof.Machine

/-! ## When a command is taken -/

/-- The port takes a command: RESETN is high and no STEP is in progress (R187, R197). -/
abbrev PortFree (s : State) : Prop := s.resetnLow = false ∧ s.port.stepRun = none

/-- The port takes a command and no line test runs (R188). -/
abbrev PortReady (s : State) : Prop := PortFree s ∧ s.bus.lineTest = none

/-- A command of the configuration phase is judged (R189). -/
abbrev Configurable (s : State) : Prop := PortReady s ∧ s.port.part = .config

/-- A command of the running part is judged (R189). -/
abbrev OnStage (s : State) : Prop := PortReady s ∧ s.port.part = .running

/-- The reference and the agreement unit act: RUNNING with RESETN high (R1, R46, R197). -/
abbrev Live (s : State) : Prop := s.resetnLow = false ∧ s.port.part = .running

/-- The state with an answer written to the response buffer (R188). -/
def State.answered (s : State) (st : Status) (d : Reply) : State := s.setResponse (some ⟨st, d⟩)

/-- The state with the record of the bytes shifted out replaced (R187). -/
def State.withSdo (s : State) (out : List Byte) : State := s.setPort { s.port with sdo := out }

/-- The power-on state with RESETN at a level; the commands to come and the bytes shifted out last lie outside the reset. -/
def resetKept (low : Bool) (s : State) : State :=
  { State.reset with port := { State.reset.port with sdo := s.port.sdo }, resetnLow := low, pending := s.pending }

/-- The CONFIG column of the catalogue: the commands judged further in CONFIG (R189). -/
def judgedInConfig : Command → Bool
  | .configure _ => true
  | .start => true
  | .reset _ => true
  | .readStatus _ _ => true
  | .readNotice => true
  | .lineTest _ _ => true
  | _ => false

/-- Commands run one after another, up to the first that gives no next state. -/
def runCommands : List Instr → State → Host.Outcome State Fault Refusal
  | [], s => .next s
  | i :: rest, s =>
    match exec i s with
    | .next t => runCommands rest t
    | .fault f => .fault f
    | .refused r => .refused r

/-- The link is one in which complete frames are handed on (R28, table of 2.5). -/
def LinkState.handsOn (l : LinkState) : Bool := decide (l = .listening) || decide (l = .active) || decide (l = .listenOnly)

/-- The fields of a payload fit the bytes and bits of their layout (R201). -/
def Payload.fits : Payload → Bool
  | .anchor g _ r p => decide (g < 256) && decide (r < 256) && decide (p < 4294967296)
  | .locate g _ _ r st n t =>
    decide (g < 256) && decide (r < 256) && decide (st < 256) && decide (n < 65536) && decide (t < 4294967296)
  | .hold lease reason => decide (lease < 256) && decide (reason < 16)
  | .release => true
  | .window n c i o => decide (n < 65536) && decide (c < 65536) && decide (i < 4294967296) && decide (o < 4294967296)
  | .done n _ _ => decide (n < 65536)
  | .beacon rc _ _ g n r p =>
    decide (rc < 8) && decide (g < 256) && decide (n < 65536) && decide (r < 256) && decide (p < 4294967296)
  | .test n => decide (n < 256)

/-! ## The reference -/

/-- A pulse that the unit qualifies and the divider passes on: RUNNING, the transition of the configured source, a level held for 2 µs, and a divider of 1 or at phase 0 (R1, R2). -/
structure Candidate (t : RefTransition) (heldNs : Nat) (s : State) : Prop where
  live : Live s
  source : s.timing.refSource = (match t with | .rise => .inputRise | .fall => .inputFall)
  held : 2000 ≤ heldNs
  passed : s.timing.refDiv = 1 ∨ s.ref.dividerPhase = 0

/-- The divider phase after a pulse has been passed on (R2). -/
def phasePassed (s : State) : Fin 2 := if s.timing.refDiv = 1 then s.ref.dividerPhase else 1

/-- Two measured periods differ by at most the 256th part of the earlier one (R3). -/
abbrev PeriodsAgree (later earlier : Nat) : Prop := later ≤ earlier + earlier / 256 ∧ earlier ≤ later + earlier / 256

/-- The period from an origin to an instant, as the unit measures it with no period held (R3, log 6): at most 16,777,215. -/
def periodSince (origin instant : Nat) : Nat := min 16777215 (max 1 (instant - origin))

/-- The period from an origin to an instant, as the unit measures it while it holds a period: T + T div 2 at most, which is that of an edge at the moment of its watchdog's expiry (R3, logs 6 and 36). More than 16,777,215 is taken as 16,777,215, by the model's choice in a comparison too (log 45). -/
def periodWithin (held origin instant : Nat) : Nat := min 16777215 (max 1 (min (held + held / 2) (instant - origin)))

/-- The edge comes before the moment of its watchdog's expiry and its period agrees with the one held (R3); one brought down to 16,777,215 is compared as it stands, by the model's choice (log 45). -/
abbrev EdgeAgrees (held origin instant : Nat) : Prop :=
  instant - origin ≤ held + held / 2 ∧ PeriodsAgree (periodWithin held origin instant) held

/-! ## The events of a cue -/

/-- A cue and a configuration in range: the cue starts before it ends and before P_MAX (R73), its pips are at most four (R74, R75), and the output lengths are those of R193. -/
structure CueInRange (c : CueRec) (d : DefaultsRec) (o : OutputsRec) (pMax : Nat) : Prop where
  order : c.s < c.e
  start : c.s < pMax
  pipLength : 60 ≤ o.pipLength
  flashLength : 1 ≤ o.flashLength
  beeps : c.beepsR d ≤ 4
  beepsSounding : c.silentLast = false → c.beepsR d ≤ 3
  spacing : 1 ≤ c.spacingR d

/-- The rows of R126 with R127: what an event of a cue says of its kind, its pip number and its position. -/
def rowOf (d : DefaultsRec) (o : OutputsRec) (pMax : Nat) (c : CueRec) (mode : PassMode) (e : Event) : Prop :=
  match e.kind with
  | .streamerBegin => c.noStreamer = false ∧ e.pip = none ∧ e.pos = min (c.s - c.leadR d * 120) pMax
  | .pipOn => ∃ k : Nat, e.pip = some k ∧ k ≤ c.beepsR d ∧ (k = 0 → c.silentLast = false) ∧
      k * c.spacingR d * 120 ≤ c.s ∧ e.pos = min (c.s - k * c.spacingR d * 120) pMax
  | .pipOff => ∃ k : Nat, e.pip = some k ∧ k ≤ c.beepsR d ∧ (k = 0 → c.silentLast = false) ∧
      k * c.spacingR d * 120 ≤ c.s ∧ e.pos = min (min (c.s - k * c.spacingR d * 120) pMax + o.pipLength) pMax
  | .flashOn => e.pip = none ∧ e.pos = min c.s pMax
  | .flashOff => c.noFlash = false ∧ e.pip = none ∧ e.pos = min (c.s + o.flashLength * 120) pMax
  | .punchIn => mode = .record ∧ e.pip = none ∧ e.pos = min (c.s - c.handleInR d * 120) pMax
  | .punchOut => mode = .record ∧ e.pip = none ∧ e.pos = min (c.e + c.handleOutR d * 120) pMax
  | .lineEnd => e.pip = none ∧ e.pos = min c.e pMax

/-! ## Capacities -/

/-- The queues hold no more than their rules allow: notices (R191), pending frames (R47), transmit entries (R35); and of an abort at most its 8 bits are still to be sent (R31). -/
structure QueuesBounded (s : State) : Prop where
  notices : s.port.notices.length ≤ Config.noticeCapacity
  frames : s.agr.frames.length ≤ Config.pendingCapacity
  queue : s.bus.queue.length ≤ Config.queueCapacity
  abort : s.bus.abort ≤ Config.abortBits

/-- The stores hold no more than their rules allow: cues (R76), plan steps (R88), take records (R172). -/
structure StoresBounded (s : State) : Prop where
  cues : s.cues.length ≤ Config.cueCapacity
  steps : s.plan.steps.length ≤ Config.planCapacity
  records : s.log.records.length ≤ Config.takeCapacity

/-- The overflow flag stands only while the notice queue holds a notice (R191). -/
abbrev OverflowGuarded (s : State) : Prop := s.port.overflow = true → s.port.notices ≠ []

/-! ## Order -/

/-- The cue table is in order of S, then id, and no two records share an id (R76). -/
structure CuesOrdered (cues : List CueRec) : Prop where
  order : cues.Pairwise fun a b => a.before b = true
  unique : (cues.map CueRec.id).Nodup

/-- No event of the list stands before an event ahead of it (R132). -/
abbrev EventsOrdered (s : State) : Prop := s.sched.events.Pairwise fun a b => b.before a = false

/-- The hold set and the window table hold at most one entry per address, in ascending address order (R55, R105). -/
structure TablesOrdered (s : State) : Prop where
  holds : s.agr.holds.Pairwise fun a b => a.address < b.address
  windows : s.pass.windows.Pairwise fun a b => a.address < b.address

/-! ## Position, transport and lines -/

/-- The position state is in range (table of 1.2): positions up to P_MAX, the rate in 60..240, the accumulator below 120, and p from p_edge to below the next edge's value, on it while the transport does not roll and through the first frame of a roll (R20, R46, R49); in CONFIG everything is at its reset value. -/
structure PositionSound (s : State) : Prop where
  edgeRange : s.posn.pEdge ≤ s.pMax
  prevRange : s.posn.pPrev ≤ s.pMax
  positionRange : s.posn.p ≤ s.pMax
  rateLow : 60 ≤ s.posn.rate
  rateHigh : s.posn.rate ≤ 240
  accumulator : s.posn.acc < 120
  notBelowEdge : s.posn.pEdge ≤ s.posn.p
  belowNextEdge : s.posn.p < s.posn.pEdge + s.posn.rate
  atRest : s.agr.transport ≠ .rolling → s.posn.p = s.posn.pEdge
  firstFrame : s.agr.rollFresh = true → s.agr.transport = .rolling ∧ s.posn.p = s.posn.pEdge
  config : s.port.part = .config → s.posn = Position.reset

/-- A locate record is present exactly while the transport is CUEING (R49 to R53). -/
abbrev LocateSound (s : State) : Prop := s.agr.transport = .cueing ↔ s.agr.locate.isSome = true

/-- The settled lines follow the counts and the pitch (R154, R155). -/
structure LinesSettled (o : OutputUnits) : Prop where
  gate : o.pipg = decide (0 < o.pipCount)
  pitchLine : o.pipp = (decide (0 < o.pipCount) && decide (o.pitch = .accent))
  punch : o.punch = decide (0 < o.punchCount)
  rest : o.pipCount = 0 → o.pitch = .normal

/-! ## Configuration, passes and takes -/

/-- The records held are a prefix of the record order, and all five are held in RUNNING (11.1, R194, R196). -/
structure RecordsHeld (s : State) : Prop where
  station : s.conf.station.isSome = true → s.conf.timing.isSome = true
  outputs : s.conf.outputs.isSome = true → s.conf.station.isSome = true
  defaults : s.conf.defaults.isSome = true → s.conf.outputs.isSome = true
  onset : s.conf.onset.isSome = true → s.conf.defaults.isSome = true
  running : s.port.part = .running → s.conf.onset.isSome = true

/-- The number of records that are IN_PROGRESS. -/
def TakeLog.openCount (l : TakeLog) : Nat := l.records.countP fun r => decide (r.outcome = .inProgress)

/-- The pass controller and the take log agree (R172): a record is IN_PROGRESS exactly in IN_PASS, at most one and the newest, the transport is ROLLING and the link has left LISTENING; no pass stands in CONFIG, and a line test runs in CONFIG alone (R41). -/
structure PassSound (s : State) : Prop where
  openRecord : s.log.openCount = if s.pass.state = .inPass then 1 else 0
  newest : s.pass.state = .inPass → (s.log.records.getLast?.map TakeRec.outcome) = some .inProgress
  rolls : s.pass.state = .inPass → s.agr.transport = .rolling
  link : s.pass.state = .inPass → s.bus.link = .active ∨ s.bus.link = .listenOnly
  config : s.port.part = .config → s.pass.state = .idle
  test : s.bus.lineTest.isSome = true → s.port.part = .config

/-- The pass controller and the plan unit agree: the own window record is present exactly in STANDBY, in IN_PASS and in CLEARED with outcome MORE, and the outcome in CLEARED alone (6.1); without a record the cursor is absent, and without a cursor the stack is empty and no passes remain (R89, R91, R98, R101). -/
structure RunSound (s : State) : Prop where
  record : s.pass.own.isSome = (decide (s.pass.state = .standby) || decide (s.pass.state = .inPass) ||
    decide (s.pass.outcome = some .more))
  outcome : s.pass.outcome.isSome = decide (s.pass.state = .cleared)
  cursor : s.pass.own = none → s.plan.cursor = none
  rest : s.plan.cursor = none → s.plan.stack = [] ∧ s.plan.passesRemaining = 0

/-- At most one frame of the mark unit stands in the transmit queue (R181). -/
abbrev OneMarkStop (s : State) : Prop := s.bus.queue.countP TxEntry.fromMark ≤ 1

end Sys2Proof.Machine
end

