-- ==== Sys2Proof/Certificates/Slice0/Obligations.lean ====
section
/-! DEFINITION. The statements for the provers, in five parts: the step and the resets, the console port, the stores and the stage commands, the reference and the stage bus, and the invariants of every step. -/

open Sys2Proof Sys2Proof.Machine

/-! ## The step and the resets -/

/-- A step runs the command at the front of the queue on the state with the rest of the queue. An empty queue idles: that clause is the model's choice, log 3. -/
def Obligations.StepTakesFrontCommand : Prop :=
  (∀ (c : Instr) (rest : List Instr) (s : State), step (s.setPending (c :: rest)) = exec c (s.setPending rest)) ∧
    ∀ s : State, step (s.setPending []) = .next (s.setPending [])

/-- The FULL-reset columns of R14, R21, R45, R71, R85, R103, R125, R146, R162, R177, R183 and the port's values of R197. The count of abort bits still to be sent, 0, is a field of the model's own, log 21. -/
def Obligations.ResetValues : Prop :=
  State.reset.ref = ⟨.noRef, 0, none, none, 0, 0⟩ ∧ State.reset.posn = ⟨0, 0, 0, 0, 120⟩ ∧
    State.reset.bus = ⟨.off, 0, [], none, ⟨0, none⟩, none, .none, 0⟩ ∧
    State.reset.agr.transport = .stopped ∧ State.reset.agr.generation = 0 ∧ State.reset.agr.passNumber = 0 ∧
    State.reset.agr.settle = 0 ∧ State.reset.agr.locate = none ∧ State.reset.agr.frames = [] ∧ State.reset.agr.holds = [] ∧
    State.reset.agr.reasons = ⟨false, false, false⟩ ∧ State.reset.agr.beaconCountdown = 0 ∧
    State.reset.agr.join = .waiting ∧ (∀ a : Nat, State.reset.agr.slot a = ⟨.absent, 0, none⟩) ∧
    State.reset.cues = [] ∧ State.reset.plan = ⟨[], none, 0, []⟩ ∧ State.reset.pass = ⟨.idle, none, none, [], none⟩ ∧
    State.reset.sched = ⟨none, [], [], 0, 0, 0, 0⟩ ∧
    State.reset.out = ⟨none, none, 0, 0, .normal, 0, false, false, false, none, .idle, none⟩ ∧
    State.reset.onset = ⟨.idle, [], none⟩ ∧ State.reset.log = ⟨[], 0⟩ ∧
    (∀ n : Nat, State.reset.mark n = ⟨0, 0, .enter, 0, 1, .notice, .once, false⟩) ∧
    State.reset.conf = ⟨none, none, none, none, none⟩ ∧ State.reset.port.part = .config ∧
    State.reset.port.stepRun = none ∧ State.reset.port.response = none ∧ State.reset.port.notices = [] ∧
    State.reset.port.overflow = false

/-- The invariants of Safety.lean hold right after power-on. -/
def Obligations.InvariantsAtReset : Prop :=
  QueuesBounded State.reset ∧ OverflowGuarded State.reset ∧ OneMarkStop State.reset ∧ StoresBounded State.reset ∧
    CuesOrdered State.reset.cues ∧ EventsOrdered State.reset ∧ TablesOrdered State.reset ∧ PositionSound State.reset ∧
    LocateSound State.reset ∧ LinesSettled State.reset.out ∧ RecordsHeld State.reset ∧ PassSound State.reset ∧
    RunSound State.reset

/-- RESETN, POWER_ON and RESETN_RELEASE (R197): a FULL reset with no response, held while RESETN stays low; while it is low no command but a power-on, RESETN, its release and a transfer's shifting out changes anything. What stays low at a power-on, and that every event is ignored, is the model's reading, log 16. -/
def Obligations.ResetLineAndPowerOn : Prop :=
  (∀ s : State,
    exec .resetn s = .next (resetKept true s) ∧ exec .powerOn s = .next (resetKept s.resetnLow s) ∧
      exec .resetnRelease s = .next (s.setResetnLow false)) ∧
  ∀ (i : Instr) (s : State), s.resetnLow = true → (∀ m : List Byte, i ≠ .transfer m) → i ≠ .powerOn → i ≠ .resetn →
    i ≠ .resetnRelease → exec i s = .next s

/-- RESET FULL (R197): accepted in every part state and during a line test, with the answer OK in the buffer. -/
def Obligations.ResetFullCommand : Prop :=
  ∀ s : State, PortFree s → exec .resetFull s = .next ((resetKept false s).answered .ok .empty)

/-- RESET REJOIN (R198): the REJOIN values of every block; refused with STATE in CONFIG, during a line test too. The model's own fields (log 21) are at their reset values. -/
def Obligations.ResetRejoinCommand : Prop :=
  (∀ s : State, OnStage s → ∃ t : State, exec .resetRejoin s = .next t ∧
    t.ref = State.reset.ref ∧ t.posn = State.reset.posn ∧
    t.bus = ⟨.listening, 2 * s.station.beaconInterval, [], none, ⟨0, none⟩, none, s.bus.testResult, 0⟩ ∧
    t.agr = { State.reset.agr with beaconCountdown := s.station.beaconInterval } ∧
    t.cues = s.cues.map (fun c => { c with pinned := false }) ∧ t.plan = State.reset.plan ∧ t.pass = State.reset.pass ∧
    t.sched = ⟨none, [], [], s.outputs.advOverlay, s.outputs.advPip, s.outputs.advPunchIn, s.outputs.advPunchOut⟩ ∧
    t.out = State.reset.out ∧ t.onset = State.reset.onset ∧ t.log = State.reset.log ∧
    (∀ n : Nat, t.mark n = { s.mark n with armed := false }) ∧ t.conf = s.conf ∧
    t.port = { s.port with notices := [], overflow := false, response := some ⟨.ok, .empty⟩ } ∧
    t.resetnLow = s.resetnLow ∧ t.pending = s.pending) ∧
  ∀ s : State, PortFree s → s.port.part = .config → exec .resetRejoin s = .next (s.answered .state .empty)

/-- START (R196): refused with STATE in RUNNING and with ORDER before five records are held; else the part runs, and every block takes its START values. The model's own fields (log 21) are at their reset values. -/
def Obligations.StartCommand : Prop :=
  (∀ s : State, OnStage s → exec .start s = .next (s.answered .state .empty)) ∧
  (∀ s : State, Configurable s → s.conf.held < 5 → exec .start s = .next (s.answered .order .empty)) ∧
  ∀ s : State, Configurable s → s.conf.held = 5 → ∃ t : State, exec .start s = .next t ∧
    t.port = { s.port with part := .running, response := some ⟨.ok, .empty⟩ } ∧ t.conf = s.conf ∧
    t.ref = State.reset.ref ∧ t.posn = s.posn ∧
    t.bus = ⟨.listening, 2 * s.station.beaconInterval, [], none, ⟨0, none⟩, none, s.bus.testResult, 0⟩ ∧
    t.agr = { State.reset.agr with peers := s.agr.peers, beaconCountdown := s.station.beaconInterval } ∧
    t.cues = [] ∧ t.plan = State.reset.plan ∧ t.pass = State.reset.pass ∧
    t.sched = ⟨none, [], [], s.outputs.advOverlay, s.outputs.advPip, s.outputs.advPunchIn, s.outputs.advPunchOut⟩ ∧
    t.out = State.reset.out ∧ t.onset = { State.reset.onset with sample := s.onset.sample } ∧ t.log = State.reset.log ∧
    (∀ n : Nat, t.mark n = { s.mark n with armed := false }) ∧ t.resetnLow = s.resetnLow ∧ t.pending = s.pending

/-! ## The console port -/

/-- The CONFIG column of R189 and the line-test judgement of R188: a stage command in CONFIG is answered STATE, and a command that a line test does not serve is answered BUSY; nothing else changes. -/
def Obligations.PhaseRefusals : Prop :=
  (∀ (i : Instr) (c : Command) (s : State), i.command = some c → judgedInConfig c = false → Configurable s →
    exec i s = .next (s.answered .state .empty)) ∧
  ∀ (i : Instr) (c : Command) (s : State), i.command = some c → servedInTest c = false → PortFree s →
    s.bus.lineTest.isSome = true → exec i s = .next (s.answered .busy .empty)

/-- The message of every well-formed command, written as R203 and R204 lay it out, is read back as that command, every operand at every value. The parameters read for a record, a step kind or a selector outside its table are the model's choice, log 14. The code of every command is that of R189 and its parameters stand in the order of its catalogue entry (R200, R203, R204), each spelled out; numbers go most significant byte first (R200). -/
def Obligations.MessageRoundTrip : Prop :=
  (∀ c : Command, c.wf = true → decodeMessage (encodeMessage c) = .command c) ∧
  (∀ c : Command, encodeMessage c = c.code :: BitVec.ofNat 8 c.params.length :: c.params) ∧
  (∀ c : Command, (c.code, c.params) = match c with
    | .configure r => (1, r.bytes)
    | .start => (2, [])
    | .reset kind => (3, [kind])
    | .readStatus part index => (4, [part, index])
    | .readNotice => (5, [])
    | .lineTest mode count => (6, [mode, count])
    | .loadCue a => (16, halfBytes a.id ++ quadBytes a.s ++ quadBytes a.e ++ [a.lead, a.beeps, a.spacing] ++
        halfBytes a.preroll ++ halfBytes a.postroll ++ [a.handleIn, a.handleOut, a.tag, a.presence, a.options])
    | .deleteCue id => (17, halfBytes id)
    | .clearCues => (18, [])
    | .readCue (.byId id) => (19, 0 :: halfBytes id)
    | .readCue (.byIndex index) => (19, [1, index])
    | .readCue (.other selector) => (19, [selector, 0])
    | .planClear => (32, [])
    | .planStep (.cue first run passes mode) => (33, 0 :: (halfBytes first ++ [run, passes, mode]))
    | .planStep (.block span repeats) => (33, [1, span, repeats])
    | .planStep (.other kind) => (33, [kind, 0, 0])
    | .planRun => (34, [])
    | .planSkip => (35, [])
    | .planAbort => (36, [])
    | .go => (40, [])
    | .transportLocate target rate play => (48, quadBytes target ++ [rate, play])
    | .transportPlay rate => (49, [rate])
    | .transportStop => (50, [])
    | .hold => (51, [])
    | .release => (52, [])
    | .readPeers address => (53, [address])
    | .readTake part remove => (64, [part, remove])
    | .setMark a => (80, a.number :: (quadBytes a.low ++ quadBytes a.high ++ [a.condition, a.count, a.action, a.rearm]))
    | .clearMark number => (81, [number])
    | .step count => (82, [count])) ∧
  (∀ r : ConfigRecord, r.bytes = match r with
    | .timing rate divider source bus => [0, rate, divider, source, bus]
    | .station address beacon lease grace settle slip => [1, address, beacon, lease, grace, settle, slip]
    | .outputs o p i q w l flash accent =>
      2 :: (halfBytes o ++ halfBytes p ++ halfBytes i ++ halfBytes q ++ halfBytes w ++ halfBytes l ++ [flash, accent])
    | .cueDefaults lead beeps spacing pre post hin hout =>
      3 :: ([lead, beeps, spacing] ++ halfBytes pre ++ halfBytes post ++ [hin, hout])
    | .onset quiet level delay early => 4 :: ([quiet, level] ++ halfBytes delay ++ [early])
    | .other code => [code, 0, 0, 0, 0]) ∧
  ∀ (x : Half) (y : Quad), (halfBytes x).length = 2 ∧ bytesNum (halfBytes x) = x.toNat ∧
    (quadBytes y).length = 4 ∧ bytesNum (quadBytes y) = y.toNat

/-- A transfer that carries the message of a command does what the command does, and the port records the bytes shifted out meanwhile (R187, R188). That a transfer is one command with its bytes, and a command the message already taken, is the model's choice, log 12. Bytes beyond those of the message are ignored (R188). -/
def Obligations.TransferRunsItsCommand : Prop :=
  (∀ (i : Instr) (c : Command) (s : State), i.command = some c → c.wf = true → PortFree s →
    ∃ t : State, exec i s = .next t ∧
      exec (.transfer (encodeMessage c)) s = .next (t.withSdo (shiftedOut (encodeMessage c).length s))) ∧
  ∀ (i : Instr) (c : Command) (s : State) (extra : List Byte), i.command = some c → c.wf = true → PortFree s →
    ∃ t : State, exec i s = .next t ∧ exec (.transfer (encodeMessage c ++ extra)) s =
      .next (t.withSdo (shiftedOut ((encodeMessage c).length + extra.length) s))

/-- A transfer that takes no command changes nothing but the record of the bytes shifted out (R187): discarded while RESETN is low or the port is BUSY, and a poll otherwise. The port status byte is laid out as R203 gives. The bytes shifted out are spelled out for every length. A response goes out as status code, length and data (R203), the codes those of R188, numbers most significant byte first (R200); that a transfer is one command with its bytes is log 12, and the bytes of the short answers given here are the model's choice, log 13. -/
def Obligations.TransferDiscardsAndPolls : Prop :=
  (∀ (m : List Byte) (s : State), s.resetnLow = true →
    exec (.transfer m) s = .next (s.withSdo (List.replicate m.length 0))) ∧
  (∀ (m : List Byte) (s : State), s.resetnLow = false → s.port.stepRun.isSome = true →
    exec (.transfer m) s = .next (s.withSdo ((statusByte s :: List.replicate m.length 0).take m.length))) ∧
  (∀ (m : List Byte) (s : State), PortFree s → (m.length < 2 ∨ m.head? = some 0) →
    exec (.transfer m) s = .next (s.withSdo
      ((statusByte s :: ((s.port.response.map Response.bytes).getD [] ++ List.replicate m.length 0)).take m.length))) ∧
  (∀ s : State, (statusByte s).getLsbD 7 = s.port.stepRun.isNone ∧
    (statusByte s).getLsbD 6 = decide (s.port.notices ≠ []) ∧ (statusByte s).getLsbD 5 = s.port.overflow ∧
    (statusByte s).getLsbD 4 = s.port.response.isSome ∧ (statusByte s).getLsbD 3 = decide (s.port.part = .running) ∧
    (statusByte s).getLsbD 2 = s.bus.lineTest.isSome ∧ (statusByte s).getLsbD 1 = false ∧
    (statusByte s).getLsbD 0 = false) ∧
  (∀ (n : Nat) (s : State), s.resetnLow = true → shiftedOut n s = List.replicate n 0) ∧
  (∀ (n : Nat) (s : State), s.resetnLow = false → s.port.stepRun.isSome = true →
    shiftedOut n s = (statusByte s :: List.replicate n 0).take n) ∧
  (∀ (n : Nat) (s : State), PortFree s → shiftedOut n s =
    (statusByte s :: ((s.port.response.map Response.bytes).getD [] ++ List.replicate n 0)).take n) ∧
  (∀ r : Response, r.bytes =
    BitVec.ofNat 8 r.status.code :: BitVec.ofNat 8 r.data.bytes.length :: r.data.bytes) ∧
  ([Status.ok, .okClamped, .busy, .order, .range, .full, .exists_, .absent, .state, .queueFull, .unknown,
    .none].map Status.code = List.range 12) ∧
  (∀ (w n : Nat), (numBytes w n).length = w ∧ (n < 256 ^ w → bytesNum (numBytes w n) = n)) ∧
  (∀ (b : Byte) (rest : List Byte), bytesNum (b :: rest) = b.toNat * 256 ^ rest.length + bytesNum rest) ∧
  ∀ n : Nat, Reply.empty.bytes = [] ∧ (Reply.count n).bytes = numBytes 1 n ∧ (Reply.cueCount n).bytes = numBytes 2 n ∧
    (Reply.stepIndex n).bytes = numBytes 1 n

/-- A message with an unknown code is answered UNKNOWN and a badly framed one RANGE, before any other judgement (R188); the codes are those of R189. What counts as badly framed for a record, a step kind or a selector outside its table is the model's choice, log 14. Of a longer transfer the first 32 bytes are the message (R187). A RESET whose kind is neither FULL, code 0, nor REJOIN, code 1, answers RANGE in every part state and during a line test, and resets nothing (R198, R200); the two kinds do what ResetFullCommand and ResetRejoinCommand say. -/
def Obligations.BadMessagesAnswered : Prop :=
  (∀ (code len : Byte) (rest : List Byte) (s : State), PortFree s → code ≠ 0 → rest.length ≤ 30 →
    catalogue code.toNat = none →
    exec (.transfer (code :: len :: rest)) s =
      .next ((s.answered .unknown .empty).withSdo (shiftedOut (rest.length + 2) s))) ∧
  (∀ (code len : Byte) (rest : List Byte) (s : State) (read : List Byte → Option Command), PortFree s → code ≠ 0 →
    rest.length ≤ 30 → catalogue code.toNat = some read →
    (30 < len.toNat ∨ rest.length < len.toNat ∨ read (rest.take len.toNat) = none) →
    exec (.transfer (code :: len :: rest)) s =
      .next ((s.answered .range .empty).withSdo (shiftedOut (rest.length + 2) s))) ∧
  (∀ n : Nat, (catalogue n).isSome =
    decide (n ∈ [1, 2, 3, 4, 5, 6, 16, 17, 18, 19, 32, 33, 34, 35, 36, 40, 48, 49, 50, 51, 52, 53, 64, 80, 81, 82])) ∧
  (∀ (m : List Byte) (s : State), 32 ≤ m.length → ∃ t : State, exec (.transfer (m.take 32)) s = .next t ∧
    exec (.transfer m) s = .next (t.withSdo (shiftedOut m.length s))) ∧
  (∀ (kind : Byte) (rest : List Byte) (s : State), PortFree s → kind ≠ 0 → kind ≠ 1 →
    exec (.transfer (3 :: 1 :: kind :: rest)) s =
      .next ((s.answered .range .empty).withSdo (shiftedOut (rest.length + 3) s))) ∧
  (∀ (rest : List Byte) (s : State), PortFree s → exec (.transfer (3 :: 1 :: 0 :: rest)) s =
    .next (((resetKept false s).answered .ok .empty).withSdo (shiftedOut (rest.length + 3) s))) ∧
  ∀ (rest : List Byte) (s : State), PortFree s → ∃ t : State, exec .resetRejoin s = .next t ∧
    exec (.transfer (3 :: 1 :: 1 :: rest)) s = .next (t.withSdo (shiftedOut (rest.length + 3) s))

/-- An accepted CONFIGURE (R194) writes record k with its fields as R193 and R195 bring them into range, keeps the records before it and discards those after it; the ranges of all five records are spelled out. The frame-rate codes are those of R201, and the rate fixes P_MAX (R15). -/
def Obligations.ConfigureWritesRecord : Prop :=
  (∀ (s : State) (r : ConfigRecord) (k : Nat) (c : Conf) (clamped : Bool), Configurable s → recordPlace r = some k →
    k ≤ s.conf.held + 1 → writeRecord s.conf r = some (c, clamped) →
    exec (.configure r) s = .next ((s.setConf c).answered (if clamped then .okClamped else .ok) .empty) ∧ c.held = k ∧
      (1 < k → c.timing = s.conf.timing) ∧ (2 < k → c.station = s.conf.station) ∧
      (3 < k → c.outputs = s.conf.outputs) ∧ (4 < k → c.defaults = s.conf.defaults)) ∧
  (∀ (c : Conf) (f d src b : Byte), f.toNat ≤ 5 → (d = 1 ∨ d = 2) → src.toNat ≤ 2 → b.toNat ≤ 2 → ∃ r : TimingRec,
    writeRecord c (.timing f d src b) = some (⟨some r, none, none, none, none⟩, false) ∧
    r.frameRate.code = f.toNat ∧ r.refDiv = d.toNat ∧
    r.refSource = (if src = 0 then .inputRise else if src = 1 then .inputFall else .step) ∧
    r.busRate = (if b = 0 then .k250 else if b = 1 then .k500 else .k1000)) ∧
  (∀ (c : Conf) (a b h g st sl : Byte) (raw : StationRec), 1 ≤ a.toNat → a.toNat ≤ 30 →
    raw = ⟨a.toNat, b.toNat, h.toNat, g.toNat, st.toNat, sl.toNat⟩ →
    writeRecord c (.station a b h g st sl) =
      some (⟨c.timing, some raw.inRange, none, none, none⟩, decide (raw.inRange ≠ raw))) ∧
  (∀ (c : Conf) (o p i q w l : Half) (f x : Byte) (raw : OutputsRec), x.toNat ≤ 1 →
    raw = ⟨o.toNat, p.toNat, i.toNat, q.toNat, w.toNat, l.toNat, f.toNat, decide (x = 1)⟩ →
    writeRecord c (.outputs o p i q w l f x) =
      some (⟨c.timing, c.station, some raw.inRange, none, none⟩, decide (raw.inRange ≠ raw))) ∧
  (∀ (c : Conf) (l b sp hin hout : Byte) (pre post : Half) (raw : DefaultsRec),
    raw = ⟨l.toNat, b.toNat, sp.toNat, pre.toNat, post.toNat, hin.toNat, hout.toNat⟩ →
    writeRecord c (.cueDefaults l b sp pre post hin hout) =
      some (⟨c.timing, c.station, c.outputs, some raw.inRange, none⟩, decide (raw.inRange ≠ raw))) ∧
  (∀ (c : Conf) (a tr e : Byte) (d : Half) (raw : OnsetRec), raw = ⟨a.toNat, tr.toNat, d.toNat, e.toNat⟩ →
    writeRecord c (.onset a tr d e) =
      some (⟨c.timing, c.station, c.outputs, c.defaults, some raw.inRange⟩, decide (raw.inRange ≠ raw))) ∧
  (∀ r : StationRec, r.inRange = ⟨r.address, max 5 (min 50 r.beaconInterval), max 25 (min 250 r.holdLease),
    max 2 (min 25 r.closureGrace), min 250 r.settle, min 119 r.slipTolerance⟩) ∧
  (∀ r : OutputsRec, r.inRange = ⟨min 1200 r.advOverlay, min 1200 r.advPip, min 1200 r.advPunchIn,
    min 1200 r.advPunchOut, max 64 (min 4094 r.overlayWidth), max 60 (min 1200 r.pipLength),
    max 1 (min 12 r.flashLength), r.accentLast⟩) ∧
  (∀ r : DefaultsRec, r.inRange = ⟨max 6 (min 240 r.lead), min 4 r.beeps, max 6 (min 120 r.spacing), min 1200 r.preroll,
    min 1200 r.postroll, min 240 r.handleIn, min 240 r.handleOut⟩) ∧
  (∀ r : OnsetRec, r.triggerLevel ≤ 255 → r.inRange.armLevel = min 254 r.armLevel ∧
    r.inRange.triggerLevel = max (r.inRange.armLevel + 1) r.triggerLevel ∧ r.inRange.triggerLevel ≤ 255 ∧
    r.inRange.levelDelay = min 1200 r.levelDelay ∧ r.inRange.onsetEarly = min 48 r.onsetEarly) ∧
  [FrameRate.f24, .f25, .f30, .f48, .f50, .f60].map FrameRate.code = List.range 6 ∧
  [FrameRate.f24, .f25, .f30, .f48, .f50, .f60].map FrameRate.pMax =
    [24, 25, 30, 48, 50, 60].map (fun fps => fps * 86400 * 120 - 1) ∧
  ∀ (s : State) (r : TimingRec), s.conf.timing = some r → s.pMax = r.frameRate.pMax

/-- The refusals of CONFIGURE in their order (R194), with the refused fields of R193; a refused CONFIGURE changes no record. -/
def Obligations.ConfigureRefusals : Prop :=
  (∀ (s : State) (r : ConfigRecord), OnStage s → exec (.configure r) s = .next (s.answered .state .empty)) ∧
  (∀ (s : State) (code : Byte), Configurable s →
    exec (.configure (.other code)) s = .next (s.answered .range .empty)) ∧
  (∀ (s : State) (r : ConfigRecord) (k : Nat), Configurable s → recordPlace r = some k → s.conf.held + 1 < k →
    exec (.configure r) s = .next (s.answered .order .empty)) ∧
  (∀ (s : State) (f d src b : Byte), Configurable s →
    (5 < f.toNat ∨ (d ≠ 1 ∧ d ≠ 2) ∨ 2 < src.toNat ∨ 2 < b.toNat) →
    exec (.configure (.timing f d src b)) s = .next (s.answered .range .empty)) ∧
  (∀ (s : State) (a b h g st sl : Byte), Configurable s → 1 ≤ s.conf.held → (a = 0 ∨ 30 < a.toNat) →
    exec (.configure (.station a b h g st sl)) s = .next (s.answered .range .empty)) ∧
  ∀ (s : State) (o p i q w l : Half) (f x : Byte), Configurable s → 2 ≤ s.conf.held → 1 < x.toNat →
    exec (.configure (.outputs o p i q w l f x)) s = .next (s.answered .range .empty)

/-- LINE TEST (R41) and the judging of its frames (R42, R43): accepted in CONFIG with TIMING held; a frame read back as sent is good, a difference outside a lost contention is bad and brings the abort, a lost contention is not judged; the last frame ends the test with PASS or with FAIL and the number of bad ones, and a wait of 1,000 bit times without idle ends a BUS_ECHO test with LINE_BUSY, within whatever bits it runs out (R43). The wait is spelled out: it grows by the bits that see no idle line, runs out where 1,000 of them see none, and begins again where the line was idle and a bit came before the test frame. That the bits read are operands is log 8, that an event whose conditions fail changes nothing is log 2, that a frame may begin in one event and be judged in another is log 20, what counts into the wait of 1,000 bit times and that it begins at a bit error is log 24, and how an INTERNAL loop reads and that a test runs on to the end of its last frame's abort is log 37. That LINE TEST answers ORDER before RANGE is the model's choice, log 15. Which bits carry the contention mark is spelled out in AttemptsOnTheLine, log 9. A frame of a BUS_ECHO test begins at the first idle line within the bits read, an abort having gone out and the wait not run out before it, and the bits after are judged as FRAME_COMPLETE, BIT_ERROR and ARBITRATION_LOSS judge them once it stands on the line; with no idle line, too long a wait, an abort still on the line or a part of the frame alone nothing changes. The mode codes are those of R41 in their order (R200). -/
def Obligations.LineTestRuns : Prop :=
  (∀ (s : State) (mode count : Byte) (m : TestMode), Configurable s → s.conf.timing.isSome = true →
    testModeOfCode mode.toNat = some m → 1 ≤ count.toNat → count.toNat ≤ 16 →
    exec (.lineTest mode count) s = .next ((s.setBus { s.bus with
      link := .lineTest, rx := ⟨0, none⟩, lineTest := some ⟨m, count.toNat, 1, 0, 0⟩, testResult := .running }).answered
        .ok .empty)) ∧
  (∀ (s : State) (mode count : Byte), OnStage s → exec (.lineTest mode count) s = .next (s.answered .state .empty)) ∧
  (∀ (s : State) (mode count : Byte), Configurable s → s.conf.timing = none →
    exec (.lineTest mode count) s = .next (s.answered .order .empty)) ∧
  (∀ (s : State) (mode count : Byte), Configurable s → s.conf.timing.isSome = true →
    (1 < mode.toNat ∨ count = 0 ∨ 16 < count.toNat) →
    exec (.lineTest mode count) s = .next (s.answered .range .empty)) ∧
  (∀ (s : State) (t : LineTest), s.resetnLow = false → s.bus.link = .lineTest → s.bus.sending = none →
    s.bus.lineTest = some t →
    (t.mode = .internal ∨ (s.bus.rx = ⟨10, none⟩ ∧ s.bus.abort = 0 ∧ t.waited ≤ 1000)) →
    (t.next < t.count → exec (.lineTestFrame (testFrame t.next).lineBits) s = .next (s.setBus { s.bus with
      sending := none, rx := ⟨8, none⟩, abort := 0, lineTest := some { t with next := t.next + 1, waited := 0 } })) ∧
    (t.next = t.count → exec (.lineTestFrame (testFrame t.next).lineBits) s = .next (s.setBus { s.bus with
      link := .off, sending := none, rx := ⟨0, none⟩, abort := 0, lineTest := none
      testResult := if t.bad = 0 then .pass else .fail t.bad })) ∧
    (t.next ≤ t.count → exec (.lineTestFrame []) s = .next (s.setBus { s.bus with
      sending := some (testFrame t.next), rx := ⟨10, none⟩, abort := 0 }))) ∧
  (∀ (s : State) (t : LineTest), s.resetnLow = false → s.bus.link = .lineTest → s.bus.sending.isSome = true →
    s.bus.lineTest = some t →
    (t.next < t.count → exec (.frameComplete (testFrame t.next).lineBits) s = .next (s.setBus { s.bus with
      sending := none, rx := ⟨8, none⟩, abort := 0, lineTest := some { t with next := t.next + 1, waited := 0 } })) ∧
    (t.next = t.count → exec (.frameComplete (testFrame t.next).lineBits) s = .next (s.setBus { s.bus with
      link := .off, sending := none, rx := ⟨0, none⟩, abort := 0, lineTest := none
      testResult := if t.bad = 0 then .pass else .fail t.bad }))) ∧
  (∀ (s : State) (t : LineTest) (after : List Bool), s.resetnLow = false → s.bus.sending.isSome = true →
    s.bus.lineTest = some t → t.mode = .busEcho → t.next < t.count →
    (∀ w : Nat, idleWait ⟨8, none⟩ 0 after = some w →
      exec (.frameComplete ((testFrame t.next).lineBits ++ after)) s = .next (s.setBus { s.bus with
        sending := none, rx := (runRx ⟨8, none⟩ after).1, abort := 0
        lineTest := some { t with next := t.next + 1, waited := w } })) ∧
    (idleWait ⟨8, none⟩ 0 after = none →
      exec (.frameComplete ((testFrame t.next).lineBits ++ after)) s = .next (s.setBus { s.bus with
        link := .off, sending := none, rx := ⟨0, none⟩, abort := 0, lineTest := none, testResult := .lineBusy }))) ∧
  (∀ (s : State) (t : LineTest) (after : List Bool), s.resetnLow = false → s.bus.sending.isSome = true →
    s.bus.lineTest = some t → t.next = t.count →
    exec (.frameComplete ((testFrame t.next).lineBits ++ after)) s = .next (s.setBus { s.bus with
      link := .off, sending := none, rx := ⟨0, none⟩, abort := 0, lineTest := none
      testResult := if t.bad = 0 then .pass else .fail t.bad })) ∧
  (∀ (s on : State) (t : LineTest) (n : Nat) (idle : Receiver) (line rest : List Bool), s.resetnLow = false →
    s.bus.link = .lineTest → s.bus.sending = none → s.bus.lineTest = some t → t.mode = .busEcho → t.next ≤ t.count →
    bitsToIdle s.bus.rx line = some (n, idle, rest) → t.waited + n ≤ 1000 → s.bus.abort ≤ n →
    on = s.setBus { s.bus with sending := some (testFrame t.next), rx := ⟨10, none⟩, abort := 0 } →
    (rest = [] → exec (.lineTestFrame line) s = .next on) ∧
    (∀ after : List Bool, rest = (testFrame t.next).lineBits ++ after →
      exec (.lineTestFrame line) s = exec (.frameComplete rest) on) ∧
    (∀ (sent later : List TxBit) (x : TxBit) (after : List Bool), (testFrame t.next).txBits = sent ++ x :: later →
      rest = sent.map TxBit.level ++ (!x.level) :: after →
      ((x.contention = false ∨ x.level = false) → exec (.lineTestFrame line) s = exec (.bitError rest) on) ∧
      (x.contention = true → x.level = true → exec (.lineTestFrame line) s = exec (.arbitrationLoss rest) on)) ∧
    ∀ (sent later : List TxBit) (x : TxBit), (testFrame t.next).txBits = sent ++ x :: later → sent ≠ [] →
      rest = sent.map TxBit.level → exec (.lineTestFrame line) s = .next s) ∧
  (∀ (s : State) (t : LineTest) (line : List Bool), s.bus.lineTest = some t → t.mode = .busEcho → t.next ≤ t.count →
    (bitsToIdle s.bus.rx line = none → exec (.lineTestFrame line) s = .next s) ∧
    ∀ (n : Nat) (idle : Receiver) (rest : List Bool), bitsToIdle s.bus.rx line = some (n, idle, rest) →
      (1000 < t.waited + n ∨ n < s.bus.abort) → exec (.lineTestFrame line) s = .next s) ∧
  (∀ (s : State) (t : LineTest) (line : List Bool), s.bus.lineTest = some t → t.mode = .internal → line ≠ [] →
    exec (.lineTestFrame line) s = exec (.lineTestFrame (testFrame t.next).lineBits) s ∧
    (s.bus.sending.isSome = true →
      exec (.frameComplete line) s = exec (.frameComplete (testFrame t.next).lineBits) s)) ∧
  (∀ (s : State) (line : List Bool), (s.resetnLow = true ∨ s.bus.link ≠ .lineTest ∨ s.bus.sending.isSome = true ∨
      s.bus.lineTest = none) →
    exec (.lineTestFrame line) s = .next s ∧ exec (.lineBusy line) s = .next s) ∧
  (∀ (s : State) (t : LineTest) (line : List Bool), s.bus.lineTest = some t →
    (t.count < t.next → exec (.lineBusy line) s = .next s) ∧
    (t.judge line ≠ .bitError → exec (.bitError line) s = .next s) ∧
    (t.judge line ≠ .lost → exec (.arbitrationLoss line) s = .next s)) ∧
  (∀ (t : LineTest) (line : List Bool),
    (t.mode = .busEcho → t.judge line = judgeTx (testFrame t.next).txBits line) ∧
    (t.mode = .internal → t.judge line =
      if judgeTx (testFrame t.next).txBits line = .lost then .bitError else judgeTx (testFrame t.next).txBits line)) ∧
  (∀ (s : State) (t : LineTest) (sent rest : List TxBit) (x : TxBit) (after : List Bool), s.resetnLow = false →
    s.bus.sending.isSome = true → s.bus.lineTest = some t → (testFrame t.next).txBits = sent ++ x :: rest →
    (t.mode = .internal ∨ x.contention = false ∨ x.level = false) →
    (∀ w : Nat, t.next < t.count → LineTest.waits { t with waited := 0 } ⟨0, none⟩ after = some w →
      exec (.bitError (sent.map TxBit.level ++ (!x.level) :: after)) s = .next (s.setBus { s.bus with
        sending := none, rx := (runRx ⟨0, none⟩ after).1, abort := 8 - after.length
        lineTest := some { t with next := t.next + 1, bad := t.bad + 1, waited := w } })) ∧
    (t.next < t.count → LineTest.waits { t with waited := 0 } ⟨0, none⟩ after = none →
      exec (.bitError (sent.map TxBit.level ++ (!x.level) :: after)) s = .next (s.setBus { s.bus with
        link := .off, sending := none, rx := ⟨0, none⟩, abort := 0, lineTest := none, testResult := .lineBusy })) ∧
    (t.count ≤ t.next → after.length < 8 →
      exec (.bitError (sent.map TxBit.level ++ (!x.level) :: after)) s = .next (s.setBus { s.bus with
        sending := none, rx := (runRx ⟨0, none⟩ after).1, abort := 8 - after.length
        lineTest := some { t with next := t.next + 1, bad := t.bad + 1, waited := 0 } })) ∧
    (t.count ≤ t.next → 8 ≤ after.length →
      exec (.bitError (sent.map TxBit.level ++ (!x.level) :: after)) s = .next (s.setBus { s.bus with
        link := .off, sending := none, rx := ⟨0, none⟩, abort := 0, lineTest := none, testResult := .fail (t.bad + 1) }))) ∧
  (∀ (s : State) (t : LineTest) (line : List Bool), s.resetnLow = false → s.bus.link = .lineTest →
    s.bus.sending = none → s.bus.lineTest = some t → t.count < t.next →
    ((t.mode = .internal ∨ s.bus.abort ≤ line.length) → exec (.lineTestFrame line) s = .next (s.setBus { s.bus with
      link := .off, sending := none, rx := ⟨0, none⟩, abort := 0, lineTest := none
      testResult := if t.bad = 0 then .pass else .fail t.bad })) ∧
    (t.mode = .busEcho → line.length < s.bus.abort → exec (.lineTestFrame line) s = .next s)) ∧
  (∀ (s : State) (t : LineTest) (sent rest : List TxBit) (x : TxBit) (after : List Bool), s.resetnLow = false →
    s.bus.sending.isSome = true → s.bus.lineTest = some t → t.mode = .busEcho → t.next ≤ t.count →
    (testFrame t.next).txBits = sent ++ x :: rest → x.contention = true → x.level = true →
    (∀ w : Nat, idleWait (runRx ⟨10, none⟩ (sent.map TxBit.level ++ [false])).1 0 after = some w →
      exec (.arbitrationLoss (sent.map TxBit.level ++ false :: after)) s = .next (s.setBus { s.bus with
        sending := none, rx := (runRx ⟨10, none⟩ (sent.map TxBit.level ++ false :: after)).1, abort := 0
        lineTest := some { t with waited := w } })) ∧
    (idleWait (runRx ⟨10, none⟩ (sent.map TxBit.level ++ [false])).1 0 after = none →
      exec (.arbitrationLoss (sent.map TxBit.level ++ false :: after)) s = .next (s.setBus { s.bus with
        link := .off, sending := none, rx := ⟨0, none⟩, abort := 0, lineTest := none, testResult := .lineBusy }))) ∧
  (∀ (s : State) (t : LineTest) (line : List Bool), s.bus.lineTest = some t → t.mode = .internal →
    exec (.arbitrationLoss line) s = .next s) ∧
  (∀ (s : State) (t : LineTest) (line : List Bool), s.resetnLow = false → s.bus.link = .lineTest → s.bus.sending = none →
    s.bus.lineTest = some t → t.mode = .busEcho → t.next ≤ t.count → 1000 ≤ t.waited + line.length →
    bitsToIdle s.bus.rx (line.take (1000 - t.waited)) = none →
    exec (.lineBusy line) s = .next (s.setBus { s.bus with
      link := .off, sending := none, rx := ⟨0, none⟩, abort := 0, lineTest := none, testResult := .lineBusy })) ∧
  (∀ (s : State) (t : LineTest) (line : List Bool), s.resetnLow = false → s.bus.link = .lineTest → s.bus.sending = none →
    s.bus.lineTest = some t → t.mode = .busEcho → t.next ≤ t.count → idleWait s.bus.rx t.waited line = none →
    exec (.lineBusy line) s = .next (s.setBus { s.bus with
      link := .off, sending := none, rx := ⟨0, none⟩, abort := 0, lineTest := none, testResult := .lineBusy })) ∧
  (∀ (s : State) (t : LineTest) (line : List Bool), s.bus.lineTest = some t →
    (t.mode = .internal ∨ idleWait s.bus.rx t.waited line ≠ none) → exec (.lineBusy line) s = .next s) ∧
  (∀ (t : LineTest) (rx : Receiver) (line : List Bool), (t.mode = .internal → t.waits rx line = some 0) ∧
    (t.mode = .busEcho → t.waits rx line = idleWait rx t.waited line)) ∧
  (∀ (rx : Receiver) (w : Nat) (line : List Bool),
    (bitsToIdle rx line = none → w + line.length < 1000 → idleWait rx w line = some (w + line.length)) ∧
    (1000 ≤ w + line.length → bitsToIdle rx (line.take (1000 - w)) = none → idleWait rx w line = none)) ∧
  (∀ (rx idle : Receiver) (w n : Nat) (line : List Bool), w + n ≤ 1000 →
    (bitsToIdle rx line = some (n, idle, []) → idleWait rx w line = some 0) ∧
    ∀ (b : Bool) (more : List Bool), bitsToIdle rx line = some (n, idle, b :: more) →
      idleWait rx w line = idleWait (rxBit idle b).1 1 more) ∧
  (∀ (rx : Receiver) (line : List Bool), rx.frame = none → rx.idle = 10 → bitsToIdle rx line = some (0, rx, line)) ∧
  (∀ (rx : Receiver) (b : Bool) (line : List Bool), (rx.frame ≠ none ∨ rx.idle ≠ 10) → bitsToIdle rx [] = none ∧
    bitsToIdle rx (b :: line) = (bitsToIdle (rxBit rx b).1 line).map fun (n, r) => (n + 1, r)) ∧
  ∀ code : Nat, testModeOfCode code = if code = 0 then some .internal else if code = 1 then some .busEcho else none

/-- READ STATUS (R199): it changes nothing, answers OK with the section's values, refuses a section outside the table and an index outside the section's range with RANGE, and answers ABSENT for a place beyond the window table. The values of every section are spelled out (R13, R102, R125, R145, R161, R176); the own window record is read without its set, which OWN SET reads. The column 4095 that a held lane reads before any composition is the model's choice, log 22; and so is that no section reports a record's own fields, where R195 has READ STATUS return the stored values and the table of R199 has no such section, log 43. The bytes of every section's answer are spelled out, with the codes in table order (R200): they are the model's choice, log 13; those of a WINDOW ENTRY answered ABSENT stand in TransferDiscardsAndPolls. -/
def Obligations.ReadStatusReports : Prop :=
  (∀ (s : State) (sec : Byte), PortFree s → sec.toNat < 10 → sec ≠ 5 → ∃ d : Reply, plainSection sec.toNat s = some d ∧
    exec (.readStatus sec 0) s = .next (s.answered .ok d)) ∧
  (∀ (s : State) (sec index : Byte), PortFree s → sec.toNat < 10 → sec ≠ 5 → index ≠ 0 →
    exec (.readStatus sec index) s = .next (s.answered .range .empty)) ∧
  (∀ (s : State) (index : Byte) (w : WindowEntry), PortFree s → s.pass.windows[index.toNat]? = some w →
    exec (.readStatus 5 index) s = .next (s.answered .ok (.windowEntry w))) ∧
  (∀ (s : State) (index : Byte), PortFree s → s.pass.windows.length ≤ index.toNat →
    exec (.readStatus 5 index) s = .next (s.answered .absent (.count s.pass.windows.length))) ∧
  (∀ (s : State) (index : Byte), PortFree s → 1 ≤ index.toNat → index.toNat ≤ 4 →
    exec (.readStatus 10 index) s = .next (s.answered .ok (.mark (s.mark index.toNat) s.markStopFlag))) ∧
  (∀ (s : State) (index : Byte), PortFree s → (index = 0 ∨ 4 < index.toNat) →
    exec (.readStatus 10 index) s = .next (s.answered .range .empty)) ∧
  (∀ (s : State) (sec index : Byte), PortFree s → 10 < sec.toNat →
    exec (.readStatus sec index) s = .next (s.answered .range .empty)) ∧
  (∀ s : State, plainSection 1 s = some (.reference s.ref.lock s.ref.lockCount s.ref.heldPeriod) ∧
    plainSection 2 s = some (.plan s.plan.steps.length s.plan.cursor s.plan.passesRemaining s.plan.stack.reverse)) ∧
  (∀ s : State, plainSection 0 s = some (.port s.port.part s.conf.held s.port.notices.length s.port.overflow
      s.bus.testResult s.bus.link s.bus.listeningCount s.bus.queue.length) ∧
    plainSection 3 s = some (.pass s.pass.state s.pass.outcome s.pass.closureCount s.pass.windows.length s.pass.own) ∧
    (s.pass.own = none → plainSection 4 s = some (.ownSet [])) ∧
    (∀ w : OwnWindow, s.pass.own = some w → plainSection 4 s = some (.ownSet w.set)) ∧
    plainSection 8 s = some (.lastWord s.out.lastWord)) ∧
  (∀ s : State, ∃ b : Bool, plainSection 6 s = some (.scheduler s.sched.events.length s.sched.events.head?
      s.sched.held.isSome b s.sched.advOverlay s.sched.advPip s.sched.advPunchIn s.sched.advPunchOut) ∧
    (b = true ↔ s.sched.held.isSome = true ∧ (s.pass.state = .inPass ∨ (s.pass.state = .standby ∧
      (∃ w : OwnWindow, s.pass.own = some w ∧ w.label = s.agr.passNumber) ∧ s.agr.transport ≠ .rolling)))) ∧
  (∀ (s : State) (a b : Nat),
    ((∃ w : OverlayWord, s.out.lastWord = some w ∧ a = w.laneA ∧ b = w.laneB) ∨
      (s.out.lastWord = none ∧ a = 4095 ∧ b = 4095)) →
    plainSection 7 s = some (.outputs (s.out.laneA.map fun l => (l.cue, a)) (s.out.laneB.map fun l => (l.cue, b))
      s.out.flashCount s.out.pipCount s.out.punchCount s.out.pitch s.out.pipg s.out.pipp s.out.punch
      s.out.buffer.isSome (decide (s.out.shifter ≠ .idle)))) ∧
  (∀ s : State, plainSection 9 s = some (.takes s.log.records.length
    ((s.log.records.find? fun r => decide (r.outcome = .inProgress)).map TakeRec.number) s.log.counter
    s.agr.reasons.logFull s.onset.detector s.onset.openWindows)) ∧
  (∀ (part : PartState) (held notices listening queue : Nat) (overflow : Bool) (test : TestResult) (link : LinkState),
    (Reply.port part held notices overflow test link listening queue).bytes = numBytes 1 part.code ++ numBytes 1 held ++
      numBytes 1 notices ++ numBytes 1 overflow.toNat ++ numBytes 1 test.code ++
      numBytes 1 (match test with | .fail bad => bad | .none | .running | .pass | .lineBusy => 0) ++
      numBytes 1 link.code ++ numBytes 1 listening ++ numBytes 1 queue) ∧
  (∀ (lock : LockState) (n : Nat) (period : Option Nat), (Reply.reference lock n period).bytes =
    numBytes 1 lock.code ++ numBytes 1 n ++ numBytes 1 period.isSome.toNat ++ numBytes 3 (period.getD 0)) ∧
  (∀ (steps remaining : Nat) (cursor : Option Nat) (stack : List StackEntry),
    (Reply.plan steps cursor remaining stack).bytes = numBytes 1 steps ++ numBytes 1 cursor.isSome.toNat ++
      numBytes 1 (cursor.getD 0) ++ numBytes 1 remaining ++
      stack.flatMap fun e => numBytes 1 e.first ++ numBytes 1 e.last ++ numBytes 1 e.remaining) ∧
  (∀ (st : PassState) (outcome : Option PlanOutcome) (closure : Option Nat) (windows : Nat) (own : Option OwnWindow),
    (Reply.pass st outcome closure windows own).bytes = numBytes 1 st.code ++
      numBytes 1 (4 * outcome.isSome.toNat + 2 * closure.isSome.toNat + own.isSome.toNat) ++
      numBytes 1 ((outcome.map PlanOutcome.code).getD 0) ++ numBytes 2 (closure.getD 0) ++ numBytes 1 windows ++
      match own with
      | none => List.replicate 14 0
      | some w => numBytes 2 w.label ++ numBytes 1 w.stepIndex ++ numBytes 1 w.mode.code ++ numBytes 2 w.firstCue ++
        numBytes 4 w.pIn ++ numBytes 4 w.pOut) ∧
  (∀ (cues : List Nat) (w : WindowEntry), (Reply.ownSet cues).bytes = cues.flatMap (numBytes 2) ∧
    (Reply.windowEntry w).bytes = numBytes 1 w.address ++ numBytes 2 w.passNumber ++ numBytes 2 w.firstCue ++
      numBytes 4 w.pIn ++ numBytes 4 w.pOut ++ numBytes 1 w.status.code ++ numBytes 1 w.more.isSome.toNat ++
      numBytes 1 (w.more.getD false).toNat) ∧
  (∀ (n o p i q : Nat) (head : Option Event) (held arm : Bool), (Reply.scheduler n head held arm o p i q).bytes =
    numBytes 1 n ++ numBytes 1 (2 * head.isSome.toNat + (head.bind Event.pip).isSome.toNat) ++
      (match head with
      | none => List.replicate 12 0
      | some e => numBytes 2 e.cue ++ numBytes 1 e.kind.code ++ numBytes 1 (e.pip.getD 0) ++ numBytes 4 e.pos ++
        numBytes 4 e.fire) ++
      numBytes 1 held.toNat ++ numBytes 1 arm.toNat ++ numBytes 2 o ++ numBytes 2 p ++ numBytes 2 i ++ numBytes 2 q) ∧
  (∀ (a b : Option (Nat × Nat)) (flash pip punchCount : Nat) (pitch : Pitch) (pipg pipp punch buffered shifting : Bool),
    (Reply.outputs a b flash pip punchCount pitch pipg pipp punch buffered shifting).bytes =
    numBytes 1 (2 * a.isSome.toNat + b.isSome.toNat) ++ numBytes 2 ((a.map Prod.fst).getD 0) ++
      numBytes 2 ((a.map Prod.snd).getD 0) ++ numBytes 2 ((b.map Prod.fst).getD 0) ++
      numBytes 2 ((b.map Prod.snd).getD 0) ++ numBytes 1 flash ++ numBytes 1 pip ++ numBytes 1 punchCount ++
      numBytes 1 pitch.code ++ numBytes 1 pipg.toNat ++ numBytes 1 pipp.toNat ++ numBytes 1 punch.toNat ++
      numBytes 1 buffered.toNat ++ numBytes 1 shifting.toNat) ∧
  (∀ w : OverlayWord, (Reply.lastWord none).bytes = List.replicate 14 0 ∧ (Reply.lastWord (some w)).bytes =
    numBytes 1 1 ++ numBytes 2 w.laneA ++ numBytes 2 w.laneB ++ numBytes 1 w.flash.toNat ++
      numBytes 1 w.punchTally.toNat ++ numBytes 1 w.pipGate.toNat ++ numBytes 1 w.countdown ++ numBytes 2 w.label ++
      numBytes 1 w.tag ++ numBytes 1 w.transport.code ++ numBytes 1 w.take) ∧
  (∀ (n counter : Nat) (take : Option Nat) (logFull : Bool) (detector : DetectorState) (windows : List Nat),
    (Reply.takes n take counter logFull detector windows).bytes = numBytes 1 n ++ numBytes 1 take.isSome.toNat ++
      numBytes 2 (take.getD 0) ++ numBytes 2 counter ++ numBytes 1 logFull.toNat ++ numBytes 1 detector.code ++
      windows.flatMap (numBytes 2)) ∧
  (∀ (m : Mark) (stop : Bool), (Reply.mark m stop).bytes = numBytes 4 m.low ++ numBytes 4 m.high ++
    numBytes 1 m.condition.code ++ numBytes 1 m.count ++ numBytes 1 m.reload ++ numBytes 1 m.action.code ++
    numBytes 1 m.rearm.code ++ numBytes 1 m.armed.toNat ++ numBytes 1 stop.toNat) ∧
  ([PartState.config, .running].map PartState.code = [0, 1] ∧
    [LockState.noRef, .acquiring, .locked, .holdover].map LockState.code = [0, 1, 2, 3] ∧
    [TestResult.none, .running, .pass, .fail 1, .lineBusy].map TestResult.code = [0, 1, 2, 3, 4] ∧
    [LinkState.off, .listening, .active, .listenOnly, .lineTest].map LinkState.code = [0, 1, 2, 3, 4] ∧
    [PassState.idle, .standby, .inPass, .cleared].map PassState.code = [0, 1, 2, 3] ∧
    [PlanOutcome.more, .none].map PlanOutcome.code = [0, 1] ∧ [PassMode.rehearse, .record].map PassMode.code = [0, 1] ∧
    [WindowStatus.announced, .cleared, .skipped].map WindowStatus.code = [0, 1, 2] ∧
    [EventKind.streamerBegin, .pipOn, .pipOff, .flashOn, .flashOff, .punchIn, .punchOut, .lineEnd].map EventKind.code =
      [0, 1, 2, 3, 4, 5, 6, 7] ∧
    [Pitch.normal, .accent].map Pitch.code = [0, 1] ∧
    [Transport.stopped, .cueing, .rolling].map Transport.code = [0, 1, 2] ∧
    [DetectorState.idle, .waitingQuiet, .armed].map DetectorState.code = [0, 1, 2] ∧
    [MarkCondition.enter, .leave].map MarkCondition.code = [0, 1] ∧
    [MarkAction.notice, .hold, .stop].map MarkAction.code = [0, 1, 2] ∧
    [MarkRearm.once, .repeating].map MarkRearm.code = [0, 1])

/-- READ NOTICE (R192), in CONFIG, in RUNNING and during a line test: NONE on an empty queue; else the oldest notice goes, the answer carries it with the number left and the flag as it stood, and the last removal brings ATTN low and clears the flag. -/
def Obligations.ReadNoticeTakesOldest : Prop :=
  (∀ s : State, PortFree s → s.port.notices = [] → exec .readNotice s = .next (s.answered .none .empty)) ∧
  (∀ (s : State) (n : Notice) (m : Notice) (rest : List Notice), PortFree s → s.port.notices = n :: m :: rest →
    exec .readNotice s = .next ((s.setPort { s.port with notices := m :: rest }).answered .ok
      (.notice n (rest.length + 1) s.port.overflow))) ∧
  ∀ (s : State) (n : Notice), PortFree s → s.port.notices = [n] →
    ∃ t : State, exec .readNotice s = .next t ∧ t.attn = false ∧
      t = (s.setPort { s.port with notices := [], overflow := false }).answered .ok (.notice n 0 s.port.overflow)

/-- Posting (R191): appended below 16 notices, dropped with the overflow flag at 16; ATTN is high exactly while a notice waits. The kind codes are those of R190; the bytes of READ NOTICE's answer are the model's choice, log 13. -/
def Obligations.NoticePosting : Prop :=
  (∀ (k : NoticeKind) (d : Nat) (s : State), s.port.notices.length < 16 →
    post k d s = s.setPort { s.port with notices := s.port.notices ++ [⟨k, d⟩] }) ∧
  (∀ (k : NoticeKind) (d : Nat) (s : State), 16 ≤ s.port.notices.length →
    post k d s = s.setPort { s.port with overflow := true }) ∧
  (∀ s : State, s.attn = true ↔ s.port.notices ≠ []) ∧
  (∀ (n : Notice) (left : Nat) (overflow : Bool), (Reply.notice n left overflow).bytes =
    numBytes 1 n.kind.code ++ numBytes 2 n.detail ++ numBytes 1 left ++ numBytes 1 overflow.toNat) ∧
  [NoticeKind.passBegun, .passCleared, .passAbandoned, .takeReady, .takeSkipped, .peerJoined, .peerLost, .peerMismatch,
    .slip, .refLocked, .refLost, .holdExpired, .markFired, .planSkip, .planEnd, .addressClash, .txOverflow, .rxOverrun,
    .linkFault].map NoticeKind.code = (List.range 19).map (· + 1)

/-! ## The stores and the stage commands -/

/-- LOAD CUE judged in the order of R77; a refused command leaves the table as it was; an accepted one inserts the record of R72 and R74 at the place of R76, in place of the record of its id where it replaces one. The ranges of R73, the reduction of R74 and the fields of R72 and R204 are spelled out. -/
def Obligations.LoadCueJudged : Prop :=
  (∀ (s : State) (a : CueArgs), Configurable s → exec (.loadCue a) s = .next (s.answered .state .empty)) ∧
  (∀ (s : State) (a : CueArgs), OnStage s → cueFits s.timing.frameRate (rawCue a) = false →
    exec (.loadCue a) s = .next (s.answered .range .empty)) ∧
  (∀ (s : State) (a : CueArgs) (old : CueRec), OnStage s → cueFits s.timing.frameRate (rawCue a) = true →
    findCue s.cues a.id.toNat = some old → replaceFlag a = false →
    exec (.loadCue a) s = .next (s.answered .exists_ .empty)) ∧
  (∀ (s : State) (a : CueArgs) (old : CueRec), OnStage s → cueFits s.timing.frameRate (rawCue a) = true →
    findCue s.cues a.id.toNat = some old → replaceFlag a = true → old.pinned = true →
    exec (.loadCue a) s = .next (s.answered .busy .empty)) ∧
  (∀ (s : State) (a : CueArgs), OnStage s → cueFits s.timing.frameRate (rawCue a) = true →
    findCue s.cues a.id.toNat = none → 256 ≤ s.cues.length →
    exec (.loadCue a) s = .next (s.answered .full .empty)) ∧
  (∀ (s : State) (a : CueArgs), OnStage s → cueFits s.timing.frameRate (rawCue a) = true →
    findCue s.cues a.id.toNat = none → s.cues.length < 256 → ∃ cues : List CueRec,
    exec (.loadCue a) s =
      .next ((s.setCues cues).answered (if beepsReduced (rawCue a) then .okClamped else .ok) .empty) ∧
    cues.length = s.cues.length + 1 ∧ (∀ c : CueRec, c ∈ cues ↔ c = storedCue (rawCue a) ∨ c ∈ s.cues) ∧
    (CuesOrdered s.cues → CuesOrdered cues)) ∧
  (∀ (s : State) (a : CueArgs) (old : CueRec), OnStage s → cueFits s.timing.frameRate (rawCue a) = true →
    findCue s.cues a.id.toNat = some old → replaceFlag a = true → old.pinned = false → ∃ cues : List CueRec,
    exec (.loadCue a) s =
      .next ((s.setCues cues).answered (if beepsReduced (rawCue a) then .okClamped else .ok) .empty) ∧
    (∀ c : CueRec, c ∈ cues ↔ c = storedCue (rawCue a) ∨ (c ∈ s.cues ∧ c.id ≠ a.id.toNat)) ∧
    (CuesOrdered s.cues → CuesOrdered cues ∧ cues.length = s.cues.length)) ∧
  (∀ (s : State) (a : CueArgs), PortFree s → s.bus.lineTest.isSome = true →
    exec (.loadCue a) s = .next (s.answered .busy .empty)) ∧
  (∀ (f : FrameRate) (c : CueRec), cueFits f c = true ↔
    c.id ≠ 0 ∧ c.s + 1 ≤ f.fps * 86400 * 120 - 1 ∧ c.s < c.e ∧ c.e ≤ f.fps * 86400 * 120 - 1 ∧
    c.e - c.s ≤ f.fps * 7200 ∧ (∀ v : Nat, c.lead = some v → 6 ≤ v ∧ v ≤ 240) ∧
    (∀ v : Nat, c.beeps = some v → v ≤ 4) ∧ (∀ v : Nat, c.spacing = some v → 6 ≤ v ∧ v ≤ 120) ∧
    (∀ v : Nat, c.preroll = some v → v ≤ 1200) ∧ (∀ v : Nat, c.postroll = some v → v ≤ 1200) ∧
    (∀ v : Nat, c.handleIn = some v → v ≤ 240) ∧ (∀ v : Nat, c.handleOut = some v → v ≤ 240) ∧ c.tag ≤ 15) ∧
  (∀ a : CueArgs, replaceFlag a = a.options.getLsbD 3 ∧ rawCue a = ⟨a.id.toNat, a.s.toNat, a.e.toNat,
    if a.presence.getLsbD 6 then some a.lead.toNat else none,
    if a.presence.getLsbD 5 then some a.beeps.toNat else none,
    if a.presence.getLsbD 4 then some a.spacing.toNat else none,
    if a.presence.getLsbD 3 then some a.preroll.toNat else none,
    if a.presence.getLsbD 2 then some a.postroll.toNat else none,
    if a.presence.getLsbD 1 then some a.handleIn.toNat else none,
    if a.presence.getLsbD 0 then some a.handleOut.toNat else none,
    a.tag.toNat, a.options.getLsbD 0, a.options.getLsbD 1, !a.options.getLsbD 2, false⟩) ∧
  ∀ c : CueRec, (beepsReduced c = true ↔ c.beeps = some 4 ∧ c.silentLast = false) ∧
    (beepsReduced c = true → storedCue c = { c with beeps := some 3 }) ∧ (beepsReduced c = false → storedCue c = c)

/-- CLEAR CUES (R80): STATE in CONFIG; BUSY with the table whole while any record is pinned; else an empty table and OK, the plan unchanged, and every search then finds no step. -/
def Obligations.ClearCuesJudged : Prop :=
  (∀ s : State, Configurable s → exec .clearCues s = .next (s.answered .state .empty)) ∧
  (∀ s : State, OnStage s → (∃ c ∈ s.cues, c.pinned = true) → exec .clearCues s = .next (s.answered .busy .empty)) ∧
  (∀ s : State, OnStage s → (∀ c ∈ s.cues, c.pinned = false) →
    exec .clearCues s = .next ((s.setCues []).answered .ok .empty)) ∧
  ∀ (s : State) (pos : SearchPos), s.cues = [] → (s.search pos).found = none

/-- DELETE CUE judged in the order of R79; on OK the record goes and every other record stays in its order. -/
def Obligations.DeleteCueJudged : Prop :=
  (∀ (s : State) (id : Half), Configurable s → exec (.deleteCue id) s = .next (s.answered .state .empty)) ∧
  (∀ s : State, OnStage s → exec (.deleteCue 0) s = .next (s.answered .range .empty)) ∧
  (∀ (s : State) (id : Half), OnStage s → id ≠ 0 → (∀ c ∈ s.cues, c.id ≠ id.toNat) →
    exec (.deleteCue id) s = .next (s.answered .absent .empty)) ∧
  (∀ (s : State) (id : Half) (c : CueRec), OnStage s → id ≠ 0 → findCue s.cues id.toNat = some c → c.pinned = true →
    exec (.deleteCue id) s = .next (s.answered .busy .empty)) ∧
  ∀ (s : State) (id : Half) (c : CueRec), OnStage s → id ≠ 0 → findCue s.cues id.toNat = some c → c.pinned = false →
    CuesOrdered s.cues → ∃ before after : List CueRec, s.cues = before ++ c :: after ∧
      exec (.deleteCue id) s = .next ((s.setCues (before ++ after)).answered .ok .empty)

/-- READ CUE (R81): it changes nothing and gives the record by id or by index, or ABSENT with the number of records. A selector outside its table answers RANGE (R200), after STATE by the model's choice, log 15. The bytes of the record's answer are the model's choice, log 13. -/
def Obligations.ReadCueReports : Prop :=
  (∀ s : State, OnStage s → exec (.readCue (.byId 0)) s = .next (s.answered .range .empty)) ∧
  (∀ (s : State) (index : Byte) (c : CueRec), OnStage s → s.cues[index.toNat]? = some c →
    exec (.readCue (.byIndex index)) s = .next (s.answered .ok (.cue s.cues.length index.toNat c))) ∧
  (∀ (s : State) (index : Byte), OnStage s → s.cues.length ≤ index.toNat →
    exec (.readCue (.byIndex index)) s = .next (s.answered .absent (.cueCount s.cues.length))) ∧
  (∀ (s : State) (id : Half), OnStage s → id ≠ 0 → (∀ c ∈ s.cues, c.id ≠ id.toNat) →
    exec (.readCue (.byId id)) s = .next (s.answered .absent (.cueCount s.cues.length))) ∧
  (∀ (s : State) (id : Half) (k : Nat) (c : CueRec), OnStage s → id ≠ 0 → CuesOrdered s.cues → s.cues[k]? = some c →
    c.id = id.toNat → exec (.readCue (.byId id)) s = .next (s.answered .ok (.cue s.cues.length k c))) ∧
  (∀ (s : State) (selector : Byte), OnStage s → exec (.readCue (.other selector)) s = .next (s.answered .range .empty)) ∧
  ∀ (n index : Nat) (c : CueRec), (Reply.cue n index c).bytes = numBytes 2 n ++ numBytes 1 index ++ numBytes 2 c.id ++
    numBytes 4 c.s ++ numBytes 4 c.e ++ numBytes 1 (c.lead.getD 0) ++ numBytes 1 (c.beeps.getD 0) ++
    numBytes 1 (c.spacing.getD 0) ++ numBytes 2 (c.preroll.getD 0) ++ numBytes 2 (c.postroll.getD 0) ++
    numBytes 1 (c.handleIn.getD 0) ++ numBytes 1 (c.handleOut.getD 0) ++ numBytes 1 c.tag ++
    numBytes 1 (64 * c.lead.isSome.toNat + 32 * c.beeps.isSome.toNat + 16 * c.spacing.isSome.toNat +
      8 * c.preroll.isSome.toNat + 4 * c.postroll.isSome.toNat + 2 * c.handleIn.isSome.toNat +
      c.handleOut.isSome.toNat) ++
    numBytes 1 (8 * c.pinned.toNat + 4 * c.silentLast.toNat + 2 * c.noFlash.toNat + c.noStreamer.toNat)

/-- PLAN STEP judged in the order of R88 with the ranges of 5.1, and PLAN CLEAR (R89): a refused command leaves the plan as it was; no pass is prepared by either. The mode codes are spelled out (R204). -/
def Obligations.PlanEdited : Prop :=
  (∀ (s : State) (st : StepArgs), PortFree s → s.bus.lineTest.isSome = true →
    exec (.planStep st) s = .next (s.answered .busy .empty)) ∧
  (∀ (s : State) (st : StepArgs), Configurable s → exec (.planStep st) s = .next (s.answered .state .empty)) ∧
  (∀ (s : State) (st : StepArgs), OnStage s → s.pass.state ≠ .idle →
    exec (.planStep st) s = .next (s.answered .state .empty)) ∧
  (∀ (s : State) (first : Half) (run passes mode : Byte), OnStage s → s.pass.state = .idle →
    (first = 0 ∨ run = 0 ∨ 8 < run.toNat ∨ passes = 0 ∨ 99 < passes.toNat ∨ 2 < mode.toNat) →
    exec (.planStep (.cue first run passes mode)) s = .next (s.answered .range .empty)) ∧
  (∀ (s : State) (span repeats : Byte), OnStage s → s.pass.state = .idle →
    (span = 0 ∨ 63 < span.toNat ∨ repeats = 0 ∨ 99 < repeats.toNat) →
    exec (.planStep (.block span repeats)) s = .next (s.answered .range .empty)) ∧
  (∀ (s : State) (kind : Byte), OnStage s → s.pass.state = .idle →
    exec (.planStep (.other kind)) s = .next (s.answered .range .empty)) ∧
  (∀ (s : State) (st : StepArgs) (x : PlanStep), OnStage s → s.pass.state = .idle → planStepOf st = some x →
    64 ≤ s.plan.steps.length → exec (.planStep st) s = .next (s.answered .full .empty)) ∧
  (∀ (s : State) (first : Half) (run passes mode : Byte) (m : StepMode), OnStage s → s.pass.state = .idle →
    first ≠ 0 → run ≠ 0 → run.toNat ≤ 8 → passes ≠ 0 → passes.toNat ≤ 99 → stepModeOfCode mode.toNat = some m →
    s.plan.steps.length < 64 →
    exec (.planStep (.cue first run passes mode)) s = .next ((s.setPlan { s.plan with
      steps := s.plan.steps ++ [.cue first.toNat run.toNat passes.toNat m] }).answered .ok (.stepIndex s.plan.steps.length))) ∧
  (∀ (s : State) (span repeats : Byte), OnStage s → s.pass.state = .idle →
    span ≠ 0 → span.toNat ≤ 63 → repeats ≠ 0 → repeats.toNat ≤ 99 → s.plan.steps.length < 64 →
    exec (.planStep (.block span repeats)) s = .next ((s.setPlan { s.plan with
      steps := s.plan.steps ++ [.block span.toNat repeats.toNat] }).answered .ok (.stepIndex s.plan.steps.length))) ∧
  (∀ s : State, Configurable s → exec .planClear s = .next (s.answered .state .empty)) ∧
  (∀ s : State, OnStage s → s.pass.state ≠ .idle → exec .planClear s = .next (s.answered .state .empty)) ∧
  (∀ s : State, OnStage s → s.pass.state = .idle →
    exec .planClear s = .next ((s.setPlan { s.plan with steps := [] }).answered .ok .empty)) ∧
  ∀ code : Nat, stepModeOfCode code = if code = 0 then some .rehearse else if code = 1 then some .record
    else if code = 2 then some .firstRehearse else none

/-- PLAN RUN (R91) with its preparation (R104): refused in CONFIG, outside IDLE and for a plan that R90 does not call valid; NONE where the search finds no set; else the set is pinned, the window computed and announced, and the pass STANDBY. The checks of R90, the start of a search at step 0 with an empty stack (R91), the answer it brings (R93 to R95) and the label and window of R104 are spelled out; the walk itself is spelled out in SearchFindsActiveSet. That a PLAN RUN without a set posts no PLAN_END is the model's choice, log 34. The notices are those of the search, with the TX_OVERFLOW of a refused WINDOW after them (log 42). The bytes of the answer are the model's choice, log 13. The preparation is a request to the scheduler (R104 step 5, R134, R137): while the transport is STOPPED or CUEING the list is built against the present position with an empty fired record, and while it is ROLLING the list is left empty; the build itself is spelled out in EventListBuilt. -/
def Obligations.PlanRunPrepares : Prop :=
  (∀ s : State, OnStage s → s.pass.state ≠ .idle → exec .planRun s = .next (s.answered .state .empty)) ∧
  (∀ s : State, OnStage s → s.pass.state = .idle → planValid s.plan.steps = false →
    exec .planRun s = .next (s.answered .range .empty)) ∧
  (∀ s s1 : State, OnStage s → s.pass.state = .idle → planValid s.plan.steps = true →
    planStart (s.setResponse none) = (s1, none) →
    exec .planRun s = .next (s1.answered .none .empty) ∧ s1.pass = s.pass ∧ s1.plan = ⟨s.plan.steps, none, 0, []⟩) ∧
  (∀ (s s1 : State) (a : PlanAnswer), OnStage s → s.pass.state = .idle → planValid s.plan.steps = true →
    planStart (s.setResponse none) = (s1, some a) → ∃ t : State, exec .planRun s = .next t ∧
      t.pass = { s.pass with state := .standby, own := some ⟨labelNow s, a.stepIndex, a.mode, a.set, a.set.headD 0,
        windowIn s a.set, windowOut s a.set⟩ } ∧
      t.cues = s.cues.map (fun c => { c with pinned := a.set.contains c.id }) ∧
      t.sched = { s.sched with held := some ⟨a.set, a.mode⟩, fired := [], events :=
        if s.agr.transport = .rolling then [] else keptEvents (heldEvents s ⟨a.set, a.mode⟩) [] s.posn.p } ∧ t.plan = s1.plan ∧
      t.port = { (offerInternal (.window (labelNow s) (a.set.headD 0) (windowIn s a.set) (windowOut s a.set)) s1).port with
        response := some ⟨.ok, .planSet a.stepIndex a.mode a.set⟩ } ∧
      t.bus = (offer (.window (labelNow s) (a.set.headD 0) (windowIn s a.set) (windowOut s a.set)) false s).2.bus ∧
      t.posn = s.posn ∧ t.ref = s.ref ∧ t.agr = s.agr ∧ t.out = s.out ∧ t.onset = s.onset ∧ t.marks = s.marks ∧
      t.conf = s.conf ∧ t.pending = s.pending ∧ t.resetnLow = s.resetnLow ∧ (s.log.openCount = 0 → t.log = s.log) ∧
      ((s.agr.transport = .rolling ∨ ∀ e ∈ keptEvents (heldEvents s ⟨a.set, a.mode⟩) [] s.posn.p, s.posn.p ≤ e.fire) →
        t.log = s.log) ∧
      (s.agr.transport ≠ .rolling → (∃ e ∈ keptEvents (heldEvents s ⟨a.set, a.mode⟩) [] s.posn.p, e.fire < s.posn.p) →
        t.log = (flagLateEvents s).log)) ∧
  (∀ steps : List PlanStep, planValid steps = true ↔ steps ≠ [] ∧
    ∀ b span repeats : Nat, steps[b]? = some (.block span repeats) → b + span < steps.length ∧
      (∀ o outer n : Nat, steps[o]? = some (.block outer n) → o < b → b ≤ o + outer → b + span ≤ o + outer) ∧
      ((List.range b).filter fun o : Nat =>
        match steps[o]? with
        | some (PlanStep.block outer _) => decide (b ≤ o + outer)
        | _ => false).length ≤ 3) ∧
  (∀ (s : State) (r : SearchResult), search s.plan.steps s.cues 4096 [] (.enter 0) = r →
    (r.found = none → planStart s = ((r.skipped.foldl (fun u id => post .planSkip id u) s).setPlan
      ⟨s.plan.steps, none, 0, []⟩, none)) ∧
    ∀ (i first run passes : Nat) (mode : StepMode), r.found = some i → s.plan.steps[i]? = some (.cue first run passes mode) →
      planStart s = ((r.skipped.foldl (fun u id => post .planSkip id u) s).setPlan
        ⟨s.plan.steps, some i, passes, r.stack⟩, some ⟨activeSet s.cues first run, passMode mode passes passes, i⟩)) ∧
  (∀ (passes remaining : Nat), passMode .rehearse passes remaining = .rehearse ∧
    passMode .record passes remaining = .record ∧
    passMode .firstRehearse passes remaining = if remaining = passes then .rehearse else .record) ∧
  (∀ s : State, labelNow s = if s.agr.transport = .rolling then (s.agr.passNumber + 1) % 65536 else s.agr.passNumber) ∧
  (∀ (s : State) (set : List Nat),
    (∀ id ∈ set, ∀ c : CueRec, findCue s.cues id = some c →
      windowIn s set ≤ c.s - c.preroll.getD s.defaults.preroll * 120 ∧
      min s.pMax (c.e + c.postroll.getD s.defaults.postroll * 120) ≤ windowOut s set) ∧
    ((∃ id ∈ set, (findCue s.cues id).isSome = true) →
      (∃ id ∈ set, ∃ c : CueRec, findCue s.cues id = some c ∧
        windowIn s set = c.s - c.preroll.getD s.defaults.preroll * 120) ∧
      ∃ id ∈ set, ∃ c : CueRec, findCue s.cues id = some c ∧
        windowOut s set = min s.pMax (c.e + c.postroll.getD s.defaults.postroll * 120))) ∧
  ∀ (i : Nat) (m : PassMode) (set : List Nat), (Reply.planSet i m set).bytes =
    numBytes 1 i ++ numBytes 1 (match m with | .rehearse => 0 | .record => 1) ++ set.flatMap (numBytes 2)

/-- PLAN SKIP (R100, R118): accepted in STANDBY alone; a DONE ABANDONED with the old label goes first, then the pass of the step found is prepared and announced, or the run ends. That the search leaves the present step with no passes remaining (R96, R97, R100), and the answer it brings, are spelled out; label and window are those that PlanRunPrepares spells out, and the walk that of SearchFindsActiveSet. PLAN_END is posted where the plan unit answers none (R118), after the TX_OVERFLOW of a refused DONE by the model's choice, log 33; the PLAN_SKIP notices of the search stand before both, log 42. The emptying comes first (R140), then the request of the preparation, as PlanRunPrepares says of it (R104, R134, R137). -/
def Obligations.PlanSkipPrepares : Prop :=
  (∀ s : State, OnStage s → s.pass.state ≠ .standby → exec .planSkip s = .next (s.answered .state .empty)) ∧
  (∀ (s s1 : State) (w : OwnWindow), OnStage s → s.pass.state = .standby → s.pass.own = some w →
    planGiveUp (s.setResponse none) = (s1, none) → ∃ t : State, exec .planSkip s = .next t ∧
      t.pass = { s.pass with state := .idle, outcome := none, own := none } ∧ t.plan = s1.plan ∧
      t.cues = s.cues.map (fun c => { c with pinned := false }) ∧
      t.sched = { s.sched with held := none, events := [], fired := [] } ∧
      t.port = { (post .planEnd 0 (offerInternal (.done w.label .abandoned false) s1)).port with
        response := some ⟨.none, .empty⟩ } ∧ t.bus = (offer (.done w.label .abandoned false) false s).2.bus ∧
      t.posn = s.posn ∧ t.agr = s.agr ∧ t.out = s.out ∧ t.log = s.log ∧ t.ref = s.ref ∧ t.conf = s.conf ∧
      t.marks = s.marks ∧ t.onset = s.onset ∧ t.pending = s.pending ∧ t.resetnLow = s.resetnLow) ∧
  (∀ (s s1 : State) (w : OwnWindow) (a : PlanAnswer), OnStage s → s.pass.state = .standby → s.pass.own = some w →
    planGiveUp (s.setResponse none) = (s1, some a) → ∃ t : State, exec .planSkip s = .next t ∧
      t.pass = { s.pass with state := .standby, own := some ⟨labelNow s, a.stepIndex, a.mode, a.set, a.set.headD 0,
        windowIn s a.set, windowOut s a.set⟩ } ∧
      t.cues = s.cues.map (fun c => { c with pinned := a.set.contains c.id }) ∧
      t.sched = { s.sched with held := some ⟨a.set, a.mode⟩, fired := [], events :=
        if s.agr.transport = .rolling then [] else keptEvents (heldEvents s ⟨a.set, a.mode⟩) [] s.posn.p } ∧
      t.plan = s1.plan ∧ t.port = { (offerInternal (.window (labelNow s) (a.set.headD 0) (windowIn s a.set)
        (windowOut s a.set)) (offerInternal (.done w.label .abandoned true) s1)).port with
        response := some ⟨.ok, .planSet a.stepIndex a.mode a.set⟩ } ∧
      t.bus = (offer (.window (labelNow s) (a.set.headD 0) (windowIn s a.set) (windowOut s a.set)) false
        (offer (.done w.label .abandoned true) false s).2).2.bus ∧
      t.posn = s.posn ∧ t.agr = s.agr ∧ t.out = s.out ∧ t.ref = s.ref ∧ t.conf = s.conf ∧ t.marks = s.marks ∧
      t.onset = s.onset ∧ t.pending = s.pending ∧ t.resetnLow = s.resetnLow ∧ (s.log.openCount = 0 → t.log = s.log) ∧
      ((s.agr.transport = .rolling ∨ ∀ e ∈ keptEvents (heldEvents s ⟨a.set, a.mode⟩) [] s.posn.p, s.posn.p ≤ e.fire) →
        t.log = s.log) ∧
      (s.agr.transport ≠ .rolling → (∃ e ∈ keptEvents (heldEvents s ⟨a.set, a.mode⟩) [] s.posn.p, e.fire < s.posn.p) →
        t.log = (flagLateEvents s).log)) ∧
  (∀ s : State, s.plan.cursor = none → planGiveUp s = (s, none)) ∧
  ∀ (s : State) (x : Nat) (r : SearchResult), s.plan.cursor = some x → s.search (.leave x) = r →
    (r.found = none → planGiveUp s = ((r.skipped.foldl (fun u id => post .planSkip id u) s).setPlan
      ⟨s.plan.steps, none, 0, []⟩, none)) ∧
    ∀ (i first run passes : Nat) (mode : StepMode), r.found = some i → s.plan.steps[i]? = some (.cue first run passes mode) →
      planGiveUp s = ((r.skipped.foldl (fun u id => post .planSkip id u) s).setPlan
        ⟨s.plan.steps, some i, passes, r.stack⟩, some ⟨activeSet s.cues first run, passMode mode passes passes, i⟩)

/-- PLAN ABORT (R101, R117): refused in IDLE; else the run ends, the steps stay, the pass controller is IDLE with no record, the transport is untouched, and a DONE ABANDONED goes out except from CLEARED with outcome NONE; out of IN_PASS the take is closed ABANDONED with PASS_ABANDONED, NO_ONSET on the entries of the windows that were open without an onset (R165), and the outputs rest. That PASS_ABANDONED stands before what a refused DONE posts is the model's choice, log 42. The fields of outputs at rest are spelled out in TransportFramesApplied. -/
def Obligations.PlanAbortEndsRun : Prop :=
  (∀ s : State, OnStage s → s.pass.state = .idle → exec .planAbort s = .next (s.answered .state .empty)) ∧
  (∀ s : State, OnStage s → s.pass.state ≠ .idle → ∃ t : State, exec .planAbort s = .next t ∧
    t.plan = ⟨s.plan.steps, none, 0, []⟩ ∧ t.pass = { s.pass with state := .idle, outcome := none, own := none } ∧
    t.port.response = some ⟨.ok, .empty⟩ ∧ t.agr = s.agr ∧ t.posn = s.posn ∧ t.ref = s.ref ∧ t.conf = s.conf ∧
    t.marks = s.marks) ∧
  (∀ (s : State) (w : OwnWindow), OnStage s → s.pass.own = some w →
    (s.pass.state = .standby ∨ (s.pass.state = .cleared ∧ s.pass.outcome = some .more)) →
    ∃ t : State, exec .planAbort s = .next t ∧ t.bus = (offer (.done w.label .abandoned false) false s).2.bus ∧
      t.cues = s.cues.map (fun c => { c with pinned := false }) ∧ t.sched.held = none ∧ t.sched.events = [] ∧
      t.log = s.log ∧ t.out = s.out) ∧
  (∀ s : State, OnStage s → s.pass.state = .inPass → ∃ t : State, exec .planAbort s = .next t ∧
    t.bus = (offer (.done s.agr.passNumber .abandoned false) false s).2.bus ∧
    t.cues = s.cues.map (fun c => { c with pinned := false }) ∧ t.sched.held = none ∧ t.sched.events = [] ∧
    t.log.openCount = 0 ∧ t.out = restOutputs s.out ∧ t.onset.openWindows = [] ∧
    ∀ (before : List TakeRec) (r : TakeRec), s.log.records = before ++ [r] → r.outcome = .inProgress →
      (∀ x ∈ before, x.outcome ≠ .inProgress) →
      t.log = ⟨before ++ [{ r with outcome := .abandoned, cues := r.cues.map fun c =>
        if c.cue ∈ s.onset.openWindows ∧ (∀ x ∈ r.cues, x.cue = c.cue → x.onset = none) then { c with noOnset := true }
        else c }], s.log.counter⟩ ∧
      (s.port.notices.length < 16 → s.port.notices ++ [⟨.passAbandoned, r.number⟩] <+: t.port.notices)) ∧
  ∀ s : State, OnStage s → s.pass.state = .cleared → s.pass.outcome = some .none →
    ∃ t : State, exec .planAbort s = .next t ∧ t.bus = s.bus ∧ t.log = s.log ∧ t.out = s.out

/-- A search ends at a CUE step whose first cue is in the table (R93, R96), with nothing on the repeat stack where it found none (R96); the active set is a run of the table from that cue, shortened at the end of the table alone (R94). The walk is spelled out move by move: a BLOCK step is pushed (R92), a CUE step without its first cue is skipped and left (R93), a step that no block ends at is left for the next one, a block that ends is repeated while repeats remain, and it is removed where they are used up (R96) or where this search has walked its whole run without a set (R97). That the walk carries a bound on its moves is log 23. -/
def Obligations.SearchFindsActiveSet : Prop :=
  (∀ (s : State) (pos : SearchPos) (i : Nat), (s.search pos).found = some i →
    ∃ (first run passes : Nat) (mode : StepMode) (c : CueRec),
      s.plan.steps[i]? = some (.cue first run passes mode) ∧ c ∈ s.cues ∧ c.id = first) ∧
  (∀ (cues : List CueRec) (first run : Nat) (c : CueRec), CuesOrdered cues → c ∈ cues → c.id = first → 1 ≤ run →
    ∃ before after : List Nat, cues.map CueRec.id = before ++ activeSet cues first run ++ after ∧
      (activeSet cues first run).head? = some first ∧ (activeSet cues first run).Nodup ∧
      (activeSet cues first run).length ≤ run ∧ ((activeSet cues first run).length < run → after = [])) ∧
  (∀ (s : State) (pos : SearchPos), s.search pos = search s.plan.steps s.cues 4096 (s.plan.stack.map fun e => (e, false)) pos ∧
    ((s.search pos).found = none → (s.search pos).stack = [])) ∧
  ∀ (steps : List PlanStep) (cues : List CueRec) (moves : Nat) (stack : List (StackEntry × Bool)) (i : Nat),
    (∀ span repeats : Nat, steps[i]? = some (.block span repeats) → search steps cues (moves + 1) stack (.enter i) =
      search steps cues moves ((⟨i + 1, i + span, repeats⟩, true) :: stack) (.enter (i + 1))) ∧
    (∀ (first run passes : Nat) (mode : StepMode), steps[i]? = some (.cue first run passes mode) →
      ((∃ c ∈ cues, c.id = first) → search steps cues (moves + 1) stack (.enter i) = ⟨some i, stack.map Prod.fst, []⟩) ∧
      ((∀ c ∈ cues, c.id ≠ first) → search steps cues (moves + 1) stack (.enter i) =
        (search steps cues moves stack (.leave i)).skip first)) ∧
    (steps.length ≤ i → search steps cues (moves + 1) stack (.enter i) = ⟨none, [], []⟩) ∧
    search steps cues (moves + 1) [] (.leave i) = search steps cues moves [] (.enter (i + 1)) ∧
    ∀ (top : StackEntry) (whole : Bool),
      (i ≠ top.last → search steps cues (moves + 1) ((top, whole) :: stack) (.leave i) =
        search steps cues moves ((top, whole) :: stack) (.enter (i + 1))) ∧
      (i = top.last → whole = false → 1 < top.remaining → search steps cues (moves + 1) ((top, whole) :: stack) (.leave i) =
        search steps cues moves (({ top with remaining := top.remaining - 1 }, true) :: stack) (.enter top.first)) ∧
      (i = top.last → (whole = true ∨ top.remaining ≤ 1) → search steps cues (moves + 1) ((top, whole) :: stack) (.leave i) =
        search steps cues moves stack (.leave i))

/-- GO (R124): STATE while ROLLING or with no ANNOUNCED entry of pass n or n + 1; else the OPERATOR locate of pass n + 1 to the smallest P_in among those entries is offered, and the answer is admission's. That a full queue gives way at the newest of several waiting BEACONs is the model's choice, log 10. -/
def Obligations.GoOffersLocate : Prop :=
  (∀ s : State, OnStage s → s.agr.transport = .rolling → exec .go s = .next (s.answered .state .empty)) ∧
  (∀ s : State, OnStage s → (∀ w ∈ s.pass.windows, w.status = .announced →
      w.passNumber ≠ s.agr.passNumber ∧ w.passNumber ≠ nextPass s.agr.passNumber) →
    exec .go s = .next (s.answered .state .empty)) ∧
  ∀ (s : State) (w : WindowEntry), OnStage s → s.agr.transport ≠ .rolling → w ∈ s.pass.windows →
    w.status = .announced → (w.passNumber = s.agr.passNumber ∨ w.passNumber = nextPass s.agr.passNumber) →
    (∀ x ∈ s.pass.windows, x.status = .announced →
      (x.passNumber = s.agr.passNumber ∨ x.passNumber = nextPass s.agr.passNumber) → w.pIn ≤ x.pIn) →
    (s.bus.link.admits = true → s.bus.queue.length < 8 →
      exec .go s = .next ((s.setBus { s.bus with queue := s.bus.queue ++
        [⟨.locate false true 120 s.station.settle ((s.agr.passNumber + 1) % 65536) w.pIn, 0, false, false⟩] }).answered .ok .empty)) ∧
    (s.bus.link.admits = false → exec .go s = .next (s.answered .state .empty)) ∧
    (s.bus.link.admits = true → 8 ≤ s.bus.queue.length → s.bus.queue.any TxEntry.waitingBeacon = false →
      exec .go s = .next (s.answered .queueFull .empty)) ∧
    ∀ (before after : List TxEntry) (b : TxEntry), s.bus.link.admits = true → 8 ≤ s.bus.queue.length →
      s.bus.queue = before ++ b :: after → b.waitingBeacon = true → after.any TxEntry.waitingBeacon = false →
      exec .go s = .next ((s.setBus { s.bus with queue := before ++ after ++
        [⟨.locate false true 120 s.station.settle ((s.agr.passNumber + 1) % 65536) w.pIn, 0, false, false⟩] }).answered .ok .empty)

/-- TRANSPORT LOCATE, PLAY and STOP (R67, R68) with room in the queue: the frame is appended with its fields, clamped where R15 and R16 say, and the answer tells of a clamp. That a then-play flag above 1 answers RANGE, ahead of admission, is the model's choice, log 15. -/
def Obligations.TransportFramesOffered : Prop :=
  (∀ (s : State) (target : Quad) (rate play : Byte), OnStage s → s.bus.link.admits = true → s.bus.queue.length < 8 →
    play.toNat ≤ 1 →
    exec (.transportLocate target rate play) s = .next ((s.setBus { s.bus with queue := s.bus.queue ++
      [⟨.locate false (decide (play = 1)) (min 240 (max 60 rate.toNat)) s.station.settle ((s.agr.passNumber + 1) % 65536)
        (min target.toNat s.pMax), 0, false, false⟩] }).answered
      (if s.pMax < target.toNat ∨ rate.toNat < 60 ∨ 240 < rate.toNat then .okClamped else .ok) .empty)) ∧
  (∀ (s : State) (target : Quad) (rate play : Byte), OnStage s → 1 < play.toNat →
    exec (.transportLocate target rate play) s = .next (s.answered .range .empty)) ∧
  (∀ (s : State) (rate : Byte), OnStage s → s.bus.link.admits = true → s.bus.queue.length < 8 →
    exec (.transportPlay rate) s = .next ((s.setBus { s.bus with queue := s.bus.queue ++
      [⟨.anchor true (min 240 (max 60 rate.toNat)) (playPosition s), 0, false, false⟩] }).answered
      (if rate.toNat < 60 ∨ 240 < rate.toNat then .okClamped else .ok) .empty)) ∧
  (∀ s : State, OnStage s → s.bus.link.admits = true → s.bus.queue.length < 8 →
    exec .transportStop s = .next ((s.setBus { s.bus with queue := s.bus.queue ++
      [⟨.anchor false s.posn.rate s.posn.pEdge, 0, false, false⟩] }).answered .ok .empty)) ∧
  (∀ (s : State) (l : LocateRec), s.agr.transport = .cueing → s.agr.locate = some l → playPosition s = l.target) ∧
  ∀ s : State, s.agr.transport ≠ .cueing → playPosition s = s.posn.pEdge

/-- Admission of the frames of TRANSPORT STOP, PLAY and LOCATE, class 0 with origin CONSOLE, at a link that admits nothing or at a full queue (R35, R36, R67, R68): STATE, displacement of a waiting BEACON, or QUEUE_FULL. The frame and the answer of each are those of TransportFramesOffered. That the newest of several waiting BEACONs gives way is the model's choice, log 10; that a then-play flag above 1 answers RANGE ahead of admission is log 15. -/
def Obligations.ConsoleAdmission : Prop :=
  (∀ (s : State) (i : Instr) (f : QueuedFrame) (st : Status), OnStage s →
    ((i = .transportStop ∧ f = .anchor false s.posn.rate s.posn.pEdge ∧ st = .ok) ∨
      (∃ rate : Byte, i = .transportPlay rate ∧ f = .anchor true (min 240 (max 60 rate.toNat)) (playPosition s) ∧
        st = if rate.toNat < 60 ∨ 240 < rate.toNat then .okClamped else .ok) ∨
      ∃ (target : Quad) (rate play : Byte), i = .transportLocate target rate play ∧ play.toNat ≤ 1 ∧
        f = .locate false (decide (play = 1)) (min 240 (max 60 rate.toNat)) s.station.settle
          ((s.agr.passNumber + 1) % 65536) (min target.toNat s.pMax) ∧
        st = if s.pMax < target.toNat ∨ rate.toNat < 60 ∨ 240 < rate.toNat then .okClamped else .ok) →
    (s.bus.link.admits = false → exec i s = .next (s.answered .state .empty)) ∧
    (s.bus.link.admits = true → 8 ≤ s.bus.queue.length → s.bus.queue.any TxEntry.waitingBeacon = false →
      exec i s = .next (s.answered .queueFull .empty)) ∧
    ∀ (before after : List TxEntry) (b : TxEntry), s.bus.link.admits = true → 8 ≤ s.bus.queue.length →
      s.bus.queue = before ++ b :: after → b.waitingBeacon = true → after.any TxEntry.waitingBeacon = false →
      exec i s = .next ((s.setBus { s.bus with queue := before ++ after ++ [⟨f, 0, false, false⟩] }).answered st .empty)) ∧
  ∀ l : LinkState, l.admits = true ↔ l = .listening ∨ l = .active

/-- HOLD and RELEASE (R69) over every standing reason: HOLD raises CONSOLE, and RELEASE clears CONSOLE and MARK; a frame is offered only where the first reason arises or the last one clears, and a refusal of admission leaves the reasons as they were. A HOLD or RELEASE offered, whatever its origin, takes the place of one that waits (R35 step 3); that it falls on the newest of several is the model's choice, log 10. That the RELEASE which takes the place of a waiting HOLD stands in the queue to be sent follows R35 and the worked sequence of 2.4 against R58, the model's choice, log 44. -/
def Obligations.HoldAndReleaseCommands : Prop :=
  (∀ s : State, OnStage s → s.agr.reasons.console = true → exec .hold s = .next (s.answered .ok .empty)) ∧
  (∀ s : State, OnStage s → s.agr.reasons.console = false → (s.agr.reasons.logFull = true ∨ s.agr.reasons.mark = true) →
    exec .hold s = .next ((s.setReasons { s.agr.reasons with console := true }).answered .ok .empty)) ∧
  (∀ s : State, OnStage s → s.agr.reasons = ⟨false, false, false⟩ →
    ((offer (.hold s.station.holdLease 1) false s).1 = .admitted →
      exec .hold s = .next (((offer (.hold s.station.holdLease 1) false s).2.setReasons ⟨true, false, false⟩).answered .ok .empty)) ∧
    ((offer (.hold s.station.holdLease 1) false s).1 = .closed → exec .hold s = .next (s.answered .state .empty)) ∧
    ((offer (.hold s.station.holdLease 1) false s).1 = .full → exec .hold s = .next (s.answered .queueFull .empty))) ∧
  (∀ s : State, OnStage s → s.agr.reasons.console = false → s.agr.reasons.mark = false →
    exec .release s = .next (s.answered .ok .empty)) ∧
  (∀ s : State, OnStage s → (s.agr.reasons.console = true ∨ s.agr.reasons.mark = true) → s.agr.reasons.logFull = true →
    exec .release s = .next ((s.setReasons ⟨false, true, false⟩).answered .ok .empty)) ∧
  (∀ s : State, OnStage s → (s.agr.reasons.console = true ∨ s.agr.reasons.mark = true) → s.agr.reasons.logFull = false →
    ((offer .release false s).1 = .admitted →
      exec .release s = .next (((offer .release false s).2.setReasons ⟨false, false, false⟩).answered .ok .empty)) ∧
    ((offer .release false s).1 = .closed → exec .release s = .next (s.answered .state .empty)) ∧
    ((offer .release false s).1 = .full → exec .release s = .next (s.answered .queueFull .empty))) ∧
  (∀ (f : QueuedFrame) (m : Bool) (s : State), (s.bus.link.admits = false → offer f m s = (.closed, s)) ∧
    (s.bus.link.admits = true → offer f m s = ((admitTo s.bus.queue f m).1,
      s.setBus { s.bus with queue := (admitTo s.bus.queue f m).2 }))) ∧
  (∀ (f : QueuedFrame) (m : Bool) (before after : List TxEntry) (b : TxEntry), f.kind = .hold ∨ f.kind = .release →
    b.waitingHold = true → after.any TxEntry.waitingHold = false →
    admitTo (before ++ b :: after) f m = (.admitted, before ++ after ++ [⟨f, 0, false, m⟩])) ∧
  ∀ (f : QueuedFrame) (m : Bool) (q : List TxEntry), f.kind = .hold ∨ f.kind = .release →
    q.any TxEntry.waitingHold = false →
    (q.length < 8 → admitTo q f m = (.admitted, q ++ [⟨f, 0, false, m⟩])) ∧
    (8 ≤ q.length → q.any TxEntry.waitingBeacon = false → admitTo q f m = (.full, q)) ∧
    ∀ (before after : List TxEntry) (b : TxEntry), 8 ≤ q.length → q = before ++ b :: after → b.waitingBeacon = true →
      after.any TxEntry.waitingBeacon = false → admitTo q f m = (.admitted, before ++ after ++ [⟨f, 0, false, m⟩])

/-- READ PEERS (R70): it changes nothing; address 0 gives the summary, 1 to 30 the slot and hold entry of one address, with the own address reading ABSENT, and above 30 RANGE. The bytes of both answers are the model's choice, log 13; transport and pass state codes are those of ReadStatusReports. -/
def Obligations.ReadPeersReports : Prop :=
  (∀ s : State, OnStage s → ∃ x : PeersSummary, exec (.readPeers 0) s = .next (s.answered .ok (.peers x)) ∧
    x.transport = s.agr.transport ∧ x.pEdge = s.posn.pEdge ∧ x.rate = s.posn.rate ∧ x.generation = s.agr.generation ∧
    x.passNumber = s.agr.passNumber ∧ x.settle = s.agr.settle ∧ x.reasons = s.agr.reasons ∧ x.join = s.agr.join ∧
    (∀ a : Nat, a ∈ x.present ↔ 1 ≤ a ∧ a ≤ 30 ∧ (s.agr.slot a).presence = .present) ∧
    (∀ a : Nat, a ∈ x.mismatched ↔ 1 ≤ a ∧ a ≤ 30 ∧ (s.agr.slot a).presence = .mismatched) ∧
    ∀ a : Nat, a ∈ x.holding ↔ ∃ h ∈ s.agr.holds, h.address = a) ∧
  (∀ (s : State) (a : Byte), OnStage s → 1 ≤ a.toNat → a.toNat ≤ 30 → a.toNat ≠ s.address →
    exec (.readPeers a) s = .next (s.answered .ok
      (.peer (s.agr.slot a.toNat) ((holdOf s.agr.holds a.toNat).map fun h => (h.lease, h.reason))))) ∧
  (∀ (s : State) (a : Byte), OnStage s → 1 ≤ a.toNat → a.toNat ≤ 30 → a.toNat = s.address →
    exec (.readPeers a) s = .next (s.answered .ok
      (.peer ⟨.absent, 0, none⟩ ((holdOf s.agr.holds a.toNat).map fun h => (h.lease, h.reason))))) ∧
  (∀ (s : State) (a : Byte), OnStage s → 30 < a.toNat → exec (.readPeers a) s = .next (s.answered .range .empty)) ∧
  (∀ x : PeersSummary, (Reply.peers x).bytes = numBytes 1 x.transport.code ++ numBytes 4 x.pEdge ++ numBytes 1 x.rate ++
    numBytes 1 x.generation ++ numBytes 2 x.passNumber ++ numBytes 1 x.settle ++
    numBytes 1 (4 * x.reasons.mark.toNat + 2 * x.reasons.logFull.toNat + x.reasons.console.toNat) ++
    numBytes 1 (match x.join with | .waiting => 0 | .settled => 1) ++
    numBytes 4 ((x.present.map (2 ^ ·)).sum) ++ numBytes 4 ((x.mismatched.map (2 ^ ·)).sum) ++
    numBytes 4 ((x.holding.map (2 ^ ·)).sum)) ∧
  ∀ (slot : PeerSlot) (hold : Option (Nat × Nat)), (Reply.peer slot hold).bytes =
    numBytes 1 (match slot.presence with | .absent => 0 | .present => 1 | .mismatched => 2) ++ numBytes 1 slot.age ++
    numBytes 1 (2 * slot.lastBeacon.isSome.toNat + hold.isSome.toNat) ++
    (match slot.lastBeacon with
    | none => List.replicate 11 0
    | some b => numBytes 1 b.rateCode ++ numBytes 1 b.transport.code ++ numBytes 1 b.generation ++
      numBytes 2 b.passNumber ++ numBytes 1 b.passState.code ++ numBytes 1 b.rate ++ numBytes 4 b.pEdge) ++
    numBytes 1 ((hold.map Prod.fst).getD 0) ++ numBytes 1 ((hold.map Prod.snd).getD 0)

/-- READ TAKE (R174, R175): RANGE for an unknown part, and for a remove flag above 1 (R200), the latter before NONE by the model's choice, log 15; NONE with the number of records where no closed record waits; else a part of the oldest closed record, which leaves the log exactly when the remove flag is set; a removal that leaves fewer than 16 records clears LOG_FULL (R173), and a RELEASE is offered where that was the last standing reason (R58). The bytes of each part's answer are spelled out as R204 lays them out. -/
def Obligations.ReadTakeReports : Prop :=
  (∀ (s : State) (part remove : Byte), OnStage s → (2 < part.toNat ∨ 1 < remove.toNat) →
    exec (.readTake part remove) s = .next (s.answered .range .empty)) ∧
  (∀ (s : State) (part remove : Byte), OnStage s → part.toNat ≤ 2 → remove.toNat ≤ 1 →
    (∀ r ∈ s.log.records, r.outcome = .inProgress) →
    exec (.readTake part remove) s = .next (s.answered .none (.count s.log.records.length))) ∧
  (∀ (s : State) (before after : List TakeRec) (r : TakeRec), OnStage s → s.log.records = before ++ r :: after →
    (∀ x ∈ before, x.outcome = .inProgress) → r.outcome ≠ .inProgress →
    exec (.readTake 0 0) s = .next (s.answered .ok (.takeHead s.log.records.length r)) ∧
    exec (.readTake 1 0) s = .next (s.answered .ok (.takeCues s.log.records.length r.number (r.cues.take 4))) ∧
    exec (.readTake 2 0) s = .next (s.answered .ok (.takeCues s.log.records.length r.number ((r.cues.drop 4).take 4)))) ∧
  (∀ (s : State) (part : Byte) (before after : List TakeRec) (r : TakeRec), OnStage s → part.toNat ≤ 2 →
    s.log.records = before ++ r :: after → (∀ x ∈ before, x.outcome = .inProgress) → r.outcome ≠ .inProgress →
    ∃ t : State, exec (.readTake part 1) s = .next t ∧ t.log = ⟨before ++ after, s.log.counter⟩ ∧
      t.port.response = some ⟨.ok, if part = 0 then .takeHead s.log.records.length r
        else if part = 1 then .takeCues s.log.records.length r.number (r.cues.take 4)
        else .takeCues s.log.records.length r.number ((r.cues.drop 4).take 4)⟩ ∧
      t.agr = { s.agr with reasons := t.agr.reasons } ∧
      (s.log.records.length ≤ 16 → t.agr.reasons = { s.agr.reasons with logFull := false }) ∧
      (16 < s.log.records.length → t.agr.reasons = s.agr.reasons ∧ t.bus = s.bus) ∧
      (s.log.records.length ≤ 16 → s.agr.reasons = ⟨false, true, false⟩ → t.bus = (offer .release false s).2.bus) ∧
      (s.agr.reasons ≠ ⟨false, true, false⟩ → t.bus = s.bus ∧ t.port.notices = s.port.notices) ∧
      t.cues = s.cues ∧ t.plan = s.plan ∧ t.pass = s.pass ∧ t.posn = s.posn ∧ t.out = s.out ∧ t.ref = s.ref ∧
      t.sched = s.sched ∧ t.onset = s.onset ∧ t.marks = s.marks ∧ t.conf = s.conf ∧ t.pending = s.pending) ∧
  (∀ (n : Nat) (r : TakeRec) (b : List Byte), b = (Reply.takeHead n r).bytes → b.length = 18 ∧
    (n < 256 → bytesNum (b.take 1) = n) ∧ (r.number < 65536 → bytesNum ((b.drop 1).take 2) = r.number) ∧
    (r.passNumber < 65536 → bytesNum ((b.drop 3).take 2) = r.passNumber) ∧
    (r.stepIndex < 256 → bytesNum ((b.drop 5).take 1) = r.stepIndex) ∧
    bytesNum ((b.drop 6).take 1) = (match r.mode with | .rehearse => 0 | .record => 1) ∧
    (r.outcome = .complete → bytesNum ((b.drop 7).take 1) = 1) ∧
    (r.outcome = .abandoned → bytesNum ((b.drop 7).take 1) = 2) ∧
    (∃ f : Byte, b[8]? = some f ∧ f.getLsbD 7 = r.punchIn.isSome ∧ f.getLsbD 6 = r.punchOut.isSome ∧
      f.getLsbD 5 = false ∧ f.getLsbD 4 = false ∧ f.getLsbD 3 = r.flags.syncSuspect ∧
      f.getLsbD 2 = r.flags.refUnstable ∧ f.getLsbD 1 = r.flags.rxOverrun ∧ f.getLsbD 0 = r.flags.lateEvents) ∧
    (∀ x : Nat, r.punchIn = some x → x < 4294967296 → bytesNum ((b.drop 9).take 4) = x) ∧
    (r.punchIn = none → (b.drop 9).take 4 = [0, 0, 0, 0]) ∧
    (∀ x : Nat, r.punchOut = some x → x < 4294967296 → bytesNum ((b.drop 13).take 4) = x) ∧
    (r.punchOut = none → (b.drop 13).take 4 = [0, 0, 0, 0]) ∧
    (r.cues.length < 256 → bytesNum (b.drop 17) = r.cues.length)) ∧
  (∀ (n number : Nat) (cues : List TakeCue) (b : List Byte), b = (Reply.takeCues n number cues).bytes →
    b.length = 4 + 6 * cues.length ∧ (n < 256 → bytesNum (b.take 1) = n) ∧
    (number < 65536 → bytesNum ((b.drop 1).take 2) = number) ∧
    (cues.length < 256 → bytesNum ((b.drop 3).take 1) = cues.length) ∧
    ∀ (i : Nat) (c : TakeCue), cues[i]? = some c → (b.drop (4 + 6 * i)).take 6 = c.bytes) ∧
  ∀ (c : TakeCue) (b : List Byte), b = c.bytes → b.length = 6 ∧ (c.cue < 65536 → bytesNum (b.take 2) = c.cue) ∧
    (∃ f : Byte, b[2]? = some f ∧ f.getLsbD 7 = c.onset.isSome ∧ f.getLsbD 6 = false ∧ f.getLsbD 5 = false ∧
      f.getLsbD 4 = false ∧ f.getLsbD 3 = false ∧ f.getLsbD 2 = false ∧ f.getLsbD 1 = c.overlap ∧
      f.getLsbD 0 = c.noOnset) ∧
    (c.onset = none → b.drop 3 = [0, 0, 0]) ∧
    ∀ x : Int, c.onset = some x → (0 ≤ x → x < 8388608 → (bytesNum (b.drop 3) : Int) = x) ∧
      (-8388608 ≤ x → x < 0 → (bytesNum (b.drop 3) : Int) = x + 16777216)

/-- SET MARK and CLEAR MARK (R182): the positions are clamped to P_MAX, codes, count and a range turned round are refused, an accepted mark is written whole and armed, and a cleared mark keeps its other fields; an ENTER occurrence needs a position outside the range before it. The codes of condition, action and re-arm are numbered in the order in which chapter 10 lists their values (R200). -/
def Obligations.MarksSetAndCleared : Prop :=
  (∀ (s : State) (a : MarkArgs) (number : Byte), Configurable s → exec (.setMark a) s = .next (s.answered .state .empty) ∧
    exec (.clearMark number) s = .next (s.answered .state .empty)) ∧
  (∀ (s : State) (a : MarkArgs) (number : Byte), PortFree s → s.bus.lineTest.isSome = true →
    exec (.setMark a) s = .next (s.answered .busy .empty) ∧
    exec (.clearMark number) s = .next (s.answered .busy .empty)) ∧
  (∀ (m : Mark) (prev edge : Nat), m.condition = .enter → m.occurs prev edge = true →
    (prev < m.low ∨ m.high < prev) ∧ m.low ≤ edge ∧ edge ≤ m.high) ∧
  (∀ (s : State) (a : MarkArgs), OnStage s →
    (a.number = 0 ∨ 4 < a.number.toNat ∨ a.count = 0 ∨ 1 < a.condition.toNat ∨ 2 < a.action.toNat ∨ 1 < a.rearm.toNat) →
    exec (.setMark a) s = .next (s.answered .range .empty)) ∧
  (∀ (s : State) (a : MarkArgs), OnStage s → min a.high.toNat s.pMax < min a.low.toNat s.pMax →
    exec (.setMark a) s = .next (s.answered .range .empty)) ∧
  (∀ (s : State) (a : MarkArgs) (c : MarkCondition) (act : MarkAction) (re : MarkRearm), OnStage s →
    1 ≤ a.number.toNat → a.number.toNat ≤ 4 → a.count ≠ 0 → markConditionOfCode a.condition.toNat = some c →
    markActionOfCode a.action.toNat = some act → markRearmOfCode a.rearm.toNat = some re →
    min a.low.toNat s.pMax ≤ min a.high.toNat s.pMax → ∃ marks : Vector Mark 4,
    exec (.setMark a) s = .next ((s.setMarks marks).answered
      (if s.pMax < a.low.toNat ∨ s.pMax < a.high.toNat then .okClamped else .ok) .empty) ∧
    (s.setMarks marks).mark a.number.toNat =
      ⟨min a.low.toNat s.pMax, min a.high.toNat s.pMax, c, a.count.toNat, a.count.toNat, act, re, true⟩ ∧
    ∀ n : Nat, n ≠ a.number.toNat → (s.setMarks marks).mark n = s.mark n) ∧
  (∀ (s : State) (number : Byte), OnStage s → (number = 0 ∨ 4 < number.toNat) →
    exec (.clearMark number) s = .next (s.answered .range .empty)) ∧
  (∀ (s : State) (number : Byte), OnStage s → 1 ≤ number.toNat → number.toNat ≤ 4 → ∃ marks : Vector Mark 4,
    exec (.clearMark number) s = .next ((s.setMarks marks).answered .ok .empty) ∧
    (s.setMarks marks).mark number.toNat = { s.mark number.toNat with armed := false } ∧
    ∀ n : Nat, n ≠ number.toNat → (s.setMarks marks).mark n = s.mark n) ∧
  ∀ code : Nat,
    markConditionOfCode code = (if code = 0 then some .enter else if code = 1 then some .leave else none) ∧
    markActionOfCode code =
      (if code = 0 then some .notice else if code = 1 then some .hold else if code = 2 then some .stop else none) ∧
    markRearmOfCode code = if code = 0 then some .once else if code = 1 then some .repeating else none

/-- The judging of the marks at a frame edge (R178, R179) and the acting of a mark whose count is due (R180). A handed pair is judged by the marks in number order; what an occurrence is, for ENTER and for LEAVE, is spelled out; an occurrence lowers the count of an armed mark, and the one that brings it to 0 makes it act as MARK_FIRED does: the notice, its action, and its re-arming; but several marks that act with STOP at one edge offer one frame, that of the lowest number (R181). That MARK_FIRED stands before the TX_OVERFLOW of a refused frame is the model's choice, log 42, that the event stands on its own between edges is the model's choice, log 1, and that it changes nothing where it is not due, log 2. The notices of each action are spelled out, and the STOP at a full queue: the newest waiting BEACON (log 10) gives way to the frame with its mark tag, or TX_OVERFLOW; at a link that admits nothing there is no frame and no notice (R35, R36). -/
def Obligations.MarkActs : Prop :=
  (∀ (s : State) (n : Nat), Live s → 1 ≤ n → n ≤ 4 → (s.mark n).armed = true → (s.mark n).count = 1 →
    ∃ t : State, exec (.markFired n) s = .next t ∧
      ((s.mark n).rearm = .once → t.mark n = { s.mark n with count := 0, armed := false }) ∧
      ((s.mark n).rearm = .repeating → t.mark n = { s.mark n with count := (s.mark n).reload }) ∧
      (∀ k : Nat, k ≠ n → t.mark k = s.mark k) ∧
      (s.port.notices.length < 16 → s.port.notices ++ [⟨.markFired, n⟩] <+: t.port.notices) ∧
      ((s.mark n).action = .notice → t.bus = s.bus ∧ t.agr = s.agr) ∧
      ((s.mark n).action = .hold → t.agr = { s.agr with reasons := { s.agr.reasons with mark := true } }) ∧
      ((s.mark n).action = .hold → s.agr.reasons = ⟨false, false, false⟩ →
        t.bus = (offer (.hold s.station.holdLease 3) false s).2.bus) ∧
      ((s.mark n).action = .hold → s.agr.reasons.any = true → t.bus = s.bus) ∧
      ((s.mark n).action = .hold → s.agr.reasons = ⟨false, false, false⟩ →
        t.port = (offerInternal (.hold s.station.holdLease 3) (post .markFired n s)).port) ∧
      ((s.mark n).action = .notice ∨ ((s.mark n).action = .hold ∧ s.agr.reasons.any = true) →
        t.port = (post .markFired n s).port) ∧
      ((s.mark n).action = .stop → s.markStopFlag = true → t.port = (post .markFired n s).port) ∧
      ((s.mark n).action = .stop → s.bus.link.admits = false → t.bus = s.bus ∧ t.port = (post .markFired n s).port) ∧
      ((s.mark n).action = .stop → s.markStopFlag = false → s.bus.link.admits = true → 8 ≤ s.bus.queue.length →
        (s.bus.queue.any TxEntry.waitingBeacon = false →
          t.bus = s.bus ∧ t.port = (post .txOverflow s.address (post .markFired n s)).port) ∧
        ∀ (before after : List TxEntry) (b : TxEntry), s.bus.queue = before ++ b :: after → b.waitingBeacon = true →
          after.any TxEntry.waitingBeacon = false → t.port = (post .markFired n s).port ∧ t.bus = { s.bus with
            queue := before ++ after ++ [⟨.anchor false s.posn.rate s.posn.pEdge, 0, false, true⟩] }) ∧
      ((s.mark n).action = .stop → t.agr = s.agr) ∧
      ((s.mark n).action = .stop → s.markStopFlag = true → t.bus = s.bus) ∧
      ((s.mark n).action = .stop → s.markStopFlag = false → s.bus.link.admits = true → s.bus.queue.length < 8 →
        t.port = (post .markFired n s).port ∧
        t.bus = { s.bus with queue := s.bus.queue ++ [⟨.anchor false s.posn.rate s.posn.pEdge, 0, false, true⟩] }) ∧
      t.posn = s.posn ∧ t.pass = s.pass ∧ t.log = s.log ∧ t.cues = s.cues ∧ t.out = s.out) ∧
  (∀ (s : State) (n : Nat), ((s.mark n).armed = false ∨ (s.mark n).count ≠ 1) → exec (.markFired n) s = .next s) ∧
  (∀ (m : Mark) (prev edge : Nat), m.occurs prev edge = true ↔
    (m.condition = .enter ∧ (prev < m.low ∨ m.high < prev) ∧ m.low ≤ edge ∧ edge ≤ m.high) ∨
    (m.condition = .leave ∧ m.low ≤ prev ∧ prev ≤ m.high ∧ (edge < m.low ∨ m.high < edge))) ∧
  (∀ (s : State) (prev edge : Nat), judgeMarks none s = s ∧ judgeMarks (some (prev, edge)) s =
    judgeMark prev edge (stopBefore prev edge s 4) (judgeMark prev edge (stopBefore prev edge s 3)
      (judgeMark prev edge (stopBefore prev edge s 2) (judgeMark prev edge false s 1) 2) 3) 4) ∧
  (∀ (s : State) (prev edge n : Nat), 1 ≤ n → n ≤ 4 → (stopBefore prev edge s n = true ↔
    ∃ k : Nat, 1 ≤ k ∧ k < n ∧ (s.mark k).armed = true ∧ (s.mark k).occurs prev edge = true ∧
      (s.mark k).count ≤ 1 ∧ (s.mark k).action = .stop)) ∧
  (∀ (s : State) (prev edge n : Nat) (offered : Bool),
    ((s.mark n).armed = false ∨ (s.mark n).occurs prev edge = false) → judgeMark prev edge offered s n = s) ∧
  ∀ (s : State) (prev edge n : Nat), 1 ≤ n → n ≤ 4 → (s.mark n).armed = true → (s.mark n).occurs prev edge = true →
    (1 < (s.mark n).count → ∀ offered : Bool, ∃ marks : Vector Mark 4,
      judgeMark prev edge offered s n = s.setMarks marks ∧
      (s.setMarks marks).mark n = { s.mark n with count := (s.mark n).count - 1 } ∧
      ∀ k : Nat, k ≠ n → (s.setMarks marks).mark k = s.mark k) ∧
    (Live s → (s.mark n).count = 1 → exec (.markFired n) s = .next (judgeMark prev edge false s n)) ∧
    ((s.mark n).action ≠ .stop → judgeMark prev edge true s n = judgeMark prev edge false s n) ∧
    ((s.mark n).action = .stop → (s.mark n).count ≤ 1 → ∃ marks : Vector Mark 4,
      judgeMark prev edge true s n = (post .markFired n s).setMarks marks ∧
      ((s.mark n).rearm = .once → (s.setMarks marks).mark n = { s.mark n with count := 0, armed := false }) ∧
      ((s.mark n).rearm = .repeating → (s.setMarks marks).mark n = { s.mark n with count := (s.mark n).reload }) ∧
      ∀ k : Nat, k ≠ n → (s.setMarks marks).mark k = s.mark k)

/-! ## The reference and the frame edge -/

/-- STEP (R184) and its edges (R12): the refusals in their order; each edge is a frame edge; the last one answers, and a whole command leaves the port READY and the reference unit as it was. That the edges come as commands of their own is the model's choice, log 11. The bytes of the answer are the model's choice, log 13. -/
def Obligations.StepDeliversEdges : Prop :=
  (∀ (s : State) (count : Byte), Configurable s → exec (.step count) s = .next (s.answered .state .empty)) ∧
  (∀ (s : State) (count : Byte), OnStage s → s.timing.refSource ≠ .step →
    exec (.step count) s = .next (s.answered .state .empty)) ∧
  (∀ (s : State) (count : Byte), OnStage s → s.timing.refSource = .step → (count = 0 ∨ 250 < count.toNat) →
    exec (.step count) s = .next (s.answered .range .empty)) ∧
  (∀ (s : State) (count : Byte), OnStage s → s.timing.refSource = .step → 1 ≤ count.toNat → count.toNat ≤ 250 →
    exec (.step count) s =
      .next (s.setPort { s.port with stepRun := some ⟨count.toNat, count.toNat⟩, response := none })) ∧
  (∀ (s : State) (asked left : Nat), Live s → s.port.stepRun = some ⟨asked, left⟩ → 1 < left →
    exec .steppedEdge s =
      .next ((frameEdge s).setPort { (frameEdge s).port with stepRun := some ⟨asked, left - 1⟩ })) ∧
  (∀ (s : State) (asked left : Nat), Live s → s.port.stepRun = some ⟨asked, left⟩ → left ≤ 1 →
    exec .steppedEdge s = .next ((frameEdge s).setPort { (frameEdge s).port with
      stepRun := none
      response := some ⟨.ok, .stepped asked (frameEdge s).agr.transport (frameEdge s).posn.pEdge⟩ })) ∧
  (∀ (s : State) (count : Byte), OnStage s → s.timing.refSource = .step → 1 ≤ count.toNat → count.toNat ≤ 250 →
    ∃ t : State, runCommands (.step count :: List.replicate count.toNat .steppedEdge) s = .next t ∧
      t.port.stepRun = none ∧ t.port.response = some ⟨.ok, .stepped count.toNat t.agr.transport t.posn.pEdge⟩ ∧
      t.port.part = .running ∧ t.ref = s.ref ∧ t.conf = s.conf ∧ t.pending = s.pending) ∧
  ∀ (n p : Nat) (tr : Transport), (Reply.stepped n tr p).bytes =
    numBytes 1 n ++ numBytes 1 (match tr with | .stopped => 0 | .cueing => 1 | .rolling => 2) ++ numBytes 4 p

/-- REF_PULSE by the lock state: pulses that do not qualify or that the divider passes over (R1, R2), and candidate edges in NO_REF, ACQUIRING, LOCKED and HOLDOVER (R4, R5, R6, R7, R10), with REF_UNSTABLE at a lost lock (R13). That a pulse carries its transition, width and instant is log 7, the least period log 6. An edge at the moment of its watchdog's expiry measures T + T div 2 and does not agree (R3); that one which a sender gives later, the watchdog still armed, is taken as one at that moment is log 36; the place of REF_LOCKED before the edge's notices is the model's, log 19. What REF_UNSTABLE writes is spelled out in GroupFires. A period above 16,777,215 counts as that one and is compared so, the model's choice, log 45. -/
def Obligations.RefPulseJudged : Prop :=
  (∀ (s : State) (tr : RefTransition) (held x : Nat),
    (¬ Live s ∨ held < 2000 ∨ s.timing.refSource = .step ∨ (s.timing.refSource = .inputRise ∧ tr = .fall) ∨
      (s.timing.refSource = .inputFall ∧ tr = .rise)) → exec (.refPulse tr held x) s = .next s) ∧
  (∀ (s : State) (tr : RefTransition) (held x : Nat), Live s → 2000 ≤ held →
    s.timing.refSource = (match tr with | .rise => .inputRise | .fall => .inputFall) → s.timing.refDiv = 2 →
    s.ref.dividerPhase = 1 → exec (.refPulse tr held x) s = .next (s.setRef { s.ref with dividerPhase := 0 })) ∧
  (∀ (s : State) (tr : RefTransition) (held x : Nat), Candidate tr held s → s.ref.lock = .noRef →
    exec (.refPulse tr held x) s = .next (frameEdge (s.setRef ⟨.acquiring, phasePassed s, some x, none, 0, 0⟩))) ∧
  (∀ (s : State) (tr : RefTransition) (held x : Nat), Candidate tr held s → s.ref.lock = .acquiring →
    s.ref.timingOrigin = none →
    exec (.refPulse tr held x) s = .next (frameEdge (s.setRef ⟨.acquiring, phasePassed s, some x, none, 0, 0⟩))) ∧
  (∀ (s : State) (tr : RefTransition) (held x o : Nat), Candidate tr held s → s.ref.lock = .acquiring →
    s.ref.timingOrigin = some o →
    s.ref.heldPeriod = none →
    exec (.refPulse tr held x) s =
      .next (frameEdge (s.setRef ⟨.acquiring, phasePassed s, some x, some (periodSince o x), 1, 0⟩))) ∧
  (∀ (s : State) (tr : RefTransition) (held x o p : Nat), Candidate tr held s → s.ref.lock = .acquiring →
    s.ref.timingOrigin = some o → s.ref.heldPeriod = some p → ¬ EdgeAgrees p o x →
    exec (.refPulse tr held x) s =
      .next (frameEdge (s.setRef ⟨.acquiring, phasePassed s, some x, some (periodWithin p o x), 1, 0⟩))) ∧
  (∀ (s : State) (tr : RefTransition) (held x o p : Nat), Candidate tr held s → s.ref.lock = .acquiring →
    s.ref.timingOrigin = some o → s.ref.heldPeriod = some p → EdgeAgrees p o x →
    (s.ref.lockCount < 7 → exec (.refPulse tr held x) s =
      .next (frameEdge (s.setRef ⟨.acquiring, phasePassed s, some x, some (periodWithin p o x), s.ref.lockCount + 1, 0⟩))) ∧
    (s.ref.lockCount = 7 → exec (.refPulse tr held x) s = .next (frameEdge (post .refLocked 0
      (s.setRef ⟨.locked, phasePassed s, some x, some (periodWithin p o x), 8, 0⟩))))) ∧
  (∀ (s : State) (tr : RefTransition) (held x o p : Nat), Candidate tr held s → s.ref.lock = .locked →
    s.ref.timingOrigin = some o → s.ref.heldPeriod = some p →
    (EdgeAgrees p o x → exec (.refPulse tr held x) s =
      .next (frameEdge (s.setRef ⟨.locked, phasePassed s, some x, some (periodWithin p o x), s.ref.lockCount, 0⟩))) ∧
    (¬ EdgeAgrees p o x → exec (.refPulse tr held x) s = .next (frameEdge (flagRefUnstable
      (s.setRef ⟨.acquiring, phasePassed s, some x, some (periodWithin p o x), 1, 0⟩))))) ∧
  (∀ (s : State) (tr : RefTransition) (held x o p : Nat), Candidate tr held s → s.ref.lock = .holdover →
    s.ref.timingOrigin = some o → s.ref.heldPeriod = some p →
    (x - o ≤ p / 2 → exec (.refPulse tr held x) s =
      .next (s.setRef ⟨.acquiring, phasePassed s, some x, some p, 1, 0⟩)) ∧
    (p / 2 < x - o → exec (.refPulse tr held x) s =
      .next (frameEdge (s.setRef ⟨.acquiring, phasePassed s, some x, some p, 1, 0⟩)))) ∧
  (∀ (s : State) (tr : RefTransition) (held o p : Nat), Candidate tr held s → s.ref.timingOrigin = some o →
    s.ref.heldPeriod = some p → 1 ≤ p → p + p / 2 ≤ 16777215 →
    (s.ref.lock = .acquiring → exec (.refPulse tr held (o + p + p / 2 + 1)) s = .next (frameEdge
      (s.setRef ⟨.acquiring, phasePassed s, some (o + p + p / 2 + 1), some (p + p / 2), 1, 0⟩))) ∧
    (s.ref.lock = .locked → exec (.refPulse tr held (o + p + p / 2 + 1)) s = .next (frameEdge (flagRefUnstable
      (s.setRef ⟨.acquiring, phasePassed s, some (o + p + p / 2 + 1), some (p + p / 2), 1, 0⟩))))) ∧
  ∀ (p o x : Nat), p ≤ 11184810 → x - o ≤ p + p / 2 → periodWithin p o x = max 1 (x - o)

/-- WATCHDOG_EXPIRY (R3, R6, R8, R13) and SYNTHESISED_EDGE (R9). The moments that become the origin are computed from the rules, log 5: the expiry is the first count at which the time since the origin exceeds T + T div 2 (R3); that an event whose conditions fail changes nothing is log 2; the place of REF_LOST before the edge's notices is the model's, log 19. -/
def Obligations.WatchdogAndHoldover : Prop :=
  (∀ (s : State) (o p : Nat), Live s → s.ref.lock = .acquiring → s.ref.timingOrigin = some o →
    s.ref.heldPeriod = some p → exec .watchdogExpiry s =
      .next (s.setRef { s.ref with lockCount := 0, heldPeriod := none, timingOrigin := none })) ∧
  (∀ (s : State) (o p : Nat), Live s → s.ref.lock = .locked → s.ref.timingOrigin = some o →
    s.ref.heldPeriod = some p → exec .watchdogExpiry s = .next (frameEdge (flagRefUnstable (post .refLost 0
      (s.setRef { s.ref with lock := .holdover, timingOrigin := some (o + p + p / 2 + 1), tickNumber := 0 }))))) ∧
  (∀ s : State, (¬ Live s ∨ s.ref.timingOrigin = none ∨ s.ref.heldPeriod = none ∨ s.ref.lock = .noRef ∨
    s.ref.lock = .holdover) → exec .watchdogExpiry s = .next s) ∧
  (∀ (s : State) (o p : Nat), Live s → s.ref.lock = .holdover → s.ref.timingOrigin = some o →
    s.ref.heldPeriod = some p → exec .synthesisedEdge s = .next (frameEdge (s.setRef { s.ref with
      timingOrigin := some (o + p), tickNumber := 0 }))) ∧
  ∀ s : State, (¬ Live s ∨ s.ref.lock ≠ .holdover) → exec .synthesisedEdge s = .next s

/-- TICK (R11, R19, R20): delivered in LOCKED and HOLDOVER alone; a ROLLING position moves by whole subframes up to the cap, and after k ticks of a frame it stands at floor(k × r / 120) beyond the edge value or at the cap; a position that moves fires the group it has reached and then opens the onset windows it has reached (R141, R164; the order of the two is log 35); any other transport stays where it is. That a tick moves nothing in the frame in which ROLLING was entered follows R20, R46 and R49 against R19, log 29; that a TICK in another lock state or outside RUNNING changes nothing is log 2. -/
def Obligations.TickInterpolates : Prop :=
  (∀ s : State, Live s → (s.ref.lock = .locked ∨ s.ref.lock = .holdover) → s.agr.transport = .rolling →
    s.agr.rollFresh = false → ∃ t : State, exec .tick s = .next t ∧ t.ref = { s.ref with tickNumber := min 255 (s.ref.tickNumber + 1) } ∧
      t.posn = { s.posn with
        p := min (s.posn.p + (s.posn.acc + s.posn.rate) / 120) (min (s.posn.pEdge + s.posn.rate - 1) s.pMax)
        acc := (s.posn.acc + s.posn.rate) % 120 } ∧
      (t.posn.p = s.posn.p → t.out = s.out ∧ t.sched = s.sched ∧ t.onset = s.onset ∧ t.log = s.log) ∧
      (t.posn.p ≠ s.posn.p → t = openWindows (fireGroup ((s.setRef t.ref).setPosn t.posn))) ∧
      t.port = s.port ∧ t.conf = s.conf ∧ t.bus = s.bus ∧ t.agr = s.agr ∧ t.cues = s.cues ∧ t.plan = s.plan ∧
      t.pass = s.pass ∧ t.marks = s.marks ∧ t.pending = s.pending) ∧
  (∀ s : State, Live s → (s.ref.lock = .locked ∨ s.ref.lock = .holdover) →
    (s.agr.transport ≠ .rolling ∨ s.agr.rollFresh = true) →
    exec .tick s = .next (s.setRef { s.ref with tickNumber := min 255 (s.ref.tickNumber + 1) })) ∧
  (∀ s : State, (¬ Live s ∨ s.ref.lock = .noRef ∨ s.ref.lock = .acquiring) → exec .tick s = .next s) ∧
  ∀ (s : State) (k : Nat), Live s → (s.ref.lock = .locked ∨ s.ref.lock = .holdover) → s.agr.transport = .rolling →
    s.agr.rollFresh = false → s.posn.acc = 0 → s.posn.p = s.posn.pEdge → s.posn.pEdge ≤ s.pMax → 60 ≤ s.posn.rate →
    ∃ t : State, runCommands (List.replicate k .tick) s = .next t ∧
      t.posn.p = min (s.posn.pEdge + k * s.posn.rate / 120) (min (s.posn.pEdge + s.posn.rate - 1) s.pMax) ∧
      t.posn.pEdge = s.posn.pEdge ∧ t.posn.acc = k * s.posn.rate % 120

/-- The frame edge (R17, R18, R46, R158): with no frame waiting to be applied, a ROLLING position moves to the edge value or to P_MAX, where it stops the transport and the outputs rest; any other position stays; and every edge ends with the composition of the word of the state it leaves. A frame applied (R48, R60, R200): the presence update comes first and is left out for an echo; a frame other than a BEACON of a peer that is MISMATCHED after it, and one with a reserved code, has no further effect; the payload of any other goes to the operation of its kind. The edge is its parts in their order: the advance with its group, the onset windows and the local stop (R17, R18, R20, R143), the frames in completion order (R48), each by TransportFramesApplied, HoldSetKept and PresenceAndBeacons, holds (R57, R59), ages (R61), settle and roll (R53), beacon (R63), listening count (R38), clearing (R112), own entry (R109), closure (R119), marks (R178), overlay word (R158). What each part does is stated beside it: the group in GroupFires, the windows in LevelSampleJudged, holds and own entry in HoldSetKept, ages in LeaseAndPresenceEnd, settle and roll in SettleEnds, beacon and listening in BeaconAndLinkEvents, closure in ClosureOffered, marks in MarkActs, the word in OverlayShiftsWord. The model's choices: the local stop at P_MAX ends the closure count, log 38; the advance clears the mark of a roll just entered (rollFresh), log 29; the frames are applied with the take IN_PROGRESS and the take counter from before the advance, in which a slip is to land, log 30; the ages go by address, log 32; the scheduler goes before the detector, log 35; the notices of two parts stand in the order of the parts, log 42. The outputs at rest are spelled out in TransportFramesApplied, the stop at the pass controller in PassClears. -/
def Obligations.EdgeMovesPosition : Prop :=
  (∀ s : State, s.agr.frames = [] → s.agr.transport = .rolling →
    (frameEdge s).posn = ⟨min (s.posn.pEdge + s.posn.rate) s.pMax, min (s.posn.pEdge + s.posn.rate) s.pMax,
      s.posn.pEdge, 0, s.posn.rate⟩ ∧
    (s.posn.pEdge + s.posn.rate ≤ s.pMax → (frameEdge s).agr.transport = .rolling) ∧
    (s.pMax < s.posn.pEdge + s.posn.rate → (frameEdge s).agr.transport = .stopped ∧
      restOutputs (frameEdge s).out = (frameEdge s).out ∧ (frameEdge s).pass.state ≠ .inPass)) ∧
  (∀ s : State, s.agr.frames = [] → s.agr.transport ≠ .rolling →
    (frameEdge s).posn = { s.posn with pPrev := s.posn.pEdge }) ∧
  (∀ s : State, (frameEdge s).out.buffer = some (overlayWord (frameEdge s)) ∧
    (frameEdge s).out.lastWord = some (overlayWord (frameEdge s)) ∧ (frameEdge s).ref = s.ref ∧
    (frameEdge s).conf = s.conf ∧ (frameEdge s).agr.frames = []) ∧
  (∀ s : State, frameEdge s = compose (judgeMarks (handedPair s (edgeAdvance s)) (closureTest (ownEntryMaintenance
    (clearingTest (listeningStep (beaconStep (rollStep (settleStep (presenceStep (ownHoldMaintenance (countLeases
      (applyFrames s (edgeAdvance s))))))))))))) ) ∧
  (∀ b s : State, applyFrames b s = s.agr.frames.foldl (applyFrame ⟨s.agr.generation, s.posn.pEdge, s.posn.pPrev,
    (b.log.records.find? fun r => decide (r.outcome = .inProgress)).map TakeRec.number, b.log.counter⟩)
      (s.setAgr { s.agr with frames := [] })) ∧
  (∀ s u : State, s.agr.transport = .rolling →
    u = (s.setAgr { s.agr with rollFresh := false }).setPosn ⟨min (s.posn.pEdge + s.posn.rate) s.pMax,
      min (s.posn.pEdge + s.posn.rate) s.pMax, s.posn.pEdge, 0, s.posn.rate⟩ →
    (s.posn.p ≠ min (s.posn.pEdge + s.posn.rate) s.pMax → s.posn.pEdge + s.posn.rate ≤ s.pMax →
      edgeAdvance s = openWindows (fireGroup u)) ∧
    (s.posn.p ≠ min (s.posn.pEdge + s.posn.rate) s.pMax → s.pMax < s.posn.pEdge + s.posn.rate →
      edgeAdvance s = localStop (openWindows (fireGroup u))) ∧
    (s.posn.p = min (s.posn.pEdge + s.posn.rate) s.pMax → s.posn.pEdge + s.posn.rate ≤ s.pMax → edgeAdvance s = u) ∧
    (s.posn.p = min (s.posn.pEdge + s.posn.rate) s.pMax → s.pMax < s.posn.pEdge + s.posn.rate →
      edgeAdvance s = localStop u)) ∧
  (∀ s : State, s.agr.transport ≠ .rolling → edgeAdvance s = s.setPosn { s.posn with pPrev := s.posn.pEdge }) ∧
  (∀ s t : State, handedPair s t = if s.agr.transport = .rolling ∧ t.agr.transport = .rolling then
    some (t.posn.pPrev, t.posn.pEdge) else none) ∧
  (∀ s : State, judgeMarks none s = s) ∧
  (∀ s : State, presenceStep s = addresses.foldl agePeer s ∧ (∀ a : Nat, a ∈ addresses ↔ 1 ≤ a ∧ a ≤ 30) ∧
    addresses.Pairwise (fun a b => a < b)) ∧
  (∀ s : State, localStop s = passStop (((s.setAgr { s.agr with transport := .stopped, rollFresh := false }).setOut
    (restOutputs s.out)).setPass { s.pass with closureCount := none })) ∧
  (∀ (k : SlipRef) (s : State) (h : HeardFrame), h.echo = true →
    (parsePayload h.frame.kind h.frame.payload = none → applyFrame k s h = s) ∧
    ∀ x : Payload, parsePayload h.frame.kind h.frame.payload = some x →
      applyFrame k s h = applyPayload k h.frame.source x s) ∧
  (∀ (k : SlipRef) (s u : State) (h : HeardFrame), h.echo = false → u = presenceUpdate h.frame s →
    (h.frame.kind ≠ .beacon → (u.agr.slot h.frame.source).presence = .mismatched → applyFrame k s h = u) ∧
    (parsePayload h.frame.kind h.frame.payload = none → applyFrame k s h = u) ∧
    ∀ x : Payload, parsePayload h.frame.kind h.frame.payload = some x →
      (h.frame.kind = .beacon ∨ (u.agr.slot h.frame.source).presence ≠ .mismatched) →
      applyFrame k s h = applyPayload k h.frame.source x u) ∧
  (∀ (k : SlipRef) (a g r st n x lease reason c i o rc p : Nat) (b d : Bool) (oc : DoneOutcome) (t : Transport)
    (ps : PassState) (s : State), applyPayload k a (.anchor g b r p) s = applyAnchor g b r p s ∧
    applyPayload k a (.locate g b d r st n x) s = applyLocate g b d r st n x s ∧
    applyPayload k a (.hold lease reason) s = applyHold a lease reason s ∧
    applyPayload k a .release s = applyRelease a s ∧ applyPayload k a (.window n c i o) s = applyWindow a n c i o s ∧
    applyPayload k a (.done n oc b) s = applyDone a n oc b s ∧
    applyPayload k a (.beacon rc t ps g n r p) s = applyBeacon k a rc t ps g n r p s ∧
    applyPayload k a (.test n) s = s) ∧
  ∀ (x y z : Byte) (rest : List Byte), (1 < y.toNat → parsePayload .anchor (x :: y :: rest) = none) ∧
    (192 ≤ z.toNat → parsePayload .done [x, y, z] = none) ∧
    (x.toNat / 8 % 4 = 3 → parsePayload .beacon (x :: rest) = none)

/-! ## The agreement unit and the pass controller -/

/-- HOLD_EXPIRED (R57) and PEER_LOST (R61): the entry goes with the notice for the station's own; the slot becomes ABSENT, its hold and window entries go, its beacon record stays. Step 4 of a frame edge raises the age of every slot that is not ABSENT, and where the limit is passed does what PEER_LOST does. That each part of a frame edge is a command that acts where it is due is the model's choice, log 1, and that it changes nothing elsewhere, log 2. -/
def Obligations.LeaseAndPresenceEnd : Prop :=
  (∀ (s : State) (a : Nat) (h : HoldEntry), Live s → holdOf s.agr.holds a = some h → h.fresh = false → h.lease ≤ 1 →
    (a = s.address → exec (.holdExpired a) s = .next (post .holdExpired a
      (s.setAgr { s.agr with holds := s.agr.holds.filter fun x => decide (x.address ≠ a) }))) ∧
    (a ≠ s.address → exec (.holdExpired a) s = .next
      (s.setAgr { s.agr with holds := s.agr.holds.filter fun x => decide (x.address ≠ a) }))) ∧
  (∀ (s : State) (a : Nat), (holdOf s.agr.holds a = none ∨
    (∃ h : HoldEntry, holdOf s.agr.holds a = some h ∧ (h.fresh = true ∨ 1 < h.lease))) →
    exec (.holdExpired a) s = .next s) ∧
  (∀ (s : State) (a : Nat), Live s → 1 ≤ a → a ≤ 30 → (s.agr.slot a).presence ≠ .absent →
    3 * s.station.beaconInterval < (s.agr.slot a).age + 1 → ∃ t : State, exec (.peerLost a) s = .next t ∧
      t.agr.slot a = ⟨.absent, (s.agr.slot a).age + 1, (s.agr.slot a).lastBeacon⟩ ∧
      (∀ b : Nat, b ≠ a → t.agr.slot b = s.agr.slot b) ∧ t.agr = { s.agr with
        peers := t.agr.peers, holds := s.agr.holds.filter fun x => decide (x.address ≠ a) } ∧
      t.pass = { s.pass with windows := s.pass.windows.filter fun w => decide (w.address ≠ a) } ∧
      t.port = (post .peerLost a s).port ∧ t.posn = s.posn ∧ t.ref = s.ref ∧ t.bus = s.bus ∧ t.cues = s.cues ∧
      t.plan = s.plan ∧ t.sched = s.sched ∧ t.out = s.out ∧ t.onset = s.onset ∧ t.log = s.log ∧ t.marks = s.marks ∧
      t.conf = s.conf ∧ t.pending = s.pending) ∧
  (∀ (s : State) (a : Nat), ((s.agr.slot a).presence = .absent ∨
    (s.agr.slot a).age + 1 ≤ 3 * s.station.beaconInterval) → exec (.peerLost a) s = .next s) ∧
  (∀ (s : State) (a : Nat), (s.agr.slot a).presence = .absent → agePeer s a = s) ∧
  ∀ (s : State) (a : Nat), 1 ≤ a → a ≤ 30 → (s.agr.slot a).presence ≠ .absent →
    ((s.agr.slot a).age + 1 ≤ 3 * s.station.beaconInterval →
      agePeer s a = s.setAgr { s.agr with peers := (agePeer s a).agr.peers } ∧
      (agePeer s a).agr.slot a = { s.agr.slot a with age := (s.agr.slot a).age + 1 } ∧
      ∀ b : Nat, b ≠ a → (agePeer s a).agr.slot b = s.agr.slot b) ∧
    (Live s → 3 * s.station.beaconInterval < (s.agr.slot a).age + 1 → exec (.peerLost a) s = .next (agePeer s a))

/-- The roll condition at the end of a settle count (R53): a then-play locate rolls over an empty hold set and waits over any other, and a locate without it stops at the target; the roll entry of a station that holds no pass to begin changes nothing else. Steps 5 and 6 of a frame edge: the count is lowered while it is above 0 and was not written at this edge, and the roll condition is tested at every edge with the count at 0. That SETTLE_END is a command that acts where it is due is the model's choice, log 1, and that it changes nothing elsewhere, log 2; the mark of a roll just entered, under which the position rests until the next edge, is log 29's. -/
def Obligations.SettleEnds : Prop :=
  (∀ (s : State) (l : LocateRec), Live s → s.agr.transport = .cueing → s.agr.settle = 1 → s.agr.locate = some l →
    (l.thenPlay = false → exec .settleEnd s =
      .next (s.setAgr { s.agr with settle := 0, transport := .stopped, locate := none })) ∧
    (l.thenPlay = true → s.agr.holds ≠ [] → exec .settleEnd s = .next (s.setAgr { s.agr with settle := 0 })) ∧
    (l.thenPlay = true → s.agr.holds = [] →
      exec .settleEnd s =
        .next (rollEntry (s.setAgr { s.agr with settle := 0, transport := .rolling, rollFresh := true, locate := none })) ∧
      (s.pass.state = .idle ∨ s.pass.state = .cleared → exec .settleEnd s =
        .next (s.setAgr { s.agr with settle := 0, transport := .rolling, rollFresh := true, locate := none })))) ∧
  (∀ s : State, (¬ Live s ∨ s.agr.transport ≠ .cueing ∨ s.agr.settle ≠ 1) → exec .settleEnd s = .next s) ∧
  (∀ s : State, s.agr.transport ≠ .cueing → settleStep s = s) ∧
  (∀ s : State, s.agr.transport = .cueing →
    (s.agr.settleFresh = true → settleStep s = s.setAgr { s.agr with settleFresh := false }) ∧
    (s.agr.settleFresh = false → settleStep s = s.setAgr { s.agr with settle := s.agr.settle - 1 }) ∧
    (s.agr.settleFresh = false → s.agr.settle = 1 → Live s → exec .settleEnd s = .next (rollStep (settleStep s)))) ∧
  (∀ s : State, (s.agr.transport ≠ .cueing ∨ 0 < s.agr.settle) → rollStep s = s) ∧
  ∀ (s : State) (l : LocateRec), s.agr.transport = .cueing → s.agr.settle = 0 → s.agr.locate = some l →
    (l.thenPlay = false → rollStep s = s.setAgr { s.agr with transport := .stopped, locate := none }) ∧
    (l.thenPlay = true → s.agr.holds ≠ [] → rollStep s = s) ∧
    (l.thenPlay = true → s.agr.holds = [] →
      rollStep s = rollEntry (s.setAgr { s.agr with transport := .rolling, rollFresh := true, locate := none }))

/-- BEACON_DUE (R63) and LINK_ACTIVE (R38, R65): the countdown starts again and a BEACON goes to the queue in place of a waiting one; at the end of the listening period the link is ACTIVE and the join state SETTLED. At a frame edge each count is lowered by 1, and the edge that brings it to 0 does what the event does. Due conditions: log 1; no effect elsewhere: log 2. -/
def Obligations.BeaconAndLinkEvents : Prop :=
  (∀ s : State, Live s → s.agr.beaconCountdown = 1 → ∃ t : State, exec .beaconDue s = .next t ∧
    t.agr = { s.agr with beaconCountdown := s.station.beaconInterval } ∧ t.bus = (offer .beacon false s).2.bus ∧
    t.port = s.port ∧ t.posn = s.posn ∧ t.pass = s.pass ∧ t.ref = s.ref ∧ t.out = s.out ∧ t.log = s.log ∧
    t.cues = s.cues ∧ t.marks = s.marks ∧ t.conf = s.conf ∧ t.plan = s.plan ∧ t.sched = s.sched ∧ t.onset = s.onset ∧
    t.resetnLow = s.resetnLow ∧ t.pending = s.pending) ∧
  (∀ s : State, Live s → s.bus.link = .listening → s.bus.listeningCount = 1 →
    ∃ t : State, exec .linkActive s = .next t ∧
      t.agr = { s.agr with join := .settled, beaconCountdown := s.station.beaconInterval } ∧
      t.bus = { s.bus with link := .active, listeningCount := 0, queue := (admitTo s.bus.queue .beacon false).2 } ∧
      t.port = s.port ∧ t.posn = s.posn ∧ t.pass = s.pass ∧ t.ref = s.ref ∧ t.out = s.out ∧ t.log = s.log ∧
      t.cues = s.cues ∧ t.marks = s.marks ∧ t.conf = s.conf ∧ t.plan = s.plan ∧ t.sched = s.sched ∧
      t.onset = s.onset ∧ t.resetnLow = s.resetnLow ∧ t.pending = s.pending) ∧
  (∀ s : State, (1 < s.agr.beaconCountdown →
      beaconStep s = s.setAgr { s.agr with beaconCountdown := s.agr.beaconCountdown - 1 }) ∧
    (Live s → s.agr.beaconCountdown = 1 → exec .beaconDue s = .next (beaconStep s)) ∧
    (s.bus.link ≠ .listening → listeningStep s = s) ∧
    (s.bus.link = .listening → 1 < s.bus.listeningCount →
      listeningStep s = s.setBus { s.bus with listeningCount := s.bus.listeningCount - 1 }) ∧
    (Live s → s.bus.link = .listening → s.bus.listeningCount = 1 → exec .linkActive s = .next (listeningStep s))) ∧
  (∀ s : State, s.agr.beaconCountdown ≠ 1 → exec .beaconDue s = .next s) ∧
  (∀ s : State, (s.bus.link ≠ .listening ∨ s.bus.listeningCount ≠ 1) → exec .linkActive s = .next s) ∧
  (∀ q : List TxEntry, q.any TxEntry.waitingBeacon = false → q.length < 8 →
    admitTo q .beacon false = (.admitted, q ++ [⟨.beacon, 0, false, false⟩])) ∧
  (∀ q : List TxEntry, q.any TxEntry.waitingBeacon = false → 8 ≤ q.length → admitTo q .beacon false = (.dropped, q)) ∧
  ∀ (before after : List TxEntry) (b : TxEntry), b.waitingBeacon = true → after.any TxEntry.waitingBeacon = false →
    admitTo (before ++ b :: after) .beacon false = (.admitted, before ++ after ++ [⟨.beacon, 0, false, false⟩])

/-- CLOSURE_OFFER (R119, R120, R121): in a duty slot of the station the count moves on and the closing frame is offered, a LOCATE to the earliest next window or an ANCHOR STOPPED without one; outside the closure condition (in each of the four ways in which R119 fails) nothing happens and the count ends. An INTERNAL frame at a link that admits nothing goes without notice (R35); at a full queue one of a class below 3 displaces a waiting BEACON, the newest of several (log 10), or is lost with TX_OVERFLOW (R36). Due condition: log 1; no effect elsewhere: log 2. Inside the condition the test of a frame edge moves the count on in every slot and, in a duty slot, does what CLOSURE_OFFER does (R120). -/
def Obligations.ClosureOffered : Prop :=
  (∀ (s : State) (own : WindowEntry) (k m c j : Nat), Live s → s.agr.transport = .rolling → s.pass.state ≠ .inPass →
    own ∈ s.pass.windows → own.address = s.address →
    (own.passNumber = s.agr.passNumber ∨ own.passNumber = (s.agr.passNumber + 1) % 65536) →
    (∀ w ∈ s.pass.windows, w.passNumber = s.agr.passNumber → w.status ≠ .announced ∧ w.more ≠ some true) →
    m = (s.pass.windows.filter fun w =>
      decide (w.passNumber = s.agr.passNumber ∨ w.passNumber = (s.agr.passNumber + 1) % 65536)).length →
    k = (s.pass.windows.filter fun w =>
      decide ((w.passNumber = s.agr.passNumber ∨ w.passNumber = (s.agr.passNumber + 1) % 65536) ∧
        w.address < s.address)).length →
    c = (match s.pass.closureCount with | none => 0 | some x => min 65535 (x + 1)) →
    c = k * s.station.closureGrace + j * (m * s.station.closureGrace) →
    ((∀ w ∈ s.pass.windows, w.passNumber ≠ (s.agr.passNumber + 1) % 65536) →
      exec .closureOffer s = .next (offerInternal (.anchor false s.posn.rate s.posn.pEdge)
        (s.setPass { s.pass with closureCount := some c }))) ∧
    ∀ w ∈ s.pass.windows, w.passNumber = (s.agr.passNumber + 1) % 65536 →
      (∀ x ∈ s.pass.windows, x.passNumber = (s.agr.passNumber + 1) % 65536 → w.pIn ≤ x.pIn) →
      exec .closureOffer s = .next (offerInternal (.locate true true s.posn.rate s.station.settle
        ((s.agr.passNumber + 1) % 65536) w.pIn) (s.setPass { s.pass with closureCount := some c }))) ∧
  (∀ s : State, (s.agr.transport ≠ .rolling ∨ s.pass.state = .inPass ∨
    (∃ w ∈ s.pass.windows, w.passNumber = s.agr.passNumber ∧ (w.status = .announced ∨ w.more = some true)) ∨
    (∀ w ∈ s.pass.windows, w.address = s.address →
      w.passNumber ≠ s.agr.passNumber ∧ w.passNumber ≠ (s.agr.passNumber + 1) % 65536)) →
    exec .closureOffer s = .next s ∧ closureTest s = s.setPass { s.pass with closureCount := none }) ∧
  (∀ (f : QueuedFrame) (s : State), f.kind = .anchor ∨ f.kind = .locate → s.bus.link.admits = true →
    s.bus.queue.length < 8 →
    offerInternal f s = s.setBus { s.bus with queue := s.bus.queue ++ [⟨f, 0, false, false⟩] }) ∧
  (∀ (f : QueuedFrame) (s : State), s.bus.link.admits = false → offerInternal f s = s) ∧
  (∀ (f : QueuedFrame) (s : State), s.bus.link.admits = true → 8 ≤ s.bus.queue.length → f.kind ≠ .beacon →
    (f.kind = .hold ∨ f.kind = .release → s.bus.queue.any TxEntry.waitingHold = false) →
    (s.bus.queue.any TxEntry.waitingBeacon = false → offerInternal f s = post .txOverflow s.address s) ∧
    ∀ (before after : List TxEntry) (b : TxEntry), s.bus.queue = before ++ b :: after → b.waitingBeacon = true →
      after.any TxEntry.waitingBeacon = false →
      offerInternal f s = s.setBus { s.bus with queue := before ++ after ++ [⟨f, 0, false, false⟩] }) ∧
  ∀ (s : State) (own : WindowEntry) (k m c : Nat), s.agr.transport = .rolling → s.pass.state ≠ .inPass →
    own ∈ s.pass.windows → own.address = s.address →
    (own.passNumber = s.agr.passNumber ∨ own.passNumber = (s.agr.passNumber + 1) % 65536) →
    (∀ w ∈ s.pass.windows, w.passNumber = s.agr.passNumber → w.status ≠ .announced ∧ w.more ≠ some true) →
    m = (s.pass.windows.filter fun w =>
      decide (w.passNumber = s.agr.passNumber ∨ w.passNumber = (s.agr.passNumber + 1) % 65536)).length →
    k = (s.pass.windows.filter fun w =>
      decide ((w.passNumber = s.agr.passNumber ∨ w.passNumber = (s.agr.passNumber + 1) % 65536) ∧
        w.address < s.address)).length →
    c = (match s.pass.closureCount with | none => 0 | some x => min 65535 (x + 1)) →
    (∀ j : Nat, c = k * s.station.closureGrace + j * (m * s.station.closureGrace) → Live s →
      exec .closureOffer s = .next (closureTest s)) ∧
    ((∀ j : Nat, c ≠ k * s.station.closureGrace + j * (m * s.station.closureGrace)) →
      closureTest s = s.setPass { s.pass with closureCount := some c } ∧ exec .closureOffer s = .next s)

/-- Applied ANCHOR and LOCATE frames (R49 to R52, R108, R120, R123, R157): what the station takes from the frame, the position write of R15, the outputs at rest and the closure count ended where ROLLING is left, the pruned window table, the re-locate of a STANDBY station with an earlier window, and the duplicate that changes nothing. That an ANCHOR STOPPED in CUEING stops at its own position follows R49 and R181 against R122, log 31; the mark of a roll just entered is log 29's. That at a ROLLING station the build of a changed rate comes before the stop of an ANCHOR STOPPED, for which R50 gives no order, is the model's choice, log 30. An applied ANCHOR and LOCATE are given whole, as the state they write handed to the roll entry (PassBegins), to the stop (PassClears) or to the pass controller's part of a LOCATE (R114: the label n; R113, R116 by the pass state), and then to the scheduler's request. The outputs at rest are spelled out field by field (R157), and the re-locate in every case (R123). -/
def Obligations.TransportFramesApplied : Prop :=
  (∀ (g r p : Nat) (rolling : Bool) (s : State), s.agr.transport ≠ .rolling →
    (applyAnchor g rolling r p s).posn = ⟨min p s.pMax, min p s.pMax, s.posn.pPrev, 0, clamp 60 240 r⟩ ∧
    (applyAnchor g rolling r p s).agr = { s.agr with
      generation := g, transport := if rolling then .rolling else .stopped, settle := 0, settleFresh := false
      rollFresh := rolling || s.agr.rollFresh, locate := none, join := .settled
      reasons := (applyAnchor g rolling r p s).agr.reasons } ∧
    (applyAnchor g rolling r p s).pass.windows = s.pass.windows ∧
    (s.pass.state = .idle → (applyAnchor g rolling r p s).pass = s.pass ∧ (applyAnchor g rolling r p s).bus = s.bus ∧
      (applyAnchor g rolling r p s).agr.reasons = s.agr.reasons)) ∧
  (∀ (g r p : Nat) (s : State), s.agr.transport = .rolling →
    (applyAnchor g true r p s).posn = { s.posn with rate := clamp 60 240 r } ∧
    (applyAnchor g true r p s).agr = { s.agr with generation := g, join := .settled } ∧
    (applyAnchor g true r p s).out = s.out ∧ (applyAnchor g true r p s).pass = s.pass ∧
    (applyAnchor g true r p s).bus = s.bus) ∧
  (∀ (g r p : Nat) (s : State), s.agr.transport = .rolling →
    (applyAnchor g false r p s).posn = { s.posn with rate := clamp 60 240 r } ∧
    (applyAnchor g false r p s).agr = { s.agr with
      generation := g, join := .settled, transport := .stopped, rollFresh := false } ∧
    (applyAnchor g false r p s).pass.closureCount = none ∧
    (applyAnchor g false r p s).out = restOutputs s.out ∧ (applyAnchor g false r p s).pass.state ≠ .inPass ∧
    (applyAnchor g false r p s).pass.windows = s.pass.windows) ∧
  (∀ (g r st n x : Nat) (closure play : Bool) (s : State),
    (s.agr.transport ≠ .cueing ∨ n ≠ s.agr.passNumber ∨
      (∀ l : LocateRec, s.agr.locate = some l → min x s.pMax < l.target)) →
    (applyLocate g closure play r st n x s).posn = ⟨min x s.pMax, min x s.pMax, s.posn.pPrev, 0, clamp 60 240 r⟩ ∧
    (applyLocate g closure play r st n x s).agr = { s.agr with
      generation := g, transport := .cueing, settle := min st 250, settleFresh := true, passNumber := n
      rollFresh := s.agr.rollFresh && decide (s.agr.transport ≠ .rolling)
      locate := some ⟨min x s.pMax, closure, play⟩, join := .settled } ∧
    (applyLocate g closure play r st n x s).pass.windows =
      s.pass.windows.filter (fun w => decide (w.passNumber = n)) ∧
    (applyLocate g closure play r st n x s).pass.state ≠ .inPass ∧
    (applyLocate g closure play r st n x s).pass.state ≠ .cleared ∧
    (∀ w : OwnWindow, (applyLocate g closure play r st n x s).pass.own = some w → s.pass.state ≠ .idle → w.label = n) ∧
    (s.agr.transport = .rolling → (applyLocate g closure play r st n x s).out = restOutputs s.out ∧
      (applyLocate g closure play r st n x s).pass.closureCount = none) ∧
    (∀ w : OwnWindow, s.pass.state = .standby → s.pass.own = some w →
      (closure = true → w.pIn < min x s.pMax → (applyLocate g closure play r st n x s).bus =
        (offer (.locate true true (clamp 60 240 r) s.station.settle n w.pIn) false s).2.bus) ∧
      ((closure = false ∨ min x s.pMax ≤ w.pIn) → (applyLocate g closure play r st n x s).bus = s.bus) ∧
      (applyLocate g closure play r st n x s).pass.own = some { w with label := n } ∧
      (applyLocate g closure play r st n x s).pass.state = .standby)) ∧
  (∀ (g r st n x : Nat) (closure play : Bool) (l : LocateRec) (s : State), s.agr.transport = .cueing →
    n = s.agr.passNumber → s.agr.locate = some l → l.target ≤ min x s.pMax →
    applyLocate g closure play r st n x s = s) ∧
  (∀ o : OutputUnits, restOutputs o =
    ⟨none, none, 0, 0, .normal, 0, false, false, false, o.buffer, o.shifter, o.lastWord⟩) ∧
  (∀ (g r p : Nat) (rolling : Bool) (s u : State), s.agr.transport ≠ .rolling →
    u = (recomputeAdvances (s.setPosn ⟨min p s.pMax, min p s.pMax, s.posn.pPrev, 0, clamp 60 240 r⟩)).setAgr
      { s.agr with generation := g, join := .settled, settle := 0, settleFresh := false, locate := none } →
    applyAnchor g rolling r p s = requestBuild (if rolling
      then rollEntry (u.setAgr { u.agr with transport := .rolling, rollFresh := true })
      else passStop (u.setAgr { u.agr with transport := .stopped }))) ∧
  (∀ (g r p : Nat) (s u : State), s.agr.transport = .rolling →
    u = (recomputeAdvances (s.setPosn { s.posn with rate := clamp 60 240 r })).setAgr
      { s.agr with generation := g, join := .settled } →
    (clamp 60 240 r = s.posn.rate → applyAnchor g true r p s = u ∧ applyAnchor g false r p s = localStop u) ∧
    (clamp 60 240 r ≠ s.posn.rate → applyAnchor g true r p s = requestBuild u ∧
      applyAnchor g false r p s = localStop (requestBuild u))) ∧
  (∀ (g r st n x : Nat) (closure play : Bool) (s u : State),
    (s.agr.transport ≠ .cueing ∨ n ≠ s.agr.passNumber ∨
      (∀ l : LocateRec, s.agr.locate = some l → min x s.pMax < l.target)) →
    u = (((recomputeAdvances (s.setPosn ⟨min x s.pMax, min x s.pMax, s.posn.pPrev, 0, clamp 60 240 r⟩)).setOut
      (if s.agr.transport = .rolling then restOutputs s.out else s.out)).setPass { s.pass with
        windows := s.pass.windows.filter fun w => decide (w.passNumber = n)
        closureCount := if s.agr.transport = .rolling then none else s.pass.closureCount }).setAgr { s.agr with
        generation := g, transport := .cueing, settle := min st 250, settleFresh := true, passNumber := n
        rollFresh := s.agr.rollFresh && decide (s.agr.transport ≠ .rolling)
        locate := some ⟨min x s.pMax, closure, play⟩, join := .settled } →
    applyLocate g closure play r st n x s =
      requestBuild (if closure then reLocate (min x s.pMax) (passLocate u) else passLocate u)) ∧
  (∀ s : State, passLocate s = match s.pass.state with
    | .inPass => abandonPass s
    | .cleared => (leaveCleared s).setPass { (leaveCleared s).pass with
      own := (leaveCleared s).pass.own.map fun w => { w with label := s.agr.passNumber } }
    | .standby => s.setPass { s.pass with own := s.pass.own.map fun w => { w with label := s.agr.passNumber } }
    | .idle => s) ∧
  (∀ (t : Nat) (s : State), (s.pass.state ≠ .standby ∨ s.pass.own = none ∨
      (∃ w : OwnWindow, s.pass.own = some w ∧ (w.label ≠ s.agr.passNumber ∨ t ≤ w.pIn))) → reLocate t s = s) ∧
  ∀ (t : Nat) (s : State) (w : OwnWindow), s.pass.state = .standby → s.pass.own = some w →
    w.label = s.agr.passNumber → w.pIn < t →
    reLocate t s = offerInternal (.locate true true s.posn.rate s.station.settle s.agr.passNumber w.pIn) s

/-- The hold set (R55, R56, R57) and the own hold (R59): an applied HOLD writes the entry of its address with a lease of at least 1, a RELEASE removes it, step 3 of an edge counts every entry that is not fresh and drops the one that reaches 0, and the own hold is offered or released again where the queue has none on its way. The window table likewise: an applied WINDOW writes the entry of its address (R106), a DONE marks or removes the entry of its pass (R107), and own-entry maintenance offers the WINDOW or DONE that the station's own entry lacks (R109). -/
def Obligations.HoldSetKept : Prop :=
  (∀ (a lease reason : Nat) (s : State), applyHold a lease reason s =
      s.setAgr { s.agr with holds := putHold ⟨a, max 1 lease, reason, true⟩ s.agr.holds } ∧
    holdOf (applyHold a lease reason s).agr.holds a = some ⟨a, max 1 lease, reason, true⟩ ∧
    (∀ b : Nat, b ≠ a → holdOf (applyHold a lease reason s).agr.holds b = holdOf s.agr.holds b) ∧
    (TablesOrdered s → TablesOrdered (applyHold a lease reason s))) ∧
  (∀ (a : Nat) (s : State),
    applyRelease a s = s.setAgr { s.agr with holds := s.agr.holds.filter fun h => decide (h.address ≠ a) } ∧
    holdOf (applyRelease a s).agr.holds a = none ∧
    ∀ b : Nat, b ≠ a → holdOf (applyRelease a s).agr.holds b = holdOf s.agr.holds b) ∧
  (∀ (s : State) (a : Nat) (h : HoldEntry), TablesOrdered s → holdOf s.agr.holds a = some h →
    (h.fresh = true → holdOf (countLeases s).agr.holds a = some { h with fresh := false }) ∧
    (h.fresh = false → 1 < h.lease → holdOf (countLeases s).agr.holds a = some { h with lease := h.lease - 1 }) ∧
    (h.fresh = false → h.lease ≤ 1 → holdOf (countLeases s).agr.holds a = none)) ∧
  (∀ s : State, (countLeases s).agr = { s.agr with holds := (countLeases s).agr.holds } ∧
    (∀ h ∈ (countLeases s).agr.holds, h.fresh = false) ∧
    ((∃ h ∈ s.agr.holds, h.address = s.address ∧ h.fresh = false ∧ h.lease ≤ 1) →
      (countLeases s).port = (post .holdExpired s.address s).port) ∧
    ((∀ h ∈ s.agr.holds, h.address = s.address → h.fresh = true ∨ 1 < h.lease) → (countLeases s).port = s.port)) ∧
  (∀ s : State, s.agr.reasons.any = true → s.queued .hold = false →
    (∀ h : HoldEntry, holdOf s.agr.holds s.address = some h → h.lease ≤ s.station.holdLease / 2) →
    ownHoldMaintenance s = offerInternal (.hold s.station.holdLease s.agr.reasons.lowest) s) ∧
  (∀ (s : State) (h : HoldEntry), s.agr.reasons.any = false → holdOf s.agr.holds s.address = some h →
    s.queued .hold = false → s.queued .release = false → ownHoldMaintenance s = offerInternal .release s) ∧
  (∀ s : State, ((s.agr.reasons.any = true ∧ (s.queued .hold = true ∨
      ∃ h : HoldEntry, holdOf s.agr.holds s.address = some h ∧ s.station.holdLease / 2 < h.lease)) ∨
    (s.agr.reasons.any = false ∧ (holdOf s.agr.holds s.address = none ∨ s.queued .hold = true ∨
      s.queued .release = true))) → ownHoldMaintenance s = s) ∧
  (∀ (a n c i o : Nat) (s : State),
    applyWindow a n c i o s = s.setPass { s.pass with windows := (applyWindow a n c i o s).pass.windows } ∧
    windowOf (applyWindow a n c i o s).pass.windows a = some ⟨a, n, c, min i s.pMax, min o s.pMax, .announced, none⟩ ∧
    (∀ b : Nat, b ≠ a → windowOf (applyWindow a n c i o s).pass.windows b = windowOf s.pass.windows b) ∧
    (TablesOrdered s → TablesOrdered (applyWindow a n c i o s))) ∧
  (∀ (a n : Nat) (oc : DoneOutcome) (more : Bool) (s : State),
    (windowOf s.pass.windows a = none ∨ (∃ w : WindowEntry, windowOf s.pass.windows a = some w ∧ w.passNumber ≠ n)) →
    applyDone a n oc more s = s) ∧
  (∀ (a n : Nat) (oc : DoneOutcome) (more : Bool) (w : WindowEntry) (s : State), windowOf s.pass.windows a = some w →
    w.passNumber = n →
    applyDone a n oc more s = s.setPass { s.pass with windows := (applyDone a n oc more s).pass.windows } ∧
    (oc = .cleared → windowOf (applyDone a n oc more s).pass.windows a =
      some { w with status := .cleared, more := some more }) ∧
    (oc = .skipped → windowOf (applyDone a n oc more s).pass.windows a =
      some { w with status := .skipped, more := some more }) ∧
    (oc = .abandoned → windowOf (applyDone a n oc more s).pass.windows a = none) ∧
    (∀ b : Nat, b ≠ a → windowOf (applyDone a n oc more s).pass.windows b = windowOf s.pass.windows b)) ∧
  (∀ (s : State) (w : OwnWindow), s.pass.own = some w →
    ((windowOf s.pass.windows s.address).map WindowEntry.passNumber ≠ some w.label → s.queued .window = false →
      ownEntryMaintenance s = offerInternal (.window w.label w.firstCue w.pIn w.pOut) s) ∧
    ((windowOf s.pass.windows s.address).map WindowEntry.passNumber = some w.label ∨ s.queued .window = true →
      ownEntryMaintenance s = s)) ∧
  (∀ (s : State) (e : WindowEntry), s.pass.own = none → windowOf s.pass.windows s.address = some e →
    s.queued .done = false →
    (s.pass.state = .cleared → e.passNumber = s.agr.passNumber → e.status = .announced →
      ownEntryMaintenance s = offerInternal (.done s.agr.passNumber .cleared false) s) ∧
    (s.pass.state = .idle → (e.status = .announced ∨ e.more = some true) →
      ownEntryMaintenance s = offerInternal (.done e.passNumber .abandoned false) s) ∧
    (s.pass.state = .cleared → (e.passNumber ≠ s.agr.passNumber ∨ e.status ≠ .announced) → ownEntryMaintenance s = s) ∧
    (s.pass.state = .idle → e.status ≠ .announced → e.more ≠ some true → ownEntryMaintenance s = s)) ∧
  ∀ s : State, s.pass.own = none → (windowOf s.pass.windows s.address = none ∨ s.queued .done = true) →
    ownEntryMaintenance s = s

/-- Presence and beacons (R60, R62, R64, R65, R66, R108): the slot and the notice by the table of R62, the record of the beacon, the entry that an IDLE beacon clears, the adoption of a joining station, and the slip check of a settled one. In which take a slip lands is log 30: the take that the edge found IN_PROGRESS, or else the one begun at this edge; that a rejoin by another frame than a BEACON keeps the old beacon record is log 39. The presence update leaves every other slot and entry alone. An adoption is given whole: the state it writes handed, where the stage is ROLLING, to the roll entry (PassBegins), and then to the scheduler's request; a CUEING beacon, or any beacon outside LISTENING, is not adopted and is judged no further at a WAITING station (R65, R66). That an adoption clears the settle count, its mark and the locate record is the model's choice, log 22; the mark of a roll just entered, set by a ROLLING adoption and cleared by a STOPPED one, is the model's own, log 29. -/
def Obligations.PresenceAndBeacons : Prop :=
  (∀ (f : BusFrame) (s : State), 1 ≤ f.source → f.source ≤ 30 → f.kind ≠ .beacon →
    (presenceUpdate f s).agr.slot f.source = ⟨if (s.agr.slot f.source).presence = .absent then .present
      else (s.agr.slot f.source).presence, 0, (s.agr.slot f.source).lastBeacon⟩ ∧
    (presenceUpdate f s).port = (if (s.agr.slot f.source).presence = .absent then post .peerJoined f.source s else s).port ∧
    (presenceUpdate f s).pass = s.pass ∧ (presenceUpdate f s).agr.holds = s.agr.holds) ∧
  (∀ (f : BusFrame) (s : State), 1 ≤ f.source → f.source ≤ 30 → f.kind = .beacon →
    f.rateCode = s.timing.frameRate.code →
    (presenceUpdate f s).agr.slot f.source = ⟨.present, 0, (s.agr.slot f.source).lastBeacon⟩ ∧
    (presenceUpdate f s).port = (if (s.agr.slot f.source).presence = .present then s else post .peerJoined f.source s).port ∧
    (presenceUpdate f s).pass = s.pass ∧ (presenceUpdate f s).agr.holds = s.agr.holds) ∧
  (∀ (f : BusFrame) (s : State), 1 ≤ f.source → f.source ≤ 30 → f.kind = .beacon →
    f.rateCode ≠ s.timing.frameRate.code →
    (presenceUpdate f s).agr.slot f.source = ⟨.mismatched, 0, (s.agr.slot f.source).lastBeacon⟩ ∧
    (presenceUpdate f s).port =
      (if (s.agr.slot f.source).presence = .mismatched then s else post .peerMismatch f.source s).port ∧
    ((s.agr.slot f.source).presence ≠ .mismatched →
      holdOf (presenceUpdate f s).agr.holds f.source = none ∧ windowOf (presenceUpdate f s).pass.windows f.source = none)) ∧
  (∀ (k : SlipRef) (a rc g n r p : Nat) (t : Transport) (ps : PassState) (s : State), 1 ≤ a → a ≤ 30 →
    (s.agr.slot a).presence = .present → s.bus.link = .listening → s.agr.join = .waiting → t ≠ .cueing →
    (applyBeacon k a rc t ps g n r p s).agr.transport = t ∧ (applyBeacon k a rc t ps g n r p s).agr.generation = g ∧
    (applyBeacon k a rc t ps g n r p s).agr.passNumber = n ∧ (applyBeacon k a rc t ps g n r p s).agr.join = .settled ∧
    (applyBeacon k a rc t ps g n r p s).agr.slot a = ⟨.present, (s.agr.slot a).age,
      some ⟨rc, t, g, n, ps, clamp 60 240 r, min p s.pMax⟩⟩ ∧
    (t = .rolling → (applyBeacon k a rc t ps g n r p s).posn = ⟨min (min p s.pMax + clamp 60 240 r) s.pMax,
      min (min p s.pMax + clamp 60 240 r) s.pMax, s.posn.pPrev, 0, clamp 60 240 r⟩) ∧
    (t = .stopped → (applyBeacon k a rc t ps g n r p s).posn =
      ⟨min p s.pMax, min p s.pMax, s.posn.pPrev, 0, clamp 60 240 r⟩)) ∧
  (∀ (k : SlipRef) (a rc g n r p : Nat) (t : Transport) (ps : PassState) (s : State), 1 ≤ a → a ≤ 30 →
    (s.agr.slot a).presence = .present → s.agr.join = .settled →
    (applyBeacon k a rc t ps g n r p s).posn = s.posn ∧
    (applyBeacon k a rc t ps g n r p s).agr = { s.agr with peers := (applyBeacon k a rc t ps g n r p s).agr.peers } ∧
    (g = k.generation →
      ((min p s.pMax ≤ k.pEdge + s.station.slipTolerance ∧ k.pEdge ≤ min p s.pMax + s.station.slipTolerance) ∨
        (min p s.pMax ≤ k.pPrev + s.station.slipTolerance ∧ k.pPrev ≤ min p s.pMax + s.station.slipTolerance)) →
      (applyBeacon k a rc t ps g n r p s).port = s.port ∧ (applyBeacon k a rc t ps g n r p s).log = s.log) ∧
    ((g ≠ k.generation ∨
      ((k.pEdge + s.station.slipTolerance < min p s.pMax ∨ min p s.pMax + s.station.slipTolerance < k.pEdge) ∧
        (k.pPrev + s.station.slipTolerance < min p s.pMax ∨ min p s.pMax + s.station.slipTolerance < k.pPrev))) →
      (applyBeacon k a rc t ps g n r p s).port = (post .slip a s).port ∧
      (k.take = none → k.counter = s.log.counter →
        (applyBeacon k a rc t ps g n r p s).log = (flagSyncSuspect s).log) ∧
      ∀ m : Nat, (k.take = some m ∨ (k.take = none ∧ k.counter ≠ s.log.counter ∧ m = s.log.counter)) → (applyBeacon k a rc t ps g n r p s).log = ⟨s.log.records.map (fun x =>
        if x.number = m then { x with flags := { x.flags with syncSuspect := true } } else x), s.log.counter⟩)) ∧
  (∀ (k : SlipRef) (a rc g n r p : Nat) (t : Transport) (ps : PassState) (s : State), 1 ≤ a → a ≤ 30 →
    (s.agr.slot a).presence = .present → s.agr.join = .settled →
    (∀ w : WindowEntry, ps = .idle → windowOf s.pass.windows a = some w → w.status = .announced →
      (applyBeacon k a rc t ps g n r p s).pass = { s.pass with windows := s.pass.windows.map fun x =>
        if x.address = a ∧ x.passNumber = w.passNumber then { x with status := .cleared, more := some false } else x }) ∧
    ((ps ≠ .idle ∨ windowOf s.pass.windows a = none ∨
      (∃ w : WindowEntry, windowOf s.pass.windows a = some w ∧ w.status ≠ .announced)) →
      (applyBeacon k a rc t ps g n r p s).pass = s.pass)) ∧
  (∀ (k : SlipRef) (a rc g n r p : Nat) (t : Transport) (ps : PassState) (s : State), 1 ≤ a → a ≤ 30 →
    (s.agr.slot a).presence = .mismatched → applyBeacon k a rc t ps g n r p s = s.setSlot a
      ⟨.mismatched, (s.agr.slot a).age, some ⟨rc, t, g, n, ps, clamp 60 240 r, min p s.pMax⟩⟩) ∧
  (∀ (f : BusFrame) (s : State), (∀ b : Nat, b ≠ f.source → (presenceUpdate f s).agr.slot b = s.agr.slot b) ∧
    (presenceUpdate f s).agr = { s.agr with
      peers := (presenceUpdate f s).agr.peers, holds := (presenceUpdate f s).agr.holds } ∧
    (∀ b : Nat, b ≠ f.source → holdOf (presenceUpdate f s).agr.holds b = holdOf s.agr.holds b ∧
      windowOf (presenceUpdate f s).pass.windows b = windowOf s.pass.windows b) ∧
    (presenceUpdate f s).pass = { s.pass with windows := (presenceUpdate f s).pass.windows } ∧
    (presenceUpdate f s).posn = s.posn ∧ (presenceUpdate f s).bus = s.bus ∧ (presenceUpdate f s).log = s.log ∧
    (presenceUpdate f s).sched = s.sched ∧ (presenceUpdate f s).out = s.out) ∧
  (∀ (a : Nat) (s : State), ((windowOf s.pass.windows a = none ∨
      (∃ w : WindowEntry, windowOf s.pass.windows a = some w ∧ w.status ≠ .announced)) → idleBeacon a s = s) ∧
    ∀ w : WindowEntry, windowOf s.pass.windows a = some w → w.status = .announced →
      idleBeacon a s = s.setPass { s.pass with windows := s.pass.windows.map fun x =>
        if x.address = a ∧ x.passNumber = w.passNumber then { x with status := .cleared, more := some false } else x }) ∧
  (∀ (k : SlipRef) (a rc g n r p : Nat) (t : Transport) (ps : PassState) (s u v : State),
    (s.agr.slot a).presence = .present → s.agr.join = .waiting →
    u = s.setSlot a ⟨.present, (s.agr.slot a).age, some ⟨rc, t, g, n, ps, clamp 60 240 r, min p s.pMax⟩⟩ →
    v = (if ps = .idle then idleBeacon a u else u) →
    ((t = .cueing ∨ s.bus.link ≠ .listening) → applyBeacon k a rc t ps g n r p s = v) ∧
    (s.bus.link = .listening → t = .rolling → applyBeacon k a rc t ps g n r p s = requestBuild (rollEntry
      ((recomputeAdvances (v.setPosn ⟨min (min p s.pMax + clamp 60 240 r) s.pMax,
        min (min p s.pMax + clamp 60 240 r) s.pMax, v.posn.pPrev, 0, clamp 60 240 r⟩)).setAgr { v.agr with
          generation := g, join := .settled, passNumber := n, settle := 0, settleFresh := false, locate := none
          transport := .rolling, rollFresh := true }))) ∧
    (s.bus.link = .listening → t = .stopped → applyBeacon k a rc t ps g n r p s = requestBuild
      ((recomputeAdvances (v.setPosn ⟨min p s.pMax, min p s.pMax, v.posn.pPrev, 0, clamp 60 240 r⟩)).setAgr { v.agr with
          generation := g, join := .settled, passNumber := n, settle := 0, settleFresh := false, locate := none
          transport := .stopped, rollFresh := false }))) ∧
  ∀ (k : SlipRef) (a rc g n r p : Nat) (t : Transport) (ps : PassState) (s : State),
    (s.agr.slot a).presence = .absent → applyBeacon k a rc t ps g n r p s = s

/-- A roll entry at the pass controller (R110, R111, R169, R173): the begin with its new record, the skip for want of a slot, the station that does not begin, and the states that take no action. What a refused LOG_FULL HOLD posts at the begin that fills the log stands before PASS_BEGUN by the model's choice, log 40, and TAKE_SKIPPED before what the refused frames of a skip post, log 42. The begin is a request (R110, R134, R137): the list is built against the position of the entry, and the new take carries LATE_EVENTS exactly where a kept event fires behind it (R136). The record that fills the log offers a HOLD with reason LOG_FULL where no reason stood (R58, R173). -/
def Obligations.PassBegins : Prop :=
  (∀ (s : State) (w : OwnWindow), s.pass.state = .standby → s.pass.own = some w → w.label = s.agr.passNumber →
    s.bus.link = .active → s.log.records.length < 16 → ∃ r : TakeRec,
      (rollEntry s).pass = { s.pass with state := .inPass } ∧
      (rollEntry s).log = ⟨(rollEntry s).log.records, nextTake s.log.counter⟩ ∧
      (s.log.openCount = 0 → (rollEntry s).log.records = s.log.records ++ [r]) ∧
      (rollEntry s).log.records.getLast? = some r ∧ r.number = nextTake s.log.counter ∧
      r.passNumber = s.agr.passNumber ∧ r.stepIndex = w.stepIndex ∧ r.mode = w.mode ∧ r.outcome = .inProgress ∧
      r.punchIn = none ∧ r.punchOut = none ∧ r.flags = ⟨false, false, false, r.flags.lateEvents⟩ ∧
      r.cues = ((s.sched.held.map HeldSet.cues).getD w.set).map (fun id => ⟨id, none, false, false⟩) ∧
      (s.log.records.length < 15 → (rollEntry s).agr = s.agr ∧ (rollEntry s).bus = s.bus ∧
        (rollEntry s).port = (post .passBegun (nextTake s.log.counter) s).port) ∧
      (s.log.records.length = 15 → (rollEntry s).agr = { s.agr with
        reasons := { s.agr.reasons with logFull := true } } ∧
        (s.agr.reasons = ⟨false, false, false⟩ →
          (rollEntry s).bus = (offer (.hold s.station.holdLease 2) false s).2.bus ∧ (rollEntry s).port =
            (post .passBegun (nextTake s.log.counter) (offerInternal (.hold s.station.holdLease 2) s)).port) ∧
        (s.agr.reasons ≠ ⟨false, false, false⟩ → (rollEntry s).bus = s.bus ∧
          (rollEntry s).port = (post .passBegun (nextTake s.log.counter) s).port)) ∧
      (∀ h : HeldSet, s.sched.held = some h → (rollEntry s).sched = { s.sched with
          events := keptEvents (heldEvents s h) s.sched.fired s.posn.p } ∧
        (r.flags.lateEvents = true ↔
          ∃ e ∈ keptEvents (heldEvents s h) s.sched.fired s.posn.p, e.fire < s.posn.p)) ∧
      (s.sched.held = none → (rollEntry s).sched = { s.sched with events := [] } ∧ r.flags.lateEvents = false) ∧
      (rollEntry s).posn = s.posn ∧ (rollEntry s).out = s.out ∧ (rollEntry s).cues = s.cues ∧
      (rollEntry s).plan = s.plan ∧ (rollEntry s).ref = s.ref ∧ (rollEntry s).conf = s.conf ∧
      (rollEntry s).marks = s.marks ∧ (rollEntry s).onset = s.onset ∧ (rollEntry s).pending = s.pending ∧
      (rollEntry s).resetnLow = s.resetnLow) ∧
  (∀ (s : State) (w : OwnWindow), s.pass.state = .standby → s.pass.own = some w → w.label = s.agr.passNumber →
    s.bus.link = .active → 16 ≤ s.log.records.length →
      (rollEntry s).pass = { s.pass with own := some { w with label := (s.agr.passNumber + 1) % 65536 } } ∧
      (rollEntry s).sched = { s.sched with events := [], fired := [] } ∧
      (rollEntry s).bus = (offer (.window ((s.agr.passNumber + 1) % 65536) w.firstCue w.pIn w.pOut) false
        (offer (.done s.agr.passNumber .skipped true) false s).2).2.bus ∧
      (s.bus.queue.length ≤ 6 → (rollEntry s).port = (post .takeSkipped w.firstCue s).port) ∧
      (rollEntry s).port = (offerInternal (.window ((s.agr.passNumber + 1) % 65536) w.firstCue w.pIn w.pOut)
        (offerInternal (.done s.agr.passNumber .skipped true) (post .takeSkipped w.firstCue s))).port ∧
      (rollEntry s).log = s.log ∧ (rollEntry s).plan = s.plan ∧ (rollEntry s).agr = s.agr ∧
      (rollEntry s).posn = s.posn ∧ (rollEntry s).cues = s.cues ∧ (rollEntry s).out = s.out) ∧
  (∀ (s : State) (w : OwnWindow), s.pass.state = .standby → s.pass.own = some w →
    (w.label ≠ s.agr.passNumber ∨ s.bus.link ≠ .active) →
      rollEntry s = (s.setSched { s.sched with events := [], fired := [] }).setPass { s.pass with
        own := some (if w.label = s.agr.passNumber then { w with label := (s.agr.passNumber + 1) % 65536 } else w) }) ∧
  (∀ s : State, s.pass.state ≠ .standby → rollEntry s = s) ∧
  (∀ n : Nat, n ≠ 65535 → nextTake n = n + 1) ∧ nextTake 65535 = 1

/-- The end of a pass. An abandonment (R116, R99): the take closed ABANDONED with PASS_ABANDONED and with NO_ONSET on the entries of the windows that were open without an onset (R165), the outputs at rest, and the same step prepared again and announced. The clearing test of a frame edge (R112, R171): IN_PASS with an empty list at or beyond P_out closes the take COMPLETE, posts PASS_CLEARED and TAKE_READY, and offers DONE with the plan's answer; anything else leaves the state alone. The onset windows are closed by then, as R165 says of a clearing. An answer of the plan unit is given whole: *advance* (R98), *again* (R99), a step whose first cue has gone (PLAN_SKIP, then the search of PlanSkipPrepares), and with none both an abandonment (R116) and a clearing (R112) post PLAN_END (R102). CLEARED is left for STANDBY with the record under outcome MORE, and for IDLE without a record under NONE (R113, R115). That the notices of the pass controller stand before those of the plan unit and the bus controller in one event, and PLAN_END before the TX_OVERFLOW of a refused DONE, is the model's choice, log 42. A preparation at an abandonment builds the list at once while the transport is STOPPED or CUEING, with an empty fired record, and leaves it empty while ROLLING (R104, R116, R134, R137), flagging no take, since none is IN_PROGRESS any more (R136); one at a clearing leaves it empty, since the pass state is CLEARED (R134). -/
def Obligations.PassClears : Prop :=
  (∀ s : State, (s.pass.state ≠ .inPass ∨ s.sched.events ≠ [] ∨
    (∀ w : OwnWindow, s.pass.own = some w → s.posn.p < w.pOut)) → clearingTest s = s) ∧
  (∀ (s : State) (w : OwnWindow) (i first run passes : Nat) (mode : StepMode) (set : List Nat) (pm : PassMode),
    s.pass.state = .inPass → s.pass.own = some w → s.plan.cursor = some i →
    s.plan.steps[i]? = some (.cue first run passes mode) → (∃ c ∈ s.cues, c.id = first) →
    set = activeSet s.cues first run → pm = passMode mode passes s.plan.passesRemaining →
    (abandonPass s).pass = { s.pass with state := .standby, own := some ⟨labelNow s, i, pm, set, set.headD 0,
      windowIn s set, windowOut s set⟩ } ∧ (abandonPass s).plan = s.plan ∧
    (abandonPass s).cues = s.cues.map (fun c => { c with pinned := set.contains c.id }) ∧
    (abandonPass s).sched = { s.sched with held := some ⟨set, pm⟩, fired := [], events :=
      if s.agr.transport = .rolling then [] else keptEvents (heldEvents s ⟨set, pm⟩) [] s.posn.p } ∧
    (abandonPass s).ref = s.ref ∧ (abandonPass s).conf = s.conf ∧ (abandonPass s).marks = s.marks ∧
    (abandonPass s).pending = s.pending ∧ (abandonPass s).resetnLow = s.resetnLow ∧
    (abandonPass s).out = restOutputs s.out ∧ (abandonPass s).onset.openWindows = [] ∧
    (abandonPass s).log.openCount = 0 ∧ (abandonPass s).agr = s.agr ∧ (abandonPass s).posn = s.posn ∧
    (abandonPass s).bus = (offer (.window (labelNow s) (set.headD 0) (windowIn s set) (windowOut s set)) false s).2.bus ∧
    ∀ (before : List TakeRec) (r : TakeRec), s.log.records = before ++ [r] → r.outcome = .inProgress →
      (∀ x ∈ before, x.outcome ≠ .inProgress) →
      (abandonPass s).log = ⟨before ++ [{ r with outcome := .abandoned, cues := r.cues.map fun c =>
        if c.cue ∈ s.onset.openWindows ∧ (∀ x ∈ r.cues, x.cue = c.cue → x.onset = none) then { c with noOnset := true }
        else c }], s.log.counter⟩ ∧
      (s.port.notices.length < 16 →
        s.port.notices ++ [⟨.passAbandoned, r.number⟩] <+: (abandonPass s).port.notices)) ∧
  (∀ s : State, passStop s = match s.pass.state with
    | .inPass => abandonPass s
    | .cleared => leaveCleared s
    | .standby => s
    | .idle => s) ∧
  (∀ (s : State) (w : OwnWindow) (r : TakeRec) (before : List TakeRec), s.pass.state = .inPass →
    s.sched.events = [] → s.pass.own = some w → w.pOut ≤ s.posn.p → s.onset.openWindows = [] →
    s.log.records = before ++ [r] → r.outcome = .inProgress → (∀ x ∈ before, x.outcome ≠ .inProgress) →
    (clearingTest s).pass.state = .cleared ∧
    (clearingTest s).log = ⟨before ++ [{ r with outcome := .complete }], s.log.counter⟩ ∧
    (clearingTest s).agr = s.agr ∧ (clearingTest s).posn = s.posn ∧ (clearingTest s).out = s.out ∧
    (s.port.notices.length < 15 → s.port.notices ++ [⟨.passCleared, r.number⟩, ⟨.takeReady, r.number⟩] <+:
      (clearingTest s).port.notices) ∧
    ((clearingTest s).pass.outcome = some .none → (clearingTest s).pass.own = none ∧
      (clearingTest s).sched.held = none ∧ (∀ c ∈ (clearingTest s).cues, c.pinned = false) ∧
      (clearingTest s).plan.cursor = none ∧
      (clearingTest s).bus = (offer (.done s.agr.passNumber .cleared false) false s).2.bus) ∧
    ((clearingTest s).pass.outcome ≠ some .none → ∃ (x : OwnWindow) (i : Nat),
      (clearingTest s).pass = ⟨.cleared, some .more, some x, s.pass.windows, s.pass.closureCount⟩ ∧
      (clearingTest s).plan.cursor = some i ∧ x.stepIndex = i ∧
      (s.agr.transport = .rolling → x.label = (s.agr.passNumber + 1) % 65536 ∧ (clearingTest s).sched.events = []) ∧
      (clearingTest s).sched.held = some ⟨x.set, x.mode⟩ ∧
      (clearingTest s).cues = s.cues.map (fun c => { c with pinned := x.set.contains c.id }) ∧
      (clearingTest s).bus = (offer (.window x.label x.firstCue x.pIn x.pOut) false
        (offer (.done s.agr.passNumber .cleared true) false s).2).2.bus) ∧
    (∀ i : Nat, s.plan.cursor = some i → 1 < s.plan.passesRemaining → stepCuePresent s i = true →
      (clearingTest s).pass.outcome = some .more ∧
      (clearingTest s).plan = { s.plan with passesRemaining := s.plan.passesRemaining - 1 })) ∧
  (∀ s : State, (s.pass.outcome = some .more →
      leaveCleared s = s.setPass { s.pass with state := .standby, outcome := none }) ∧
    (s.pass.outcome ≠ some .more →
      leaveCleared s = s.setPass { s.pass with state := .idle, outcome := none, own := none })) ∧
  (∀ s : State, s.plan.cursor = none → planAdvance s = (s, none) ∧ planAgain s = (s, none)) ∧
  (∀ (s : State) (i : Nat), s.plan.cursor = some i →
    (1 < s.plan.passesRemaining →
      planAdvance s = planAgain (s.setPlan { s.plan with passesRemaining := s.plan.passesRemaining - 1 })) ∧
    (s.plan.passesRemaining ≤ 1 → planAdvance s = planGiveUp s)) ∧
  (∀ (s : State) (i first run passes : Nat) (mode : StepMode), s.plan.cursor = some i →
    s.plan.steps[i]? = some (.cue first run passes mode) →
    ((∃ c ∈ s.cues, c.id = first) → planAgain s =
      (s, some ⟨activeSet s.cues first run, passMode mode passes s.plan.passesRemaining, i⟩)) ∧
    ((∀ c ∈ s.cues, c.id ≠ first) → planAgain s = planGiveUp (post .planSkip first s))) ∧
  (∀ (s u v : State) (w : OwnWindow) (r : TakeRec) (before : List TakeRec), s.pass.own = some w →
    s.onset.openWindows = [] → s.log.records = before ++ [r] → r.outcome = .inProgress →
    (∀ x ∈ before, x.outcome ≠ .inProgress) →
    u = ((post .passAbandoned r.number (s.setLog ⟨before ++ [{ r with outcome := .abandoned }], s.log.counter⟩)).setOut
      (restOutputs s.out)).setSched { s.sched with events := [], fired := [] } →
    (planAgain u = (v, none) → (abandonPass s).plan = v.plan ∧
      (abandonPass s).pass = { s.pass with state := .idle, outcome := none, own := none } ∧
      (abandonPass s).cues = s.cues.map (fun c => { c with pinned := false }) ∧
      (abandonPass s).sched = { s.sched with held := none, events := [], fired := [] } ∧
      (abandonPass s).log = u.log ∧ (abandonPass s).out = u.out ∧
      (abandonPass s).bus = (offer (.done w.label .abandoned false) false s).2.bus ∧
      (abandonPass s).port = (offerInternal (.done w.label .abandoned false) (post .planEnd 0 v)).port) ∧
    ∀ a : PlanAnswer, planAgain u = (v, some a) → (abandonPass s).plan = v.plan ∧
      (abandonPass s).pass = { s.pass with state := .standby, own := some ⟨labelNow s, a.stepIndex, a.mode, a.set,
        a.set.headD 0, windowIn s a.set, windowOut s a.set⟩ } ∧
      (abandonPass s).cues = s.cues.map (fun c => { c with pinned := a.set.contains c.id }) ∧
      (abandonPass s).sched = { s.sched with held := some ⟨a.set, a.mode⟩, fired := [], events :=
        if s.agr.transport = .rolling then [] else keptEvents (heldEvents s ⟨a.set, a.mode⟩) [] s.posn.p } ∧
      (abandonPass s).log = u.log ∧ (abandonPass s).out = u.out ∧
      (abandonPass s).port = (offerInternal (.window (labelNow s) (a.set.headD 0) (windowIn s a.set)
        (windowOut s a.set)) v).port) ∧
  ∀ (s u v : State) (w : OwnWindow) (r : TakeRec) (before : List TakeRec), s.pass.state = .inPass →
    s.sched.events = [] → s.pass.own = some w → w.pOut ≤ s.posn.p → s.onset.openWindows = [] →
    s.log.records = before ++ [r] → r.outcome = .inProgress → (∀ x ∈ before, x.outcome ≠ .inProgress) →
    u = post .takeReady r.number (post .passCleared r.number
      (s.setLog ⟨before ++ [{ r with outcome := .complete }], s.log.counter⟩)) →
    (planAdvance u = (v, none) → (clearingTest s).plan = v.plan ∧
      (clearingTest s).sched = { s.sched with held := none, events := [], fired := [] } ∧
      (clearingTest s).pass = { s.pass with state := .cleared, outcome := some .none, own := none } ∧
      (clearingTest s).port =
        (offerInternal (.done s.agr.passNumber .cleared false) (post .planEnd 0 v)).port) ∧
    ∀ a : PlanAnswer, planAdvance u = (v, some a) → (clearingTest s).plan = v.plan ∧
      (clearingTest s).sched = { s.sched with held := some ⟨a.set, a.mode⟩, fired := [], events := [] } ∧
      (clearingTest s).pass = { s.pass with state := .cleared, outcome := some .more, own := some ⟨labelNow s,
        a.stepIndex, a.mode, a.set, a.set.headD 0, windowIn s a.set, windowOut s a.set⟩ } ∧
      (clearingTest s).port = (offerInternal (.window (labelNow s) (a.set.headD 0) (windowIn s a.set)
        (windowOut s a.set)) (offerInternal (.done s.agr.passNumber .cleared true) v)).port

/-! ## The event list and the outputs -/

/-- The events of a cue (R126, R127, R129, R130, R131): exactly the rows that the cue calls for, each once, with a fire position at or below the event position, and every closing event after its opening event. That a closing event is raised past its opening event also where that one has already fired is the model's choice, log 17. -/
def Obligations.CueEventsBuilt : Prop :=
  (∀ (c : Scheduler) (d : DefaultsRec) (o : OutputsRec) (pMax order : Nat) (cue : CueRec) (mode : PassMode),
    CueInRange cue d o pMax →
    (∀ e ∈ cueEvents c d o pMax order cue mode, e.cue = cue.id ∧ e.order = order ∧ rowOf d o pMax cue mode e ∧
      e.fire ≤ e.pos ∧ e.pos - c.advanceOf e.kind ≤ e.fire ∧
      (e.kind.opening = none → e.fire = e.pos - c.advanceOf e.kind)) ∧
    (∀ (k : EventKind) (pip : Option Nat) (pos : Nat), rowOf d o pMax cue mode ⟨cue.id, order, k, pip, pos, 0⟩ →
      ∃ e ∈ cueEvents c d o pMax order cue mode, e.kind = k ∧ e.pip = pip ∧ e.pos = pos) ∧
    ((cueEvents c d o pMax order cue mode).map Event.identity).Nodup ∧
    2 ≤ (cueEvents c d o pMax order cue mode).length ∧ (cueEvents c d o pMax order cue mode).length ≤ 14 ∧
    ∀ a ∈ cueEvents c d o pMax order cue mode, ∀ b ∈ cueEvents c d o pMax order cue mode,
      b.kind.opening = some a.kind → b.pip = a.pip → a.fire < b.fire ∧
        b.fire = max (b.pos - c.advanceOf b.kind) (a.fire + 1)) ∧
  (∀ s : State, (recomputeAdvances s).sched = { s.sched with
    advOverlay := (s.outputs.advOverlay * s.posn.rate + 60) / 120
    advPip := (s.outputs.advPip * s.posn.rate + 60) / 120
    advPunchIn := (s.outputs.advPunchIn * s.posn.rate + 60) / 120
    advPunchOut := (s.outputs.advPunchOut * s.posn.rate + 60) / 120 }) ∧
  (∀ a r : Nat, a ≤ 1200 → r ≤ 240 → effectiveAdvance a r ≤ 2400) ∧ ∀ a : Nat, effectiveAdvance a 120 = a

/-- A request and a build (R132, R134, R135, R136): the list of an armed set holds, in order, exactly the events that are neither fired, nor behind the position, nor closing for an opening event that was dropped; a set that is not armed has an empty list. The events of a held set are those of each of its cues that the table holds, with its place in the set and the set's mode (R126). The order is spelled out key by key (R132): fire position, kind, set order, and of two pips the higher number first, with the place of every kind. -/
def Obligations.EventListBuilt : Prop :=
  (∀ (all : List Event) (fired : List EventId) (p : Nat),
    (∀ e : Event, e ∈ keptEvents all fired p ↔ e ∈ all ∧ e.identity ∉ fired ∧ p ≤ e.pos ∧
      ¬ ∃ x ∈ all, e.kind.opening = some x.kind ∧ x.cue = e.cue ∧ x.pip = e.pip ∧ x.pos < p ∧ x.identity ∉ fired) ∧
    (keptEvents all fired p).Pairwise fun a b => b.before a = false) ∧
  (∀ (s : State) (h : HeldSet), s.sched.held = some h → armed s = true →
    (requestBuild s).sched = { s.sched with events := keptEvents (heldEvents s h) s.sched.fired s.posn.p } ∧
    ((∃ e ∈ keptEvents (heldEvents s h) s.sched.fired s.posn.p, e.fire < s.posn.p) →
      (requestBuild s).log = (flagLateEvents s).log) ∧
    ((∀ e ∈ keptEvents (heldEvents s h) s.sched.fired s.posn.p, s.posn.p ≤ e.fire) → (requestBuild s).log = s.log)) ∧
  (∀ s : State, armed s = false → requestBuild s = s.setSched { s.sched with events := [] }) ∧
  (∀ s : State, armed s = true ↔ s.sched.held.isSome = true ∧ (s.pass.state = .inPass ∨
    (s.pass.state = .standby ∧ (∃ w : OwnWindow, s.pass.own = some w ∧ w.label = s.agr.passNumber) ∧
      s.agr.transport ≠ .rolling))) ∧
  (∀ (s : State) (h : HeldSet) (e : Event), e ∈ heldEvents s h ↔ ∃ (place id : Nat) (cue : CueRec),
    h.cues[place]? = some id ∧ findCue s.cues id = some cue ∧
    e ∈ cueEvents s.sched s.defaults s.outputs s.pMax place cue h.mode) ∧
  (∀ (s : State) (h : HeldSet) (ids more : List Nat) (id : Nat) (cue : CueRec), h.cues = ids ++ id :: more →
    findCue s.cues id = some cue → ∃ before after : List Event, heldEvents s h =
      before ++ cueEvents s.sched s.defaults s.outputs s.pMax ids.length cue h.mode ++ after) ∧
  (∀ (all : List Event) (fired : List EventId) (p : Nat), (keptEvents all fired p).Perm (all.filter fun e =>
    decide (e ∈ keptEvents all fired p))) ∧
  (∀ e x : Event, e.before x = true ↔ e.fire < x.fire ∨ (e.fire = x.fire ∧ (e.kind.rank < x.kind.rank ∨
    (e.kind.rank = x.kind.rank ∧ (e.order < x.order ∨ (e.order = x.order ∧ x.pip.getD 0 < e.pip.getD 0)))))) ∧
  [EventKind.punchOut, .lineEnd, .flashOff, .pipOff, .streamerBegin, .pipOn, .flashOn, .punchIn].map EventKind.rank =
    (List.range 8).map (· + 1)

/-- A group (R141, R142, R148, R149, R153 to R156): from an ordered list every event that the position has reached leaves for the fired record, and the others stay; a group is the effects of its events in list order, on the state with list and fired record updated, and the lines are settled once after them (R142, R154, R155). The effect of each kind is given as such, and for a group of one event; a group leaves settled lines. A flag or a field of the take goes into the record IN_PROGRESS and into no other, and nowhere where none is (R170): REF_UNSTABLE (R13), RX_OVERRUN (R47), SYNC_SUSPECT (R66), LATE_EVENTS (R136), the punches (R156) and the entries of a cue. What the closing of an onset window at LINE_END does is spelled out in LevelSampleJudged. -/
def Obligations.GroupFires : Prop :=
  (∀ s : State, EventsOrdered s →
    (fireGroup s).sched = { s.sched with
      events := s.sched.events.filter (fun e => decide (s.posn.p < e.fire))
      fired := s.sched.fired ++ (s.sched.events.filter fun e => decide (e.fire ≤ s.posn.p)).map Event.identity } ∧
    (LinesSettled s.out → LinesSettled (fireGroup s).out)) ∧
  (∀ s : State, (∀ e ∈ s.sched.events, s.posn.p < e.fire) → fireGroup s = s) ∧
  (∀ (s : State) (e : Event) (rest : List Event) (cue : CueRec), s.sched.events = e :: rest → e.fire ≤ s.posn.p →
    (∀ x ∈ rest, s.posn.p < x.fire) → LinesSettled s.out → findCue s.cues e.cue = some cue →
    (e.kind = .streamerBegin → s.out.laneA = none →
      (fireGroup s).out = { s.out with laneA := some ⟨e.cue, e.pos, cue.s⟩ } ∧ (fireGroup s).log = s.log) ∧
    (e.kind = .streamerBegin → s.out.laneA.isSome = true → s.out.laneB = none →
      (fireGroup s).out = { s.out with laneB := some ⟨e.cue, e.pos, cue.s⟩ } ∧ (fireGroup s).log = s.log) ∧
    (e.kind = .streamerBegin → s.out.laneA.isSome = true → s.out.laneB.isSome = true → (fireGroup s).out = s.out ∧
      (fireGroup s).log = (writeTakeCue e.cue (fun c => { c with overlap := true }) s).log) ∧
    (e.kind = .pipOn → (fireGroup s).out = { s.out with
      pipCount := s.out.pipCount + 1, pipg := true
      pitch := if s.outputs.accentLast = true ∧ e.pip = some (if cue.silentLast then 1 else 0) then .accent else .normal
      pipp := s.outputs.accentLast && decide (e.pip = some (if cue.silentLast then 1 else 0)) }) ∧
    (e.kind = .pipOff → s.out.pipCount = 1 → (fireGroup s).out = { s.out with
      pipCount := 0, pipg := false, pipp := false, pitch := .normal }) ∧
    (e.kind = .pipOff → 1 < s.out.pipCount → (fireGroup s).out = { s.out with pipCount := s.out.pipCount - 1 }) ∧
    (e.kind = .flashOn → (fireGroup s).out = { s.out with
      laneA := s.out.laneA.filter (fun l => decide (l.cue ≠ e.cue))
      laneB := s.out.laneB.filter (fun l => decide (l.cue ≠ e.cue))
      flashCount := if cue.noFlash then s.out.flashCount else s.out.flashCount + 1 }) ∧
    (e.kind = .flashOff → (fireGroup s).out = { s.out with flashCount := s.out.flashCount - 1 }) ∧
    (e.kind = .punchIn → (fireGroup s).out = { s.out with punchCount := s.out.punchCount + 1, punch := true } ∧
      (fireGroup s).log = (writeTake (fun r => { r with
        punchIn := some (r.punchIn.getD (min (s.posn.p + s.sched.advPunchIn) s.pMax)) }) s).log) ∧
    (e.kind = .punchOut → (fireGroup s).out = { s.out with
        punchCount := s.out.punchCount - 1, punch := decide (1 < s.out.punchCount) } ∧
      (fireGroup s).log = (writeTake (fun r => { r with
        punchOut := some (min (s.posn.p + s.sched.advPunchOut) s.pMax) }) s).log) ∧
    (e.kind = .lineEnd → (fireGroup s).out = s.out ∧ e.cue ∉ (fireGroup s).onset.openWindows ∧
      (fireGroup s).onset = (closeWindow e.cue s).onset ∧ (fireGroup s).log = (closeWindow e.cue s).log) ∧
    (fireGroup s).posn = s.posn ∧ (fireGroup s).agr = s.agr ∧ (fireGroup s).pass = s.pass ∧
    (fireGroup s).cues = s.cues ∧ (fireGroup s).bus = s.bus ∧ (fireGroup s).port = s.port) ∧
  (∀ (s u : State) (due : List Event), EventsOrdered s → due = s.sched.events.filter (fun e => decide (e.fire ≤ s.posn.p)) →
    due ≠ [] → u = due.foldl fireEvent (s.setSched { s.sched with
      events := s.sched.events.filter (fun e => decide (s.posn.p < e.fire))
      fired := s.sched.fired ++ due.map Event.identity }) →
    fireGroup s = u.setOut { u.out with
      pipg := decide (0 < u.out.pipCount), pipp := decide (0 < u.out.pipCount) && decide (u.out.pitch = .accent)
      pitch := if u.out.pipCount = 0 then .normal else u.out.pitch, punch := decide (0 < u.out.punchCount) }) ∧
  (∀ (s : State) (e : Event) (cue : CueRec), findCue s.cues e.cue = some cue →
    (e.kind = .streamerBegin →
      (s.out.laneA = none → fireEvent s e = s.setOut { s.out with laneA := some ⟨e.cue, e.pos, cue.s⟩ }) ∧
      (s.out.laneA.isSome = true → s.out.laneB = none →
        fireEvent s e = s.setOut { s.out with laneB := some ⟨e.cue, e.pos, cue.s⟩ }) ∧
      (s.out.laneA.isSome = true → s.out.laneB.isSome = true →
        fireEvent s e = writeTakeCue e.cue (fun c => { c with overlap := true }) s)) ∧
    (e.kind = .pipOn → fireEvent s e = s.setOut { s.out with
      pipCount := s.out.pipCount + 1
      pitch := if s.outputs.accentLast = true ∧ e.pip = some (if cue.silentLast then 1 else 0) then .accent else .normal }) ∧
    (e.kind = .flashOn → fireEvent s e = s.setOut { s.out with
      laneA := s.out.laneA.filter (fun l => decide (l.cue ≠ e.cue))
      laneB := s.out.laneB.filter (fun l => decide (l.cue ≠ e.cue))
      flashCount := if cue.noFlash then s.out.flashCount else s.out.flashCount + 1 })) ∧
  (∀ (s : State) (e : Event),
    (e.kind = .pipOff → fireEvent s e = s.setOut { s.out with pipCount := s.out.pipCount - 1 }) ∧
    (e.kind = .flashOff → fireEvent s e = s.setOut { s.out with flashCount := s.out.flashCount - 1 }) ∧
    (e.kind = .punchIn → fireEvent s e = writeTake (fun r => { r with
        punchIn := some (r.punchIn.getD (min (s.posn.p + s.sched.advPunchIn) s.pMax)) })
      (s.setOut { s.out with punchCount := s.out.punchCount + 1 })) ∧
    (e.kind = .punchOut → fireEvent s e = writeTake (fun r => { r with
        punchOut := some (min (s.posn.p + s.sched.advPunchOut) s.pMax) })
      (s.setOut { s.out with punchCount := s.out.punchCount - 1 })) ∧
    (e.kind = .lineEnd → fireEvent s e = closeWindow e.cue s)) ∧
  (∀ (f : TakeRec → TakeRec) (s : State), writeTake f s = s.setLog ⟨s.log.records.map fun r =>
      if r.outcome = .inProgress then f r else r, s.log.counter⟩ ∧
    ((∀ r ∈ s.log.records, r.outcome ≠ .inProgress) → writeTake f s = s) ∧
    ∀ (before after : List TakeRec) (r : TakeRec), s.log.records = before ++ r :: after → r.outcome = .inProgress →
      (∀ x ∈ before ++ after, x.outcome ≠ .inProgress) →
      writeTake f s = s.setLog ⟨before ++ f r :: after, s.log.counter⟩) ∧
  (∀ (cue : Nat) (f : TakeCue → TakeCue) (s : State), writeTakeCue cue f s = writeTake (fun r => { r with
    cues := r.cues.map fun c => if c.cue = cue then f c else c }) s) ∧
  ∀ s : State,
    flagRefUnstable s = writeTake (fun r => { r with flags := { r.flags with refUnstable := true } }) s ∧
    flagRxOverrun s = writeTake (fun r => { r with flags := { r.flags with rxOverrun := true } }) s ∧
    flagSyncSuspect s = writeTake (fun r => { r with flags := { r.flags with syncSuspect := true } }) s ∧
    flagLateEvents s = writeTake (fun r => { r with flags := { r.flags with lateEvents := true } }) s

/-- The overlay word (R150 to R152, R158): each field of the word composed from a state is spelled out: the column of a free and of a held lane, flash, punch tally and pip gate, the label cue with its countdown and tag, transport and take. The overlay port (R160) and the layout of its word (R202): OVSYNC takes the buffered word into an IDLE shifter, OVCLK brings out its 65 bits one by one, the marker first, and the shifter is IDLE with OVDAT low after the last. -/
def Obligations.OverlayShiftsWord : Prop :=
  (∀ (s : State) (w : OverlayWord), s.resetnLow = false → s.out.shifter = .idle → s.out.buffer = some w →
    exec .ovsync s = .next (s.setOut { s.out with shifter := .shifting w 0, buffer := none })) ∧
  (∀ s : State, (s.resetnLow = true ∨ s.out.shifter ≠ .idle ∨ s.out.buffer = none) → exec .ovsync s = .next s) ∧
  (∀ s : State, s.out.shifter = .idle → exec .ovclk s = .next s ∧ s.out.ovdat = false) ∧
  (∀ (s : State) (w : OverlayWord) (k : Nat), s.resetnLow = false → s.out.shifter = .shifting w 0 → k < 65 →
    ∃ b : Bool, w.wire[k]? = some b ∧
      runCommands (List.replicate k .ovclk) s = .next (s.setOut { s.out with shifter := .shifting w k }) ∧
      (s.setOut { s.out with shifter := .shifting w k }).out.ovdat = b) ∧
  (∀ (s : State) (w : OverlayWord), s.resetnLow = false → s.out.shifter = .shifting w 0 →
    runCommands (List.replicate 65 .ovclk) s = .next (s.setOut { s.out with shifter := .idle })) ∧
  (∀ s : State, (overlayWord s).flash = decide (0 < s.out.flashCount) ∧ (overlayWord s).punchTally = s.out.punch ∧
    (overlayWord s).pipGate = s.out.pipg ∧ (overlayWord s).transport = s.agr.transport ∧
    (overlayWord s).take = s.log.counter % 128 ∧ (s.out.laneA = none → (overlayWord s).laneA = 4095) ∧
    (s.out.laneB = none → (overlayWord s).laneB = 4095)) ∧
  (∀ (s : State) (l : Lane) (q w column : Nat), l.b < l.s → q = s.posn.p + s.sched.advOverlay →
    w = s.outputs.overlayWidth → column = (if q ≤ l.b then 0 else if l.s ≤ q then w - 1 else w * (q - l.b) / (l.s - l.b)) →
    (s.out.laneA = some l → (overlayWord s).laneA = column) ∧ (s.out.laneB = some l → (overlayWord s).laneB = column)) ∧
  (∀ s : State, (∀ e ∈ s.sched.events, e.kind ≠ .lineEnd) →
    (overlayWord s).label = 0 ∧ (overlayWord s).countdown = 0 ∧ (overlayWord s).tag = 0) ∧
  (∀ (s : State) (e : Event) (cue : CueRec) (q : Nat), e ∈ s.sched.events → e.kind = .lineEnd →
    (∀ x ∈ s.sched.events, x.kind = .lineEnd → x = e ∨ e.order < x.order) → findCue s.cues e.cue = some cue →
    q = s.posn.p + s.sched.advOverlay →
    (overlayWord s).label = e.cue ∧ (overlayWord s).tag = cue.tag ∧
    (q < cue.s → (overlayWord s).countdown = min 255 ((cue.s - q + 119) / 120)) ∧
    (cue.s ≤ q → (overlayWord s).countdown = 0)) ∧
  ∀ w : OverlayWord, w.wire.length = 65 ∧ w.wire.head? = some true ∧
    (w.laneA < 4096 → bitsNum ((w.wire.drop 1).take 12) = w.laneA) ∧
    (w.laneB < 4096 → bitsNum ((w.wire.drop 13).take 12) = w.laneB) ∧
    (w.wire.drop 25).take 3 = [w.flash, w.punchTally, w.pipGate] ∧
    (w.countdown < 256 → bitsNum ((w.wire.drop 28).take 8) = w.countdown) ∧
    (w.label < 65536 → bitsNum ((w.wire.drop 36).take 16) = w.label) ∧
    (w.tag < 16 → bitsNum ((w.wire.drop 52).take 4) = w.tag) ∧
    bitsNum ((w.wire.drop 56).take 2) = w.transport.code ∧
    (w.take < 128 → bitsNum ((w.wire.drop 58).take 7) = w.take)

/-- The onset windows (R164, R165): at an advance in IN_PASS the window of every held cue opens whose opening position is reached and whose LINE_END stands in the list, and the first one to open takes an IDLE detector to WAITING_QUIET; a window that closes leaves NO_ONSET on its cue's entry unless an onset is credited there, and the last one leaves the detector IDLE. LEVEL_SAMPLE (R163, R166, R167): eight bits after LVSYNC make a sample, which CONFIG ignores and RUNNING judges by the state of the detector; a trigger writes the onset of the open cue of lowest set order that has none. That the command carries the pulses of the level port, also those of a part of a sample, is the model's choice, log 27. What a write into a cue's entry of the take touches is spelled out in GroupFires. Pulses act one after another, so several samples in one command do what the commands of each do in turn; bits that go on with a sample begun in an earlier command do what they do behind their LVSYNC and the bits taken in; an LVSYNC within a sample discards the part, and bits beyond the eighth are ignored (R163). -/
def Obligations.LevelSampleJudged : Prop :=
  (∀ (s : State) (bits : List Bool), s.resetnLow = false → bits.length < 8 →
    exec (.levelSample (.sync :: bits.map .clock)) s = .next (s.setOnset { s.onset with sample := some bits.reverse })) ∧
  (∀ (s : State) (b : Bool), s.onset.sample = none → exec (.levelSample [.clock b]) s = .next s) ∧
  (∀ (s : State) (bits : List Bool), s.resetnLow = false → bits.length = 8 →
    (s.port.part = .config ∨ s.onset.detector = .idle ∨
      (s.onset.detector = .waitingQuiet ∧ s.onsetRec.armLevel < bitsNum bits) ∨
      (s.onset.detector = .armed ∧ bitsNum bits < s.onsetRec.triggerLevel) ∨
      (s.onset.detector = .armed ∧ ∀ id ∈ s.onset.openWindows, credited s id = true)) →
    exec (.levelSample (.sync :: bits.map .clock)) s = .next (s.setOnset { s.onset with sample := none })) ∧
  (∀ (s : State) (bits : List Bool), Live s → bits.length = 8 → s.onset.detector = .waitingQuiet →
    bitsNum bits ≤ s.onsetRec.armLevel → exec (.levelSample (.sync :: bits.map .clock)) s =
      .next (s.setOnset { s.onset with sample := none, detector := .armed })) ∧
  (∀ (s : State) (bits : List Bool) (before after : List Nat) (id : Nat) (cue : CueRec), Live s → bits.length = 8 →
    s.onset.detector = .armed → s.onsetRec.triggerLevel ≤ bitsNum bits →
    s.onset.openWindows = before ++ id :: after → (∀ x ∈ before, credited s x = true) → credited s id = false →
    findCue s.cues id = some cue →
    exec (.levelSample (.sync :: bits.map .clock)) s = .next (writeTakeCue id (fun c => { c with
      onset := some (((s.posn.p - s.onsetRec.levelDelay : Nat) : Int) - (cue.s : Int)) })
      (s.setOnset { s.onset with sample := none, detector := .waitingQuiet }))) ∧
  (∀ s : State, (s.pass.state ≠ .inPass ∨ s.sched.held = none) → openWindows s = s) ∧
  (∀ (s : State) (h : HeldSet), s.pass.state = .inPass → s.sched.held = some h → s.onset.openWindows.Sublist h.cues →
    ∃ (w : List Nat) (d : DetectorState),
      openWindows s = s.setOnset { s.onset with openWindows := w, detector := d } ∧ w.Sublist h.cues ∧
      (∀ id : Nat, id ∈ w ↔ id ∈ s.onset.openWindows ∨ (id ∈ h.cues ∧ ∃ c : CueRec, findCue s.cues id = some c ∧
        c.s - s.onsetRec.onsetEarly * 120 ≤ s.posn.p ∧ ∃ e ∈ s.sched.events, e.cue = id ∧ e.kind = .lineEnd)) ∧
      ((∃ id ∈ w, id ∉ s.onset.openWindows) → s.onset.detector = .idle → d = .waitingQuiet) ∧
      ((∀ id ∈ w, id ∈ s.onset.openWindows) ∨ s.onset.detector ≠ .idle → d = s.onset.detector)) ∧
  (∀ (s : State) (id : Nat), id ∉ s.onset.openWindows → closeWindow id s = s) ∧
  (∀ (s : State) (id : Nat) (left : List Nat), id ∈ s.onset.openWindows →
    left = s.onset.openWindows.filter (fun x => decide (x ≠ id)) →
    (closeWindow id s).onset = { s.onset with
      openWindows := left, detector := if left = [] then .idle else s.onset.detector } ∧
    (credited s id = true → (closeWindow id s).log = s.log) ∧
    (credited s id = false → (closeWindow id s).log = (writeTakeCue id (fun c => { c with noOnset := true }) s).log)) ∧
  (∀ (s : State) (id : Nat), credited s id = true ↔ ∃ r : TakeRec,
    (s.log.records.find? fun x => decide (x.outcome = .inProgress)) = some r ∧
      ∃ c ∈ r.cues, c.cue = id ∧ c.onset.isSome = true) ∧
  (∀ b7 b6 b5 b4 b3 b2 b1 b0 : Bool, bitsNum [b7, b6, b5, b4, b3, b2, b1, b0] =
    128 * b7.toNat + 64 * b6.toNat + 32 * b5.toNat + 16 * b4.toNat + 8 * b3.toNat + 4 * b2.toNat + 2 * b1.toNat + b0.toNat) ∧
  (∀ (s t : State) (first more : List LevelPulse), exec (.levelSample first) s = .next t →
    exec (.levelSample (first ++ more)) s = exec (.levelSample more) t) ∧
  (∀ (s : State) (begun more : List Bool), s.onset.sample = some begun.reverse → begun.length < 8 →
    exec (.levelSample (more.map .clock)) s = exec (.levelSample (.sync :: (begun ++ more).map .clock)) s) ∧
  (∀ (s : State) (cut : List Bool) (more : List LevelPulse), cut.length < 8 →
    exec (.levelSample (.sync :: (cut.map .clock ++ .sync :: more))) s = exec (.levelSample (.sync :: more)) s) ∧
  (∀ (s : State) (bits beyond : List Bool), bits.length = 8 →
    exec (.levelSample (.sync :: (bits ++ beyond).map .clock)) s = exec (.levelSample (.sync :: bits.map .clock)) s) ∧
  ∀ (s : State) (pulses : List LevelPulse), (s.resetnLow = true ∨ pulses = []) → exec (.levelSample pulses) s = .next s

/-! ## The stage bus -/

/-- TRANSMIT_START (R30, R54, R63), BIT_ERROR (R31) and ARBITRATION_LOSS (R32): the oldest entry of the lowest class goes on an idle line with the fields of its attempt; a bit error brings the abort of 8 dominant bits, retries the entry twice and then drops it with LINK_FAULT; a lost contention leaves it waiting with its count. A frame of another station that completes in the bits after the lost bit or the bit in error is handled like any other (R28), after the LINK_FAULT of the same event (log 42). TXD carries the frame and the abort in ACTIVE and in a BUS_ECHO test, and nothing elsewhere (R37). The bits judged are operands, log 8; that an attempt begins in one event and ends in another is log 20; that an event whose conditions fail changes nothing is log 2. Any frame that is neither a transport frame nor a BEACON goes out with its queued fields. The bits that carry the contention mark are the eight of the precedence byte and the stuff bits inside it (R25, R32); that a stuff bit directly after its last bit carries none is the model's choice, log 9. The RELEASE that has taken the place of a HOLD is sent like any other, as R35 says and against R58, log 44. -/
def Obligations.AttemptsOnTheLine : Prop :=
  (∀ (s : State) (line : List Bool) (before after : List TxEntry) (e : TxEntry), s.resetnLow = false →
    s.bus.link = .active → s.bus.sending = none → runRx s.bus.rx line = (⟨10, none⟩, []) →
    s.bus.abort ≤ line.length →
    s.bus.queue = before ++ e :: after → (∀ x ∈ before, e.frame.kind.cls < x.frame.kind.cls) →
    (∀ x ∈ after, e.frame.kind.cls ≤ x.frame.kind.cls) →
    exec (.transmitStart line) s = .next (s.setBus { s.bus with
      queue := before ++ { e with onLine := true } :: after
      sending := some ((attemptPayload s e.frame).frame s.address), rx := ⟨10, none⟩, abort := 0 })) ∧
  (∀ (s : State) (line : List Bool), (s.resetnLow = true ∨ s.bus.link ≠ .active ∨ s.bus.sending.isSome = true ∨ s.bus.queue = [] ∨
    (runRx s.bus.rx line).1.lineIdle = false ∨ line.length < s.bus.abort) → exec (.transmitStart line) s = .next s) ∧
  (∀ (s : State) (rolling : Bool) (r p : Nat),
    attemptPayload s (.anchor rolling r p) = .anchor ((s.agr.generation + 1) % 256) rolling r p) ∧
  (∀ (s : State) (closure play : Bool) (r st n x : Nat), attemptPayload s (.locate closure play r st n x) =
    .locate ((s.agr.generation + 1) % 256) closure play r st n x) ∧
  (∀ (s : State) (n c i o lease reason : Nat) (oc : DoneOutcome) (more : Bool),
    attemptPayload s (.hold lease reason) = .hold lease reason ∧ attemptPayload s .release = .release ∧
    attemptPayload s (.window n c i o) = .window n c i o ∧ attemptPayload s (.done n oc more) = .done n oc more) ∧
  (∀ s : State, attemptPayload s .beacon = .beacon s.timing.frameRate.code s.agr.transport s.pass.state
    s.agr.generation s.agr.passNumber s.posn.rate s.posn.pEdge) ∧
  (∀ (s : State) (f : BusFrame) (line more : List Bool) (before after : List TxEntry) (e : TxEntry), s.resetnLow = false →
    s.bus.sending = some f → s.bus.lineTest = none → judgeTx f.txBits line = .bitError →
    afterDifference f.txBits line = more → s.bus.queue = before ++ e :: after → e.onLine = true → (∀ x ∈ before ++ after, x.onLine = false) →
    (e.retries < 2 → exec (.bitError line) s = .next (received (runRx ⟨0, none⟩ more).2 (s.setBus { s.bus with
      queue := before ++ { e with onLine := false, retries := e.retries + 1 } :: after
      sending := none, rx := (runRx ⟨0, none⟩ more).1, abort := 8 - more.length }))) ∧
    (2 ≤ e.retries → exec (.bitError line) s = .next (received (runRx ⟨0, none⟩ more).2
      (post .linkFault s.address (s.setBus { s.bus with
        queue := before ++ after, sending := none, rx := (runRx ⟨0, none⟩ more).1, abort := 8 - more.length }))))) ∧
  (∀ (s : State) (f : BusFrame) (line : List Bool) (before after : List TxEntry) (e : TxEntry), s.resetnLow = false →
    s.bus.sending = some f → s.bus.lineTest = none → judgeTx f.txBits line = .lost →
    s.bus.queue = before ++ e :: after → e.onLine = true → (∀ x ∈ before ++ after, x.onLine = false) →
    exec (.arbitrationLoss line) s = .next (received (runRx s.bus.rx line).2 (s.setBus { s.bus with
      queue := before ++ { e with onLine := false } :: after, sending := none, rx := (runRx s.bus.rx line).1 }))) ∧
  (∀ (s : State) (f : BusFrame) (more : List RxOutcome), received [] s = s ∧
    received (.discard :: more) s = received more s ∧
    received (.complete f :: more) s = received more (foreignFrame f s)) ∧
  (∀ (f : BusFrame) (sent rest : List TxBit) (x : TxBit) (more : List Bool), f.txBits = sent ++ x :: rest →
    judgeTx f.txBits (sent.map TxBit.level ++ (!x.level) :: more) =
      (if x.contention = true ∧ x.level = true then .lost else .bitError) ∧
    afterDifference f.txBits (sent.map TxBit.level ++ (!x.level) :: more) = more) ∧
  (∀ f : BusFrame, judgeTx f.txBits f.lineBits = .complete) ∧
  (∀ (s : State) (line : List Bool), (s.bus.sending = none ∨ s.resetnLow = true) →
    exec (.bitError line) s = .next s ∧ exec (.arbitrationLoss line) s = .next s) ∧
  (∀ (s : State) (f : BusFrame) (line : List Bool), s.bus.sending = some f → s.bus.lineTest = none →
    (judgeTx f.txBits line ≠ .bitError → exec (.bitError line) s = .next s) ∧
    (judgeTx f.txBits line ≠ .lost → exec (.arbitrationLoss line) s = .next s)) ∧
  (∀ (f : BusFrame) (sent rest : List TxBit) (x : TxBit), f.txBits = sent ++ x :: rest →
    judgeTx f.txBits (sent.map TxBit.level) = .unfinished) ∧
  (∀ s : State, (s.bus.link = .active ∨ (s.bus.link = .lineTest ∧
      ∃ t : LineTest, s.bus.lineTest = some t ∧ t.mode = .busEcho)) →
    (∀ f : BusFrame, s.bus.sending = some f → s.driven = f.lineBits ∧ s.txd = false) ∧
    (s.bus.sending = none → s.driven = List.replicate s.bus.abort false ∧ s.txd = decide (s.bus.abort = 0))) ∧
  (∀ s : State, s.bus.link ≠ .active → (s.bus.link ≠ .lineTest ∨
      (∀ t : LineTest, s.bus.lineTest = some t → t.mode = .internal)) → s.driven = [] ∧ s.txd = true) ∧
  (∀ f : BusFrame, f.txBits = ⟨false, false⟩ :: stuff false 1
    ((byteBits (BitVec.ofNat 8 (f.kind.cls * 32 + f.source))).map (fun b => ⟨b, true⟩) ++
      (f.dataBits.drop 8).map (fun b => ⟨b, false⟩)) ++ List.replicate 8 ⟨true, false⟩) ∧
  (∀ (last : Bool) (run : Nat) (x : TxBit) (rest : List TxBit), stuff last run [] = [] ∧
    (x.level = last → run ≠ 4 → stuff last run (x :: rest) = x :: stuff last (run + 1) rest) ∧
    (x.level ≠ last → stuff last run (x :: rest) = x :: stuff x.level 1 rest) ∧
    (x.level = last → run = 4 → stuff last run (x :: rest) = x :: ⟨!last,
      match rest with | [] => false | y :: _ => y.contention⟩ :: stuff (!last) 1 rest)) ∧
  ∀ f : BusFrame, ∃ marked others : List TxBit, f.txBits = ⟨false, false⟩ :: marked ++ others ∧
    (∀ x ∈ marked, x.contention = true) ∧ (∀ x ∈ others, x.contention = false) ∧
    (marked.length = 8 ∨ marked.length = 9)

/-- FRAME_COMPLETE (R28, R34, R39, R40, R47) and FRAME_DISCARD (R27): the echo leaves the queue and goes to the pending list with its mark; another station's frame goes there at its completion, also one that ends in the bits after the own frame; a full list loses it with RX_OVERRUN; a frame with the own address is a clash, after which the link is LISTEN_ONLY and the join state SETTLED (R65); a TEST frame and a discarded one leave no trace but the receiver's, and in a BUS_ECHO test every frame of another station is dropped, and the test ends at once where its wait runs out in the bits (R43). That the bits read are operands is log 8, that an event whose conditions fail changes nothing is log 2, that the bits of another station's frame count into the wait of a line test is log 24, that a test whose frames are judged ends with its abort is log 37, and that the listening count stands after a clash is log 41. What RX_OVERRUN writes is spelled out in GroupFires. -/
def Obligations.FramesHandedOn : Prop :=
  (∀ (s : State) (f : BusFrame), s.resetnLow = false → s.bus.sending = some f → s.bus.lineTest = none →
    exec (.frameComplete f.lineBits) s = .next (handOn f true (s.setBus { s.bus with
      queue := s.bus.queue.filter fun e => !e.onLine, sending := none, rx := ⟨8, none⟩ }))) ∧
  (∀ (s : State) (f : BusFrame) (after : List Bool), s.resetnLow = false → s.bus.sending = some f →
    s.bus.lineTest = none → exec (.frameComplete (f.lineBits ++ after)) s = .next (received (runRx ⟨8, none⟩ after).2
      (handOn f true (s.setBus { s.bus with
        queue := s.bus.queue.filter fun e => !e.onLine, sending := none, rx := (runRx ⟨8, none⟩ after).1 })))) ∧
  (∀ (s : State) (line : List Bool) (f : BusFrame), s.resetnLow = false → s.bus.sending = none →
    s.bus.lineTest = none → s.bus.link.handsOn = true → .complete f ∈ (runRx s.bus.rx line).2 →
    exec (.frameComplete line) s = .next (received (runRx s.bus.rx line).2 (s.setBus { s.bus with
      rx := (runRx s.bus.rx line).1, abort := s.bus.abort - line.length }))) ∧
  (∀ (s : State) (f : BusFrame), (s.bus.link.handsOn = false → foreignFrame f s = s) ∧
    (f.kind = .test → foreignFrame f s = s) ∧
    (s.bus.link.handsOn = true → f.kind ≠ .test → f.source ≠ s.address → foreignFrame f s = handOn f false s) ∧
    (s.bus.link.handsOn = true → f.kind ≠ .test → f.source = s.address → s.bus.link ≠ .listenOnly →
      foreignFrame f s = post .addressClash s.address ((s.setBus { s.bus with
        link := .listenOnly, queue := [] }).setAgr { s.agr with join := .settled })) ∧
    (f.source = s.address → s.bus.link = .listenOnly → foreignFrame f s = s)) ∧
  (∀ (s : State) (f : BusFrame) (echo : Bool), s.agr.frames.length < 32 →
    handOn f echo s = s.setAgr { s.agr with frames := s.agr.frames ++ [⟨f, echo⟩] }) ∧
  (∀ (s : State) (f : BusFrame) (echo : Bool), 32 ≤ s.agr.frames.length →
    handOn f echo s = flagRxOverrun (post .rxOverrun f.source s)) ∧
  (∀ (s : State) (f : BusFrame), s.resetnLow = false → s.bus.sending = none → s.bus.lineTest = none →
    s.bus.rx = ⟨10, none⟩ → s.bus.link.handsOn = true → f.payload.length = f.kind.payloadBytes →
    sourceFits f.kind f.source = true →
    (f.kind ≠ .test → f.source ≠ s.address → exec (.frameComplete f.lineBits) s =
      .next (handOn f false (s.setBus { s.bus with
      rx := ⟨8, none⟩, abort := s.bus.abort - f.lineBits.length }))) ∧
    (f.kind = .test → exec (.frameComplete f.lineBits) s = .next (s.setBus { s.bus with
      rx := ⟨8, none⟩, abort := s.bus.abort - f.lineBits.length })) ∧
    (f.kind ≠ .test → f.source = s.address → s.bus.link ≠ .listenOnly → exec (.frameComplete f.lineBits) s =
      .next (post .addressClash s.address ((s.setBus { s.bus with
        link := .listenOnly, queue := [], rx := ⟨8, none⟩, abort := s.bus.abort - f.lineBits.length }).setAgr
        { s.agr with join := .settled }))) ∧
    (f.kind ≠ .test → f.source = s.address → s.bus.link = .listenOnly →
      exec (.frameComplete f.lineBits) s = .next (s.setBus { s.bus with
      rx := ⟨8, none⟩, abort := s.bus.abort - f.lineBits.length }))) ∧
  (∀ (s : State) (line : List Bool), s.resetnLow = false → s.bus.sending = none →
    s.bus.lineTest = none → s.bus.link.handsOn = true → (runRx s.bus.rx line).2 ≠ [] →
    (∀ o ∈ (runRx s.bus.rx line).2, o = .discard) →
    exec (.frameDiscard line) s = .next (s.setBus { s.bus with
      rx := (runRx s.bus.rx line).1, abort := s.bus.abort - line.length })) ∧
  (∀ (s : State) (t : LineTest) (line : List Bool) (c : Instr), s.resetnLow = false →
    s.bus.sending = none → s.bus.link = .lineTest → s.bus.lineTest = some t → t.mode = .busEcho →
    ((c = .frameComplete line ∧ ∃ f : BusFrame, .complete f ∈ (runRx s.bus.rx line).2) ∨
      (c = .frameDiscard line ∧ (runRx s.bus.rx line).2 ≠ [] ∧ ∀ o ∈ (runRx s.bus.rx line).2, o = .discard)) →
    (∀ w : Nat, t.next ≤ t.count → idleWait s.bus.rx t.waited line = some w → exec c s = .next (s.setBus { s.bus with
      rx := (runRx s.bus.rx line).1, abort := s.bus.abort - line.length, lineTest := some { t with waited := w } })) ∧
    (t.next ≤ t.count → idleWait s.bus.rx t.waited line = none → exec c s = .next (s.setBus { s.bus with
      link := .off, rx := ⟨0, none⟩, abort := 0, lineTest := none, testResult := .lineBusy })) ∧
    (t.count < t.next → line.length < s.bus.abort → exec c s = .next (s.setBus { s.bus with
      rx := (runRx s.bus.rx line).1, abort := s.bus.abort - line.length })) ∧
    (t.count < t.next → s.bus.abort ≤ line.length → exec c s = .next (s.setBus { s.bus with
      link := .off, rx := ⟨0, none⟩, abort := 0, lineTest := none
      testResult := if t.bad = 0 then .pass else .fail t.bad }))) ∧
  (∀ (s : State) (line : List Bool), s.bus.sending = none →
    (s.bus.link = .off ∨ (∀ f : BusFrame, .complete f ∉ (runRx s.bus.rx line).2)) →
    exec (.frameComplete line) s = .next s) ∧
  ∀ (s : State) (line : List Bool), (s.bus.link = .off ∨ (runRx s.bus.rx line).2 = [] ∨
    (∃ f : BusFrame, .complete f ∈ (runRx s.bus.rx line).2)) → exec (.frameDiscard line) s = .next s

/-- Every frame that a transmitter can send, with any payload of its kind's length and any source that belongs to it, is read back from the line bit by bit as that frame (R23, R25, R26, R27, R200, R201): header, stuffing, CRC and end field included; and the payload layouts of R201 give back every field that fits them. The kinds with their codes, classes and lengths (R24, R201), the header, the CRC (R26) and the payload layouts (R201) are spelled out; start bit, stuffing and end field are spelled out in AttemptsOnTheLine. The discards of R27 are spelled out one by one: a sixth equal bit in the stuffed region (R25), an abort (R23), two bytes that are no header of a kind with its class, length and source, a CRC that is not the one of R26, and a dominant bit in the end field; a dominant bit outside a frame starts one at the idle line alone. -/
def Obligations.ReceiverReadsBackFrames : Prop :=
  (∀ f : BusFrame, f.payload.length = f.kind.payloadBytes → sourceFits f.kind f.source = true →
    runRx ⟨10, none⟩ f.lineBits = (⟨8, none⟩, [.complete f])) ∧
  (∀ x : Payload, x.fits = true → x.bytes.length = x.kind.payloadBytes ∧ parsePayload x.kind x.bytes = some x) ∧
  [FrameKind.anchor, .locate, .hold, .release, .window, .done, .beacon, .test].map FrameKind.code = List.range 8 ∧
  [FrameKind.anchor, .locate, .hold, .release, .window, .done, .beacon, .test].map FrameKind.cls =
    [0, 0, 1, 1, 2, 2, 3, 3] ∧
  [FrameKind.anchor, .locate, .hold, .release, .window, .done, .beacon, .test].map FrameKind.payloadBytes =
    [7, 10, 2, 0, 12, 3, 9, 12] ∧
  (∀ f : BusFrame, f.header = numBytes 1 (32 * f.kind.cls + f.source) ++ numBytes 1 (16 * f.kind.code + f.kind.payloadBytes) ∧
    f.dataBits = ((f.header ++ f.payload).flatMap byteBits) ++
      (List.range 16).map (fun i => (crc ((f.header ++ f.payload).flatMap byteBits)).getLsbD (15 - i))) ∧
  (∀ b : Byte, byteBits b = (List.range 8).map fun i => b.getLsbD (7 - i)) ∧
  (∀ (bits : List Bool) (b : Bool), crc [] = 0xFFFF ∧ crc (bits ++ [b]) =
    (crc bits <<< 1) ^^^ if (crc bits).getLsbD 15 = b then 0 else 0x1021) ∧
  (∀ (source : Nat) (x : Payload), x.frame source = ⟨source, x.kind, x.bytes⟩) ∧
  (∀ x : Payload, (x.kind, x.bytes) = match x with
    | .anchor g rolling r p =>
      (.anchor, numBytes 1 g ++ numBytes 1 (if rolling then 1 else 0) ++ numBytes 1 r ++ numBytes 4 p)
    | .locate g closure play r st n p => (.locate, numBytes 1 g ++
        numBytes 1 ((if closure then 128 else 0) + if play then 64 else 0) ++ numBytes 1 r ++ numBytes 1 st ++
        numBytes 2 n ++ numBytes 4 p)
    | .hold lease reason => (.hold, numBytes 1 lease ++ numBytes 1 (reason % 16))
    | .release => (.release, [])
    | .window n c i o => (.window, numBytes 2 n ++ numBytes 2 c ++ numBytes 4 i ++ numBytes 4 o)
    | .done n outcome more => (.done, numBytes 2 n ++
        numBytes 1 ((match outcome with | .cleared => 0 | .skipped => 64 | .abandoned => 128) + if more then 1 else 0))
    | .beacon rate tr ps g n r p => (.beacon, numBytes 1 (32 * rate +
        (match tr with | .stopped => 0 | .cueing => 8 | .rolling => 16) +
        (match ps with | .idle => 0 | .standby => 2 | .inPass => 4 | .cleared => 6)) ++ numBytes 1 g ++ numBytes 2 n ++
        numBytes 1 r ++ numBytes 4 p)
    | .test n => (.test, numBytes 1 n ++ [0x00, 0xFF, 0x55, 0xAA, 0x0F, 0xF0, 0x33, 0xCC, 0x81, 0x7E, 0xC3])) ∧
  (∀ i : Nat, rxBit ⟨i, none⟩ true = (⟨min 10 (i + 1), none⟩, none) ∧
    (i ≠ 10 → rxBit ⟨i, none⟩ false = (⟨0, none⟩, none)) ∧ rxBit ⟨10, none⟩ false = (⟨0, some ⟨false, 1, [], 0⟩⟩, none)) ∧
  (∀ (f : BusFrame) (before five rest : List Bool) (b : Bool), f.payload.length = f.kind.payloadBytes →
    sourceFits f.kind f.source = true → f.lineBits = before ++ five ++ rest → five = List.replicate 5 b → 8 ≤ rest.length →
    runRx ⟨10, none⟩ (before ++ five ++ [b]) = (⟨0, none⟩, [.discard])) ∧
  (∀ (idle : Nat) (fr : RxFrame), fr.run ≤ 5 → .discard ∈ (runRx ⟨idle, some fr⟩ (List.replicate 6 false)).2) ∧
  (∀ first second : Byte, (∀ (f : BusFrame), sourceFits f.kind f.source = true → f.header ≠ [first, second]) →
    (runRx ⟨10, none⟩ (false :: (stuff false 1 ((byteBits first ++ byteBits second).map (⟨·, false⟩))).map
      TxBit.level)).2 = [.discard]) ∧
  (∀ (k : FrameKind) (a : Nat), sourceFits k a = true ↔ (k = .test ∧ a = 0) ∨ (k ≠ .test ∧ 1 ≤ a ∧ a ≤ 30)) ∧
  (∀ (f : BusFrame) (check : BitVec 16), f.payload.length = f.kind.payloadBytes → sourceFits f.kind f.source = true →
    check ≠ crc ((f.header ++ f.payload).flatMap byteBits) →
    (runRx ⟨10, none⟩ (false :: (stuff false 1 (((f.header ++ f.payload).flatMap byteBits ++
      (List.range 16).map (fun i => check.getLsbD (15 - i))).map (⟨·, false⟩))).map TxBit.level)).2 = [.discard]) ∧
  ∀ (f : BusFrame) (n : Nat), f.payload.length = f.kind.payloadBytes → sourceFits f.kind f.source = true → n < 8 →
    runRx ⟨10, none⟩ (f.lineBits.take (f.lineBits.length - 8 + n) ++ [false]) = (⟨0, none⟩, [.discard])

/-! ## What every step keeps -/

/-- No step overfills a queue or a store (R35, R47, R76, R88, R172, R191), lets the overflow flag stand over an empty notice queue (R191), puts a second frame of the mark unit into the queue (R181), or takes the cue table out of order (R76). -/
def Obligations.StepsKeepCapacities : Prop :=
  (∀ s t : State, QueuesBounded s → step s = .next t → QueuesBounded t) ∧
  (∀ s t : State, OverflowGuarded s → step s = .next t → OverflowGuarded t) ∧
  (∀ s t : State, OneMarkStop s → step s = .next t → OneMarkStop t) ∧
  (∀ s t : State, StoresBounded s → step s = .next t → StoresBounded t) ∧
  ∀ s t : State, CuesOrdered s.cues → step s = .next t → CuesOrdered t.cues

/-- No step takes the position or the rate out of range (R15, R16, R17, R19), leaves a locate record outside CUEING or a CUEING transport without one (R49 to R53), takes the event list, the hold set or the window table out of order (R55, R105, R132), or leaves a line that does not follow its count (R154, R155). That the position rests through the first frame of a roll follows R20, R46 and R49 against R19, log 29. -/
def Obligations.StepsKeepRanges : Prop :=
  (∀ s t : State, PositionSound s → step s = .next t → PositionSound t) ∧
  (∀ s t : State, LocateSound s → step s = .next t → LocateSound t) ∧
  (∀ s t : State, TablesOrdered s → step s = .next t → TablesOrdered t) ∧
  (∀ s t : State, EventsOrdered s → step s = .next t → EventsOrdered t) ∧
  ∀ s t : State, LinesSettled s.out → step s = .next t → LinesSettled t.out

/-- No step leaves a RUNNING part without its five records (R194, R196), breaks the agreement of the pass state with the take log, the transport and the link (R172), or that of the pass controller with the plan unit (6.1, R89, R91, R98, R101). -/
def Obligations.StepsKeepRun : Prop :=
  (∀ s t : State, RecordsHeld s → step s = .next t → RecordsHeld t) ∧
  (∀ s t : State, PassSound s → step s = .next t → PassSound t) ∧
  ∀ s t : State, RunSound s → step s = .next t → RunSound t
end

