-- ==== Sys2Proof/Laws/State.lean ====
section
/-! SUPPORT. One lemma per setter and field of the state, all true by unfolding, so that no proof unfolds a record update; the same for the views that read one field. -/

namespace Sys2Proof.Machine


/-! ## setting port -/

section setPort

variable (s : State) (x y : Port)

@[simp] theorem State.setPort_port : (s.setPort x).port = x := rfl
@[simp] theorem State.setPort_conf : (s.setPort x).conf = s.conf := rfl
@[simp] theorem State.setPort_ref : (s.setPort x).ref = s.ref := rfl
@[simp] theorem State.setPort_posn : (s.setPort x).posn = s.posn := rfl
@[simp] theorem State.setPort_bus : (s.setPort x).bus = s.bus := rfl
@[simp] theorem State.setPort_agr : (s.setPort x).agr = s.agr := rfl
@[simp] theorem State.setPort_cues : (s.setPort x).cues = s.cues := rfl
@[simp] theorem State.setPort_plan : (s.setPort x).plan = s.plan := rfl
@[simp] theorem State.setPort_pass : (s.setPort x).pass = s.pass := rfl
@[simp] theorem State.setPort_sched : (s.setPort x).sched = s.sched := rfl
@[simp] theorem State.setPort_out : (s.setPort x).out = s.out := rfl
@[simp] theorem State.setPort_onset : (s.setPort x).onset = s.onset := rfl
@[simp] theorem State.setPort_log : (s.setPort x).log = s.log := rfl
@[simp] theorem State.setPort_marks : (s.setPort x).marks = s.marks := rfl
@[simp] theorem State.setPort_resetnLow : (s.setPort x).resetnLow = s.resetnLow := rfl
@[simp] theorem State.setPort_pending : (s.setPort x).pending = s.pending := rfl
@[simp] theorem State.setPort_timing : (s.setPort x).timing = s.timing := rfl
@[simp] theorem State.setPort_station : (s.setPort x).station = s.station := rfl
@[simp] theorem State.setPort_outputs : (s.setPort x).outputs = s.outputs := rfl
@[simp] theorem State.setPort_defaults : (s.setPort x).defaults = s.defaults := rfl
@[simp] theorem State.setPort_onsetRec : (s.setPort x).onsetRec = s.onsetRec := rfl
@[simp] theorem State.setPort_address : (s.setPort x).address = s.address := rfl
@[simp] theorem State.setPort_pMax : (s.setPort x).pMax = s.pMax := rfl
@[simp] theorem State.setPort_markStopFlag : (s.setPort x).markStopFlag = s.markStopFlag := rfl
@[simp] theorem State.setPort_testing : (s.setPort x).testing = s.testing := rfl
@[simp] theorem State.setPort_clampPos (n : Nat) : (s.setPort x).clampPos n = s.clampPos n := rfl
@[simp] theorem State.setPort_mark (n : Nat) : (s.setPort x).mark n = s.mark n := rfl
@[simp] theorem State.setPort_queued (k : FrameKind) : (s.setPort x).queued k = s.queued k := rfl
@[simp] theorem State.setPort_twice : (s.setPort x).setPort y = s.setPort y := rfl
@[simp] theorem State.setPort_self : s.setPort s.port = s := rfl

end setPort

/-! ## setting conf -/

section setConf

variable (s : State) (x y : Conf)

@[simp] theorem State.setConf_port : (s.setConf x).port = s.port := rfl
@[simp] theorem State.setConf_conf : (s.setConf x).conf = x := rfl
@[simp] theorem State.setConf_ref : (s.setConf x).ref = s.ref := rfl
@[simp] theorem State.setConf_posn : (s.setConf x).posn = s.posn := rfl
@[simp] theorem State.setConf_bus : (s.setConf x).bus = s.bus := rfl
@[simp] theorem State.setConf_agr : (s.setConf x).agr = s.agr := rfl
@[simp] theorem State.setConf_cues : (s.setConf x).cues = s.cues := rfl
@[simp] theorem State.setConf_plan : (s.setConf x).plan = s.plan := rfl
@[simp] theorem State.setConf_pass : (s.setConf x).pass = s.pass := rfl
@[simp] theorem State.setConf_sched : (s.setConf x).sched = s.sched := rfl
@[simp] theorem State.setConf_out : (s.setConf x).out = s.out := rfl
@[simp] theorem State.setConf_onset : (s.setConf x).onset = s.onset := rfl
@[simp] theorem State.setConf_log : (s.setConf x).log = s.log := rfl
@[simp] theorem State.setConf_marks : (s.setConf x).marks = s.marks := rfl
@[simp] theorem State.setConf_resetnLow : (s.setConf x).resetnLow = s.resetnLow := rfl
@[simp] theorem State.setConf_pending : (s.setConf x).pending = s.pending := rfl
@[simp] theorem State.setConf_running : (s.setConf x).running = s.running := rfl
@[simp] theorem State.setConf_attn : (s.setConf x).attn = s.attn := rfl
@[simp] theorem State.setConf_markStopFlag : (s.setConf x).markStopFlag = s.markStopFlag := rfl
@[simp] theorem State.setConf_testing : (s.setConf x).testing = s.testing := rfl
@[simp] theorem State.setConf_mark (n : Nat) : (s.setConf x).mark n = s.mark n := rfl
@[simp] theorem State.setConf_queued (k : FrameKind) : (s.setConf x).queued k = s.queued k := rfl
@[simp] theorem State.setConf_live : (s.setConf x).live = s.live := rfl
@[simp] theorem State.setConf_twice : (s.setConf x).setConf y = s.setConf y := rfl
@[simp] theorem State.setConf_self : s.setConf s.conf = s := rfl

end setConf

/-! ## setting ref -/

section setRef

variable (s : State) (x y : RefUnit)

@[simp] theorem State.setRef_port : (s.setRef x).port = s.port := rfl
@[simp] theorem State.setRef_conf : (s.setRef x).conf = s.conf := rfl
@[simp] theorem State.setRef_ref : (s.setRef x).ref = x := rfl
@[simp] theorem State.setRef_posn : (s.setRef x).posn = s.posn := rfl
@[simp] theorem State.setRef_bus : (s.setRef x).bus = s.bus := rfl
@[simp] theorem State.setRef_agr : (s.setRef x).agr = s.agr := rfl
@[simp] theorem State.setRef_cues : (s.setRef x).cues = s.cues := rfl
@[simp] theorem State.setRef_plan : (s.setRef x).plan = s.plan := rfl
@[simp] theorem State.setRef_pass : (s.setRef x).pass = s.pass := rfl
@[simp] theorem State.setRef_sched : (s.setRef x).sched = s.sched := rfl
@[simp] theorem State.setRef_out : (s.setRef x).out = s.out := rfl
@[simp] theorem State.setRef_onset : (s.setRef x).onset = s.onset := rfl
@[simp] theorem State.setRef_log : (s.setRef x).log = s.log := rfl
@[simp] theorem State.setRef_marks : (s.setRef x).marks = s.marks := rfl
@[simp] theorem State.setRef_resetnLow : (s.setRef x).resetnLow = s.resetnLow := rfl
@[simp] theorem State.setRef_pending : (s.setRef x).pending = s.pending := rfl
@[simp] theorem State.setRef_timing : (s.setRef x).timing = s.timing := rfl
@[simp] theorem State.setRef_station : (s.setRef x).station = s.station := rfl
@[simp] theorem State.setRef_outputs : (s.setRef x).outputs = s.outputs := rfl
@[simp] theorem State.setRef_defaults : (s.setRef x).defaults = s.defaults := rfl
@[simp] theorem State.setRef_onsetRec : (s.setRef x).onsetRec = s.onsetRec := rfl
@[simp] theorem State.setRef_address : (s.setRef x).address = s.address := rfl
@[simp] theorem State.setRef_pMax : (s.setRef x).pMax = s.pMax := rfl
@[simp] theorem State.setRef_running : (s.setRef x).running = s.running := rfl
@[simp] theorem State.setRef_attn : (s.setRef x).attn = s.attn := rfl
@[simp] theorem State.setRef_markStopFlag : (s.setRef x).markStopFlag = s.markStopFlag := rfl
@[simp] theorem State.setRef_testing : (s.setRef x).testing = s.testing := rfl
@[simp] theorem State.setRef_clampPos (n : Nat) : (s.setRef x).clampPos n = s.clampPos n := rfl
@[simp] theorem State.setRef_mark (n : Nat) : (s.setRef x).mark n = s.mark n := rfl
@[simp] theorem State.setRef_queued (k : FrameKind) : (s.setRef x).queued k = s.queued k := rfl
@[simp] theorem State.setRef_live : (s.setRef x).live = s.live := rfl
@[simp] theorem State.setRef_twice : (s.setRef x).setRef y = s.setRef y := rfl
@[simp] theorem State.setRef_self : s.setRef s.ref = s := rfl

end setRef

/-! ## setting posn -/

section setPosn

variable (s : State) (x y : Position)

@[simp] theorem State.setPosn_port : (s.setPosn x).port = s.port := rfl
@[simp] theorem State.setPosn_conf : (s.setPosn x).conf = s.conf := rfl
@[simp] theorem State.setPosn_ref : (s.setPosn x).ref = s.ref := rfl
@[simp] theorem State.setPosn_posn : (s.setPosn x).posn = x := rfl
@[simp] theorem State.setPosn_bus : (s.setPosn x).bus = s.bus := rfl
@[simp] theorem State.setPosn_agr : (s.setPosn x).agr = s.agr := rfl
@[simp] theorem State.setPosn_cues : (s.setPosn x).cues = s.cues := rfl
@[simp] theorem State.setPosn_plan : (s.setPosn x).plan = s.plan := rfl
@[simp] theorem State.setPosn_pass : (s.setPosn x).pass = s.pass := rfl
@[simp] theorem State.setPosn_sched : (s.setPosn x).sched = s.sched := rfl
@[simp] theorem State.setPosn_out : (s.setPosn x).out = s.out := rfl
@[simp] theorem State.setPosn_onset : (s.setPosn x).onset = s.onset := rfl
@[simp] theorem State.setPosn_log : (s.setPosn x).log = s.log := rfl
@[simp] theorem State.setPosn_marks : (s.setPosn x).marks = s.marks := rfl
@[simp] theorem State.setPosn_resetnLow : (s.setPosn x).resetnLow = s.resetnLow := rfl
@[simp] theorem State.setPosn_pending : (s.setPosn x).pending = s.pending := rfl
@[simp] theorem State.setPosn_timing : (s.setPosn x).timing = s.timing := rfl
@[simp] theorem State.setPosn_station : (s.setPosn x).station = s.station := rfl
@[simp] theorem State.setPosn_outputs : (s.setPosn x).outputs = s.outputs := rfl
@[simp] theorem State.setPosn_defaults : (s.setPosn x).defaults = s.defaults := rfl
@[simp] theorem State.setPosn_onsetRec : (s.setPosn x).onsetRec = s.onsetRec := rfl
@[simp] theorem State.setPosn_address : (s.setPosn x).address = s.address := rfl
@[simp] theorem State.setPosn_pMax : (s.setPosn x).pMax = s.pMax := rfl
@[simp] theorem State.setPosn_running : (s.setPosn x).running = s.running := rfl
@[simp] theorem State.setPosn_attn : (s.setPosn x).attn = s.attn := rfl
@[simp] theorem State.setPosn_markStopFlag : (s.setPosn x).markStopFlag = s.markStopFlag := rfl
@[simp] theorem State.setPosn_testing : (s.setPosn x).testing = s.testing := rfl
@[simp] theorem State.setPosn_clampPos (n : Nat) : (s.setPosn x).clampPos n = s.clampPos n := rfl
@[simp] theorem State.setPosn_mark (n : Nat) : (s.setPosn x).mark n = s.mark n := rfl
@[simp] theorem State.setPosn_queued (k : FrameKind) : (s.setPosn x).queued k = s.queued k := rfl
@[simp] theorem State.setPosn_live : (s.setPosn x).live = s.live := rfl
@[simp] theorem State.setPosn_twice : (s.setPosn x).setPosn y = s.setPosn y := rfl
@[simp] theorem State.setPosn_self : s.setPosn s.posn = s := rfl

end setPosn

/-! ## setting bus -/

section setBus

variable (s : State) (x y : BusCtl)

@[simp] theorem State.setBus_port : (s.setBus x).port = s.port := rfl
@[simp] theorem State.setBus_conf : (s.setBus x).conf = s.conf := rfl
@[simp] theorem State.setBus_ref : (s.setBus x).ref = s.ref := rfl
@[simp] theorem State.setBus_posn : (s.setBus x).posn = s.posn := rfl
@[simp] theorem State.setBus_bus : (s.setBus x).bus = x := rfl
@[simp] theorem State.setBus_agr : (s.setBus x).agr = s.agr := rfl
@[simp] theorem State.setBus_cues : (s.setBus x).cues = s.cues := rfl
@[simp] theorem State.setBus_plan : (s.setBus x).plan = s.plan := rfl
@[simp] theorem State.setBus_pass : (s.setBus x).pass = s.pass := rfl
@[simp] theorem State.setBus_sched : (s.setBus x).sched = s.sched := rfl
@[simp] theorem State.setBus_out : (s.setBus x).out = s.out := rfl
@[simp] theorem State.setBus_onset : (s.setBus x).onset = s.onset := rfl
@[simp] theorem State.setBus_log : (s.setBus x).log = s.log := rfl
@[simp] theorem State.setBus_marks : (s.setBus x).marks = s.marks := rfl
@[simp] theorem State.setBus_resetnLow : (s.setBus x).resetnLow = s.resetnLow := rfl
@[simp] theorem State.setBus_pending : (s.setBus x).pending = s.pending := rfl
@[simp] theorem State.setBus_timing : (s.setBus x).timing = s.timing := rfl
@[simp] theorem State.setBus_station : (s.setBus x).station = s.station := rfl
@[simp] theorem State.setBus_outputs : (s.setBus x).outputs = s.outputs := rfl
@[simp] theorem State.setBus_defaults : (s.setBus x).defaults = s.defaults := rfl
@[simp] theorem State.setBus_onsetRec : (s.setBus x).onsetRec = s.onsetRec := rfl
@[simp] theorem State.setBus_address : (s.setBus x).address = s.address := rfl
@[simp] theorem State.setBus_pMax : (s.setBus x).pMax = s.pMax := rfl
@[simp] theorem State.setBus_running : (s.setBus x).running = s.running := rfl
@[simp] theorem State.setBus_attn : (s.setBus x).attn = s.attn := rfl
@[simp] theorem State.setBus_clampPos (n : Nat) : (s.setBus x).clampPos n = s.clampPos n := rfl
@[simp] theorem State.setBus_mark (n : Nat) : (s.setBus x).mark n = s.mark n := rfl
@[simp] theorem State.setBus_live : (s.setBus x).live = s.live := rfl
@[simp] theorem State.setBus_twice : (s.setBus x).setBus y = s.setBus y := rfl
@[simp] theorem State.setBus_self : s.setBus s.bus = s := rfl

end setBus

/-! ## setting agr -/

section setAgr

variable (s : State) (x y : Agreement)

@[simp] theorem State.setAgr_port : (s.setAgr x).port = s.port := rfl
@[simp] theorem State.setAgr_conf : (s.setAgr x).conf = s.conf := rfl
@[simp] theorem State.setAgr_ref : (s.setAgr x).ref = s.ref := rfl
@[simp] theorem State.setAgr_posn : (s.setAgr x).posn = s.posn := rfl
@[simp] theorem State.setAgr_bus : (s.setAgr x).bus = s.bus := rfl
@[simp] theorem State.setAgr_agr : (s.setAgr x).agr = x := rfl
@[simp] theorem State.setAgr_cues : (s.setAgr x).cues = s.cues := rfl
@[simp] theorem State.setAgr_plan : (s.setAgr x).plan = s.plan := rfl
@[simp] theorem State.setAgr_pass : (s.setAgr x).pass = s.pass := rfl
@[simp] theorem State.setAgr_sched : (s.setAgr x).sched = s.sched := rfl
@[simp] theorem State.setAgr_out : (s.setAgr x).out = s.out := rfl
@[simp] theorem State.setAgr_onset : (s.setAgr x).onset = s.onset := rfl
@[simp] theorem State.setAgr_log : (s.setAgr x).log = s.log := rfl
@[simp] theorem State.setAgr_marks : (s.setAgr x).marks = s.marks := rfl
@[simp] theorem State.setAgr_resetnLow : (s.setAgr x).resetnLow = s.resetnLow := rfl
@[simp] theorem State.setAgr_pending : (s.setAgr x).pending = s.pending := rfl
@[simp] theorem State.setAgr_timing : (s.setAgr x).timing = s.timing := rfl
@[simp] theorem State.setAgr_station : (s.setAgr x).station = s.station := rfl
@[simp] theorem State.setAgr_outputs : (s.setAgr x).outputs = s.outputs := rfl
@[simp] theorem State.setAgr_defaults : (s.setAgr x).defaults = s.defaults := rfl
@[simp] theorem State.setAgr_onsetRec : (s.setAgr x).onsetRec = s.onsetRec := rfl
@[simp] theorem State.setAgr_address : (s.setAgr x).address = s.address := rfl
@[simp] theorem State.setAgr_pMax : (s.setAgr x).pMax = s.pMax := rfl
@[simp] theorem State.setAgr_running : (s.setAgr x).running = s.running := rfl
@[simp] theorem State.setAgr_attn : (s.setAgr x).attn = s.attn := rfl
@[simp] theorem State.setAgr_markStopFlag : (s.setAgr x).markStopFlag = s.markStopFlag := rfl
@[simp] theorem State.setAgr_testing : (s.setAgr x).testing = s.testing := rfl
@[simp] theorem State.setAgr_clampPos (n : Nat) : (s.setAgr x).clampPos n = s.clampPos n := rfl
@[simp] theorem State.setAgr_mark (n : Nat) : (s.setAgr x).mark n = s.mark n := rfl
@[simp] theorem State.setAgr_queued (k : FrameKind) : (s.setAgr x).queued k = s.queued k := rfl
@[simp] theorem State.setAgr_live : (s.setAgr x).live = s.live := rfl
@[simp] theorem State.setAgr_twice : (s.setAgr x).setAgr y = s.setAgr y := rfl
@[simp] theorem State.setAgr_self : s.setAgr s.agr = s := rfl

end setAgr

/-! ## setting cues -/

section setCues

variable (s : State) (x y : List CueRec)

@[simp] theorem State.setCues_port : (s.setCues x).port = s.port := rfl
@[simp] theorem State.setCues_conf : (s.setCues x).conf = s.conf := rfl
@[simp] theorem State.setCues_ref : (s.setCues x).ref = s.ref := rfl
@[simp] theorem State.setCues_posn : (s.setCues x).posn = s.posn := rfl
@[simp] theorem State.setCues_bus : (s.setCues x).bus = s.bus := rfl
@[simp] theorem State.setCues_agr : (s.setCues x).agr = s.agr := rfl
@[simp] theorem State.setCues_cues : (s.setCues x).cues = x := rfl
@[simp] theorem State.setCues_plan : (s.setCues x).plan = s.plan := rfl
@[simp] theorem State.setCues_pass : (s.setCues x).pass = s.pass := rfl
@[simp] theorem State.setCues_sched : (s.setCues x).sched = s.sched := rfl
@[simp] theorem State.setCues_out : (s.setCues x).out = s.out := rfl
@[simp] theorem State.setCues_onset : (s.setCues x).onset = s.onset := rfl
@[simp] theorem State.setCues_log : (s.setCues x).log = s.log := rfl
@[simp] theorem State.setCues_marks : (s.setCues x).marks = s.marks := rfl
@[simp] theorem State.setCues_resetnLow : (s.setCues x).resetnLow = s.resetnLow := rfl
@[simp] theorem State.setCues_pending : (s.setCues x).pending = s.pending := rfl
@[simp] theorem State.setCues_timing : (s.setCues x).timing = s.timing := rfl
@[simp] theorem State.setCues_station : (s.setCues x).station = s.station := rfl
@[simp] theorem State.setCues_outputs : (s.setCues x).outputs = s.outputs := rfl
@[simp] theorem State.setCues_defaults : (s.setCues x).defaults = s.defaults := rfl
@[simp] theorem State.setCues_onsetRec : (s.setCues x).onsetRec = s.onsetRec := rfl
@[simp] theorem State.setCues_address : (s.setCues x).address = s.address := rfl
@[simp] theorem State.setCues_pMax : (s.setCues x).pMax = s.pMax := rfl
@[simp] theorem State.setCues_running : (s.setCues x).running = s.running := rfl
@[simp] theorem State.setCues_attn : (s.setCues x).attn = s.attn := rfl
@[simp] theorem State.setCues_markStopFlag : (s.setCues x).markStopFlag = s.markStopFlag := rfl
@[simp] theorem State.setCues_testing : (s.setCues x).testing = s.testing := rfl
@[simp] theorem State.setCues_clampPos (n : Nat) : (s.setCues x).clampPos n = s.clampPos n := rfl
@[simp] theorem State.setCues_mark (n : Nat) : (s.setCues x).mark n = s.mark n := rfl
@[simp] theorem State.setCues_queued (k : FrameKind) : (s.setCues x).queued k = s.queued k := rfl
@[simp] theorem State.setCues_live : (s.setCues x).live = s.live := rfl
@[simp] theorem State.setCues_twice : (s.setCues x).setCues y = s.setCues y := rfl
@[simp] theorem State.setCues_self : s.setCues s.cues = s := rfl

end setCues

/-! ## setting plan -/

section setPlan

variable (s : State) (x y : PlanUnit)

@[simp] theorem State.setPlan_port : (s.setPlan x).port = s.port := rfl
@[simp] theorem State.setPlan_conf : (s.setPlan x).conf = s.conf := rfl
@[simp] theorem State.setPlan_ref : (s.setPlan x).ref = s.ref := rfl
@[simp] theorem State.setPlan_posn : (s.setPlan x).posn = s.posn := rfl
@[simp] theorem State.setPlan_bus : (s.setPlan x).bus = s.bus := rfl
@[simp] theorem State.setPlan_agr : (s.setPlan x).agr = s.agr := rfl
@[simp] theorem State.setPlan_cues : (s.setPlan x).cues = s.cues := rfl
@[simp] theorem State.setPlan_plan : (s.setPlan x).plan = x := rfl
@[simp] theorem State.setPlan_pass : (s.setPlan x).pass = s.pass := rfl
@[simp] theorem State.setPlan_sched : (s.setPlan x).sched = s.sched := rfl
@[simp] theorem State.setPlan_out : (s.setPlan x).out = s.out := rfl
@[simp] theorem State.setPlan_onset : (s.setPlan x).onset = s.onset := rfl
@[simp] theorem State.setPlan_log : (s.setPlan x).log = s.log := rfl
@[simp] theorem State.setPlan_marks : (s.setPlan x).marks = s.marks := rfl
@[simp] theorem State.setPlan_resetnLow : (s.setPlan x).resetnLow = s.resetnLow := rfl
@[simp] theorem State.setPlan_pending : (s.setPlan x).pending = s.pending := rfl
@[simp] theorem State.setPlan_timing : (s.setPlan x).timing = s.timing := rfl
@[simp] theorem State.setPlan_station : (s.setPlan x).station = s.station := rfl
@[simp] theorem State.setPlan_outputs : (s.setPlan x).outputs = s.outputs := rfl
@[simp] theorem State.setPlan_defaults : (s.setPlan x).defaults = s.defaults := rfl
@[simp] theorem State.setPlan_onsetRec : (s.setPlan x).onsetRec = s.onsetRec := rfl
@[simp] theorem State.setPlan_address : (s.setPlan x).address = s.address := rfl
@[simp] theorem State.setPlan_pMax : (s.setPlan x).pMax = s.pMax := rfl
@[simp] theorem State.setPlan_running : (s.setPlan x).running = s.running := rfl
@[simp] theorem State.setPlan_attn : (s.setPlan x).attn = s.attn := rfl
@[simp] theorem State.setPlan_markStopFlag : (s.setPlan x).markStopFlag = s.markStopFlag := rfl
@[simp] theorem State.setPlan_testing : (s.setPlan x).testing = s.testing := rfl
@[simp] theorem State.setPlan_clampPos (n : Nat) : (s.setPlan x).clampPos n = s.clampPos n := rfl
@[simp] theorem State.setPlan_mark (n : Nat) : (s.setPlan x).mark n = s.mark n := rfl
@[simp] theorem State.setPlan_queued (k : FrameKind) : (s.setPlan x).queued k = s.queued k := rfl
@[simp] theorem State.setPlan_live : (s.setPlan x).live = s.live := rfl
@[simp] theorem State.setPlan_twice : (s.setPlan x).setPlan y = s.setPlan y := rfl
@[simp] theorem State.setPlan_self : s.setPlan s.plan = s := rfl

end setPlan

/-! ## setting pass -/

section setPass

variable (s : State) (x y : PassCtl)

@[simp] theorem State.setPass_port : (s.setPass x).port = s.port := rfl
@[simp] theorem State.setPass_conf : (s.setPass x).conf = s.conf := rfl
@[simp] theorem State.setPass_ref : (s.setPass x).ref = s.ref := rfl
@[simp] theorem State.setPass_posn : (s.setPass x).posn = s.posn := rfl
@[simp] theorem State.setPass_bus : (s.setPass x).bus = s.bus := rfl
@[simp] theorem State.setPass_agr : (s.setPass x).agr = s.agr := rfl
@[simp] theorem State.setPass_cues : (s.setPass x).cues = s.cues := rfl
@[simp] theorem State.setPass_plan : (s.setPass x).plan = s.plan := rfl
@[simp] theorem State.setPass_pass : (s.setPass x).pass = x := rfl
@[simp] theorem State.setPass_sched : (s.setPass x).sched = s.sched := rfl
@[simp] theorem State.setPass_out : (s.setPass x).out = s.out := rfl
@[simp] theorem State.setPass_onset : (s.setPass x).onset = s.onset := rfl
@[simp] theorem State.setPass_log : (s.setPass x).log = s.log := rfl
@[simp] theorem State.setPass_marks : (s.setPass x).marks = s.marks := rfl
@[simp] theorem State.setPass_resetnLow : (s.setPass x).resetnLow = s.resetnLow := rfl
@[simp] theorem State.setPass_pending : (s.setPass x).pending = s.pending := rfl
@[simp] theorem State.setPass_timing : (s.setPass x).timing = s.timing := rfl
@[simp] theorem State.setPass_station : (s.setPass x).station = s.station := rfl
@[simp] theorem State.setPass_outputs : (s.setPass x).outputs = s.outputs := rfl
@[simp] theorem State.setPass_defaults : (s.setPass x).defaults = s.defaults := rfl
@[simp] theorem State.setPass_onsetRec : (s.setPass x).onsetRec = s.onsetRec := rfl
@[simp] theorem State.setPass_address : (s.setPass x).address = s.address := rfl
@[simp] theorem State.setPass_pMax : (s.setPass x).pMax = s.pMax := rfl
@[simp] theorem State.setPass_running : (s.setPass x).running = s.running := rfl
@[simp] theorem State.setPass_attn : (s.setPass x).attn = s.attn := rfl
@[simp] theorem State.setPass_markStopFlag : (s.setPass x).markStopFlag = s.markStopFlag := rfl
@[simp] theorem State.setPass_testing : (s.setPass x).testing = s.testing := rfl
@[simp] theorem State.setPass_clampPos (n : Nat) : (s.setPass x).clampPos n = s.clampPos n := rfl
@[simp] theorem State.setPass_mark (n : Nat) : (s.setPass x).mark n = s.mark n := rfl
@[simp] theorem State.setPass_queued (k : FrameKind) : (s.setPass x).queued k = s.queued k := rfl
@[simp] theorem State.setPass_live : (s.setPass x).live = s.live := rfl
@[simp] theorem State.setPass_twice : (s.setPass x).setPass y = s.setPass y := rfl
@[simp] theorem State.setPass_self : s.setPass s.pass = s := rfl

end setPass

/-! ## setting sched -/

section setSched

variable (s : State) (x y : Scheduler)

@[simp] theorem State.setSched_port : (s.setSched x).port = s.port := rfl
@[simp] theorem State.setSched_conf : (s.setSched x).conf = s.conf := rfl
@[simp] theorem State.setSched_ref : (s.setSched x).ref = s.ref := rfl
@[simp] theorem State.setSched_posn : (s.setSched x).posn = s.posn := rfl
@[simp] theorem State.setSched_bus : (s.setSched x).bus = s.bus := rfl
@[simp] theorem State.setSched_agr : (s.setSched x).agr = s.agr := rfl
@[simp] theorem State.setSched_cues : (s.setSched x).cues = s.cues := rfl
@[simp] theorem State.setSched_plan : (s.setSched x).plan = s.plan := rfl
@[simp] theorem State.setSched_pass : (s.setSched x).pass = s.pass := rfl
@[simp] theorem State.setSched_sched : (s.setSched x).sched = x := rfl
@[simp] theorem State.setSched_out : (s.setSched x).out = s.out := rfl
@[simp] theorem State.setSched_onset : (s.setSched x).onset = s.onset := rfl
@[simp] theorem State.setSched_log : (s.setSched x).log = s.log := rfl
@[simp] theorem State.setSched_marks : (s.setSched x).marks = s.marks := rfl
@[simp] theorem State.setSched_resetnLow : (s.setSched x).resetnLow = s.resetnLow := rfl
@[simp] theorem State.setSched_pending : (s.setSched x).pending = s.pending := rfl
@[simp] theorem State.setSched_timing : (s.setSched x).timing = s.timing := rfl
@[simp] theorem State.setSched_station : (s.setSched x).station = s.station := rfl
@[simp] theorem State.setSched_outputs : (s.setSched x).outputs = s.outputs := rfl
@[simp] theorem State.setSched_defaults : (s.setSched x).defaults = s.defaults := rfl
@[simp] theorem State.setSched_onsetRec : (s.setSched x).onsetRec = s.onsetRec := rfl
@[simp] theorem State.setSched_address : (s.setSched x).address = s.address := rfl
@[simp] theorem State.setSched_pMax : (s.setSched x).pMax = s.pMax := rfl
@[simp] theorem State.setSched_running : (s.setSched x).running = s.running := rfl
@[simp] theorem State.setSched_attn : (s.setSched x).attn = s.attn := rfl
@[simp] theorem State.setSched_markStopFlag : (s.setSched x).markStopFlag = s.markStopFlag := rfl
@[simp] theorem State.setSched_testing : (s.setSched x).testing = s.testing := rfl
@[simp] theorem State.setSched_clampPos (n : Nat) : (s.setSched x).clampPos n = s.clampPos n := rfl
@[simp] theorem State.setSched_mark (n : Nat) : (s.setSched x).mark n = s.mark n := rfl
@[simp] theorem State.setSched_queued (k : FrameKind) : (s.setSched x).queued k = s.queued k := rfl
@[simp] theorem State.setSched_live : (s.setSched x).live = s.live := rfl
@[simp] theorem State.setSched_twice : (s.setSched x).setSched y = s.setSched y := rfl
@[simp] theorem State.setSched_self : s.setSched s.sched = s := rfl

end setSched

/-! ## setting out -/

section setOut

variable (s : State) (x y : OutputUnits)

@[simp] theorem State.setOut_port : (s.setOut x).port = s.port := rfl
@[simp] theorem State.setOut_conf : (s.setOut x).conf = s.conf := rfl
@[simp] theorem State.setOut_ref : (s.setOut x).ref = s.ref := rfl
@[simp] theorem State.setOut_posn : (s.setOut x).posn = s.posn := rfl
@[simp] theorem State.setOut_bus : (s.setOut x).bus = s.bus := rfl
@[simp] theorem State.setOut_agr : (s.setOut x).agr = s.agr := rfl
@[simp] theorem State.setOut_cues : (s.setOut x).cues = s.cues := rfl
@[simp] theorem State.setOut_plan : (s.setOut x).plan = s.plan := rfl
@[simp] theorem State.setOut_pass : (s.setOut x).pass = s.pass := rfl
@[simp] theorem State.setOut_sched : (s.setOut x).sched = s.sched := rfl
@[simp] theorem State.setOut_out : (s.setOut x).out = x := rfl
@[simp] theorem State.setOut_onset : (s.setOut x).onset = s.onset := rfl
@[simp] theorem State.setOut_log : (s.setOut x).log = s.log := rfl
@[simp] theorem State.setOut_marks : (s.setOut x).marks = s.marks := rfl
@[simp] theorem State.setOut_resetnLow : (s.setOut x).resetnLow = s.resetnLow := rfl
@[simp] theorem State.setOut_pending : (s.setOut x).pending = s.pending := rfl
@[simp] theorem State.setOut_timing : (s.setOut x).timing = s.timing := rfl
@[simp] theorem State.setOut_station : (s.setOut x).station = s.station := rfl
@[simp] theorem State.setOut_outputs : (s.setOut x).outputs = s.outputs := rfl
@[simp] theorem State.setOut_defaults : (s.setOut x).defaults = s.defaults := rfl
@[simp] theorem State.setOut_onsetRec : (s.setOut x).onsetRec = s.onsetRec := rfl
@[simp] theorem State.setOut_address : (s.setOut x).address = s.address := rfl
@[simp] theorem State.setOut_pMax : (s.setOut x).pMax = s.pMax := rfl
@[simp] theorem State.setOut_running : (s.setOut x).running = s.running := rfl
@[simp] theorem State.setOut_attn : (s.setOut x).attn = s.attn := rfl
@[simp] theorem State.setOut_markStopFlag : (s.setOut x).markStopFlag = s.markStopFlag := rfl
@[simp] theorem State.setOut_testing : (s.setOut x).testing = s.testing := rfl
@[simp] theorem State.setOut_clampPos (n : Nat) : (s.setOut x).clampPos n = s.clampPos n := rfl
@[simp] theorem State.setOut_mark (n : Nat) : (s.setOut x).mark n = s.mark n := rfl
@[simp] theorem State.setOut_queued (k : FrameKind) : (s.setOut x).queued k = s.queued k := rfl
@[simp] theorem State.setOut_live : (s.setOut x).live = s.live := rfl
@[simp] theorem State.setOut_twice : (s.setOut x).setOut y = s.setOut y := rfl
@[simp] theorem State.setOut_self : s.setOut s.out = s := rfl

end setOut

/-! ## setting onset -/

section setOnset

variable (s : State) (x y : OnsetUnit)

@[simp] theorem State.setOnset_port : (s.setOnset x).port = s.port := rfl
@[simp] theorem State.setOnset_conf : (s.setOnset x).conf = s.conf := rfl
@[simp] theorem State.setOnset_ref : (s.setOnset x).ref = s.ref := rfl
@[simp] theorem State.setOnset_posn : (s.setOnset x).posn = s.posn := rfl
@[simp] theorem State.setOnset_bus : (s.setOnset x).bus = s.bus := rfl
@[simp] theorem State.setOnset_agr : (s.setOnset x).agr = s.agr := rfl
@[simp] theorem State.setOnset_cues : (s.setOnset x).cues = s.cues := rfl
@[simp] theorem State.setOnset_plan : (s.setOnset x).plan = s.plan := rfl
@[simp] theorem State.setOnset_pass : (s.setOnset x).pass = s.pass := rfl
@[simp] theorem State.setOnset_sched : (s.setOnset x).sched = s.sched := rfl
@[simp] theorem State.setOnset_out : (s.setOnset x).out = s.out := rfl
@[simp] theorem State.setOnset_onset : (s.setOnset x).onset = x := rfl
@[simp] theorem State.setOnset_log : (s.setOnset x).log = s.log := rfl
@[simp] theorem State.setOnset_marks : (s.setOnset x).marks = s.marks := rfl
@[simp] theorem State.setOnset_resetnLow : (s.setOnset x).resetnLow = s.resetnLow := rfl
@[simp] theorem State.setOnset_pending : (s.setOnset x).pending = s.pending := rfl
@[simp] theorem State.setOnset_timing : (s.setOnset x).timing = s.timing := rfl
@[simp] theorem State.setOnset_station : (s.setOnset x).station = s.station := rfl
@[simp] theorem State.setOnset_outputs : (s.setOnset x).outputs = s.outputs := rfl
@[simp] theorem State.setOnset_defaults : (s.setOnset x).defaults = s.defaults := rfl
@[simp] theorem State.setOnset_onsetRec : (s.setOnset x).onsetRec = s.onsetRec := rfl
@[simp] theorem State.setOnset_address : (s.setOnset x).address = s.address := rfl
@[simp] theorem State.setOnset_pMax : (s.setOnset x).pMax = s.pMax := rfl
@[simp] theorem State.setOnset_running : (s.setOnset x).running = s.running := rfl
@[simp] theorem State.setOnset_attn : (s.setOnset x).attn = s.attn := rfl
@[simp] theorem State.setOnset_markStopFlag : (s.setOnset x).markStopFlag = s.markStopFlag := rfl
@[simp] theorem State.setOnset_testing : (s.setOnset x).testing = s.testing := rfl
@[simp] theorem State.setOnset_clampPos (n : Nat) : (s.setOnset x).clampPos n = s.clampPos n := rfl
@[simp] theorem State.setOnset_mark (n : Nat) : (s.setOnset x).mark n = s.mark n := rfl
@[simp] theorem State.setOnset_queued (k : FrameKind) : (s.setOnset x).queued k = s.queued k := rfl
@[simp] theorem State.setOnset_live : (s.setOnset x).live = s.live := rfl
@[simp] theorem State.setOnset_twice : (s.setOnset x).setOnset y = s.setOnset y := rfl
@[simp] theorem State.setOnset_self : s.setOnset s.onset = s := rfl

end setOnset

/-! ## setting log -/

section setLog

variable (s : State) (x y : TakeLog)

@[simp] theorem State.setLog_port : (s.setLog x).port = s.port := rfl
@[simp] theorem State.setLog_conf : (s.setLog x).conf = s.conf := rfl
@[simp] theorem State.setLog_ref : (s.setLog x).ref = s.ref := rfl
@[simp] theorem State.setLog_posn : (s.setLog x).posn = s.posn := rfl
@[simp] theorem State.setLog_bus : (s.setLog x).bus = s.bus := rfl
@[simp] theorem State.setLog_agr : (s.setLog x).agr = s.agr := rfl
@[simp] theorem State.setLog_cues : (s.setLog x).cues = s.cues := rfl
@[simp] theorem State.setLog_plan : (s.setLog x).plan = s.plan := rfl
@[simp] theorem State.setLog_pass : (s.setLog x).pass = s.pass := rfl
@[simp] theorem State.setLog_sched : (s.setLog x).sched = s.sched := rfl
@[simp] theorem State.setLog_out : (s.setLog x).out = s.out := rfl
@[simp] theorem State.setLog_onset : (s.setLog x).onset = s.onset := rfl
@[simp] theorem State.setLog_log : (s.setLog x).log = x := rfl
@[simp] theorem State.setLog_marks : (s.setLog x).marks = s.marks := rfl
@[simp] theorem State.setLog_resetnLow : (s.setLog x).resetnLow = s.resetnLow := rfl
@[simp] theorem State.setLog_pending : (s.setLog x).pending = s.pending := rfl
@[simp] theorem State.setLog_timing : (s.setLog x).timing = s.timing := rfl
@[simp] theorem State.setLog_station : (s.setLog x).station = s.station := rfl
@[simp] theorem State.setLog_outputs : (s.setLog x).outputs = s.outputs := rfl
@[simp] theorem State.setLog_defaults : (s.setLog x).defaults = s.defaults := rfl
@[simp] theorem State.setLog_onsetRec : (s.setLog x).onsetRec = s.onsetRec := rfl
@[simp] theorem State.setLog_address : (s.setLog x).address = s.address := rfl
@[simp] theorem State.setLog_pMax : (s.setLog x).pMax = s.pMax := rfl
@[simp] theorem State.setLog_running : (s.setLog x).running = s.running := rfl
@[simp] theorem State.setLog_attn : (s.setLog x).attn = s.attn := rfl
@[simp] theorem State.setLog_markStopFlag : (s.setLog x).markStopFlag = s.markStopFlag := rfl
@[simp] theorem State.setLog_testing : (s.setLog x).testing = s.testing := rfl
@[simp] theorem State.setLog_clampPos (n : Nat) : (s.setLog x).clampPos n = s.clampPos n := rfl
@[simp] theorem State.setLog_mark (n : Nat) : (s.setLog x).mark n = s.mark n := rfl
@[simp] theorem State.setLog_queued (k : FrameKind) : (s.setLog x).queued k = s.queued k := rfl
@[simp] theorem State.setLog_live : (s.setLog x).live = s.live := rfl
@[simp] theorem State.setLog_twice : (s.setLog x).setLog y = s.setLog y := rfl
@[simp] theorem State.setLog_self : s.setLog s.log = s := rfl

end setLog

/-! ## setting marks -/

section setMarks

variable (s : State) (x y : Vector Mark 4)

@[simp] theorem State.setMarks_port : (s.setMarks x).port = s.port := rfl
@[simp] theorem State.setMarks_conf : (s.setMarks x).conf = s.conf := rfl
@[simp] theorem State.setMarks_ref : (s.setMarks x).ref = s.ref := rfl
@[simp] theorem State.setMarks_posn : (s.setMarks x).posn = s.posn := rfl
@[simp] theorem State.setMarks_bus : (s.setMarks x).bus = s.bus := rfl
@[simp] theorem State.setMarks_agr : (s.setMarks x).agr = s.agr := rfl
@[simp] theorem State.setMarks_cues : (s.setMarks x).cues = s.cues := rfl
@[simp] theorem State.setMarks_plan : (s.setMarks x).plan = s.plan := rfl
@[simp] theorem State.setMarks_pass : (s.setMarks x).pass = s.pass := rfl
@[simp] theorem State.setMarks_sched : (s.setMarks x).sched = s.sched := rfl
@[simp] theorem State.setMarks_out : (s.setMarks x).out = s.out := rfl
@[simp] theorem State.setMarks_onset : (s.setMarks x).onset = s.onset := rfl
@[simp] theorem State.setMarks_log : (s.setMarks x).log = s.log := rfl
@[simp] theorem State.setMarks_marks : (s.setMarks x).marks = x := rfl
@[simp] theorem State.setMarks_resetnLow : (s.setMarks x).resetnLow = s.resetnLow := rfl
@[simp] theorem State.setMarks_pending : (s.setMarks x).pending = s.pending := rfl
@[simp] theorem State.setMarks_timing : (s.setMarks x).timing = s.timing := rfl
@[simp] theorem State.setMarks_station : (s.setMarks x).station = s.station := rfl
@[simp] theorem State.setMarks_outputs : (s.setMarks x).outputs = s.outputs := rfl
@[simp] theorem State.setMarks_defaults : (s.setMarks x).defaults = s.defaults := rfl
@[simp] theorem State.setMarks_onsetRec : (s.setMarks x).onsetRec = s.onsetRec := rfl
@[simp] theorem State.setMarks_address : (s.setMarks x).address = s.address := rfl
@[simp] theorem State.setMarks_pMax : (s.setMarks x).pMax = s.pMax := rfl
@[simp] theorem State.setMarks_running : (s.setMarks x).running = s.running := rfl
@[simp] theorem State.setMarks_attn : (s.setMarks x).attn = s.attn := rfl
@[simp] theorem State.setMarks_markStopFlag : (s.setMarks x).markStopFlag = s.markStopFlag := rfl
@[simp] theorem State.setMarks_testing : (s.setMarks x).testing = s.testing := rfl
@[simp] theorem State.setMarks_clampPos (n : Nat) : (s.setMarks x).clampPos n = s.clampPos n := rfl
@[simp] theorem State.setMarks_queued (k : FrameKind) : (s.setMarks x).queued k = s.queued k := rfl
@[simp] theorem State.setMarks_live : (s.setMarks x).live = s.live := rfl
@[simp] theorem State.setMarks_twice : (s.setMarks x).setMarks y = s.setMarks y := rfl
@[simp] theorem State.setMarks_self : s.setMarks s.marks = s := rfl

end setMarks

/-! ## setting resetnLow -/

section setResetnLow

variable (s : State) (x y : Bool)

@[simp] theorem State.setResetnLow_port : (s.setResetnLow x).port = s.port := rfl
@[simp] theorem State.setResetnLow_conf : (s.setResetnLow x).conf = s.conf := rfl
@[simp] theorem State.setResetnLow_ref : (s.setResetnLow x).ref = s.ref := rfl
@[simp] theorem State.setResetnLow_posn : (s.setResetnLow x).posn = s.posn := rfl
@[simp] theorem State.setResetnLow_bus : (s.setResetnLow x).bus = s.bus := rfl
@[simp] theorem State.setResetnLow_agr : (s.setResetnLow x).agr = s.agr := rfl
@[simp] theorem State.setResetnLow_cues : (s.setResetnLow x).cues = s.cues := rfl
@[simp] theorem State.setResetnLow_plan : (s.setResetnLow x).plan = s.plan := rfl
@[simp] theorem State.setResetnLow_pass : (s.setResetnLow x).pass = s.pass := rfl
@[simp] theorem State.setResetnLow_sched : (s.setResetnLow x).sched = s.sched := rfl
@[simp] theorem State.setResetnLow_out : (s.setResetnLow x).out = s.out := rfl
@[simp] theorem State.setResetnLow_onset : (s.setResetnLow x).onset = s.onset := rfl
@[simp] theorem State.setResetnLow_log : (s.setResetnLow x).log = s.log := rfl
@[simp] theorem State.setResetnLow_marks : (s.setResetnLow x).marks = s.marks := rfl
@[simp] theorem State.setResetnLow_resetnLow : (s.setResetnLow x).resetnLow = x := rfl
@[simp] theorem State.setResetnLow_pending : (s.setResetnLow x).pending = s.pending := rfl
@[simp] theorem State.setResetnLow_timing : (s.setResetnLow x).timing = s.timing := rfl
@[simp] theorem State.setResetnLow_station : (s.setResetnLow x).station = s.station := rfl
@[simp] theorem State.setResetnLow_outputs : (s.setResetnLow x).outputs = s.outputs := rfl
@[simp] theorem State.setResetnLow_defaults : (s.setResetnLow x).defaults = s.defaults := rfl
@[simp] theorem State.setResetnLow_onsetRec : (s.setResetnLow x).onsetRec = s.onsetRec := rfl
@[simp] theorem State.setResetnLow_address : (s.setResetnLow x).address = s.address := rfl
@[simp] theorem State.setResetnLow_pMax : (s.setResetnLow x).pMax = s.pMax := rfl
@[simp] theorem State.setResetnLow_running : (s.setResetnLow x).running = s.running := rfl
@[simp] theorem State.setResetnLow_attn : (s.setResetnLow x).attn = s.attn := rfl
@[simp] theorem State.setResetnLow_markStopFlag : (s.setResetnLow x).markStopFlag = s.markStopFlag := rfl
@[simp] theorem State.setResetnLow_testing : (s.setResetnLow x).testing = s.testing := rfl
@[simp] theorem State.setResetnLow_clampPos (n : Nat) : (s.setResetnLow x).clampPos n = s.clampPos n := rfl
@[simp] theorem State.setResetnLow_mark (n : Nat) : (s.setResetnLow x).mark n = s.mark n := rfl
@[simp] theorem State.setResetnLow_queued (k : FrameKind) : (s.setResetnLow x).queued k = s.queued k := rfl
@[simp] theorem State.setResetnLow_twice : (s.setResetnLow x).setResetnLow y = s.setResetnLow y := rfl
@[simp] theorem State.setResetnLow_self : s.setResetnLow s.resetnLow = s := rfl

end setResetnLow

/-! ## setting pending -/

section setPending

variable (s : State) (x y : List Instr)

@[simp] theorem State.setPending_port : (s.setPending x).port = s.port := rfl
@[simp] theorem State.setPending_conf : (s.setPending x).conf = s.conf := rfl
@[simp] theorem State.setPending_ref : (s.setPending x).ref = s.ref := rfl
@[simp] theorem State.setPending_posn : (s.setPending x).posn = s.posn := rfl
@[simp] theorem State.setPending_bus : (s.setPending x).bus = s.bus := rfl
@[simp] theorem State.setPending_agr : (s.setPending x).agr = s.agr := rfl
@[simp] theorem State.setPending_cues : (s.setPending x).cues = s.cues := rfl
@[simp] theorem State.setPending_plan : (s.setPending x).plan = s.plan := rfl
@[simp] theorem State.setPending_pass : (s.setPending x).pass = s.pass := rfl
@[simp] theorem State.setPending_sched : (s.setPending x).sched = s.sched := rfl
@[simp] theorem State.setPending_out : (s.setPending x).out = s.out := rfl
@[simp] theorem State.setPending_onset : (s.setPending x).onset = s.onset := rfl
@[simp] theorem State.setPending_log : (s.setPending x).log = s.log := rfl
@[simp] theorem State.setPending_marks : (s.setPending x).marks = s.marks := rfl
@[simp] theorem State.setPending_resetnLow : (s.setPending x).resetnLow = s.resetnLow := rfl
@[simp] theorem State.setPending_pending : (s.setPending x).pending = x := rfl
@[simp] theorem State.setPending_timing : (s.setPending x).timing = s.timing := rfl
@[simp] theorem State.setPending_station : (s.setPending x).station = s.station := rfl
@[simp] theorem State.setPending_outputs : (s.setPending x).outputs = s.outputs := rfl
@[simp] theorem State.setPending_defaults : (s.setPending x).defaults = s.defaults := rfl
@[simp] theorem State.setPending_onsetRec : (s.setPending x).onsetRec = s.onsetRec := rfl
@[simp] theorem State.setPending_address : (s.setPending x).address = s.address := rfl
@[simp] theorem State.setPending_pMax : (s.setPending x).pMax = s.pMax := rfl
@[simp] theorem State.setPending_running : (s.setPending x).running = s.running := rfl
@[simp] theorem State.setPending_attn : (s.setPending x).attn = s.attn := rfl
@[simp] theorem State.setPending_markStopFlag : (s.setPending x).markStopFlag = s.markStopFlag := rfl
@[simp] theorem State.setPending_testing : (s.setPending x).testing = s.testing := rfl
@[simp] theorem State.setPending_clampPos (n : Nat) : (s.setPending x).clampPos n = s.clampPos n := rfl
@[simp] theorem State.setPending_mark (n : Nat) : (s.setPending x).mark n = s.mark n := rfl
@[simp] theorem State.setPending_queued (k : FrameKind) : (s.setPending x).queued k = s.queued k := rfl
@[simp] theorem State.setPending_live : (s.setPending x).live = s.live := rfl
@[simp] theorem State.setPending_twice : (s.setPending x).setPending y = s.setPending y := rfl
@[simp] theorem State.setPending_self : s.setPending s.pending = s := rfl

end setPending

end Sys2Proof.Machine
end

