-- ==== Sys2Proof/Laws/Frames.lean ====
section
/-! SUPPORT. For every shared operation, one lemma that names all the state it leaves as it was: the blocks it does not write and, where it posts notices, the rest of the port. -/

namespace Sys2Proof.Machine

/-- What every step of a fold keeps, the fold keeps. -/
theorem foldl_keeps {α β : Type} (g : State → β) (f : State → α → State) (h : ∀ s x, g (f s x) = g s) (l : List α) :
    ∀ s : State, g (l.foldl f s) = g s := by
  induction l with
  | nil => intro s; rfl
  | cons x rest ih => intro s; rw [List.foldl_cons, ih, h]

@[simp] theorem post_keeps (k : NoticeKind) (d : Nat) (s : State) :
    (post k d s).conf = s.conf ∧ (post k d s).ref = s.ref ∧ (post k d s).posn = s.posn ∧
    (post k d s).bus = s.bus ∧ (post k d s).agr = s.agr ∧ (post k d s).cues = s.cues ∧
    (post k d s).plan = s.plan ∧ (post k d s).pass = s.pass ∧ (post k d s).sched = s.sched ∧
    (post k d s).out = s.out ∧ (post k d s).onset = s.onset ∧ (post k d s).log = s.log ∧
    (post k d s).marks = s.marks ∧ (post k d s).resetnLow = s.resetnLow ∧ (post k d s).pending = s.pending ∧
    (post k d s).port.part = s.port.part ∧ (post k d s).port.stepRun = s.port.stepRun ∧ (post k d s).port.response = s.port.response ∧
    (post k d s).port.sdo = s.port.sdo := by
  simp only [post]
  (repeat' split) <;> simp

@[simp] theorem writeTake_keeps (f : TakeRec → TakeRec) (s : State) :
    (writeTake f s).port = s.port ∧ (writeTake f s).conf = s.conf ∧ (writeTake f s).ref = s.ref ∧
    (writeTake f s).posn = s.posn ∧ (writeTake f s).bus = s.bus ∧ (writeTake f s).agr = s.agr ∧
    (writeTake f s).cues = s.cues ∧ (writeTake f s).plan = s.plan ∧ (writeTake f s).pass = s.pass ∧
    (writeTake f s).sched = s.sched ∧ (writeTake f s).out = s.out ∧ (writeTake f s).onset = s.onset ∧
    (writeTake f s).marks = s.marks ∧ (writeTake f s).resetnLow = s.resetnLow ∧ (writeTake f s).pending = s.pending := by
  simp [writeTake]

@[simp] theorem writeTakeCue_keeps (c : Nat) (f : TakeCue → TakeCue) (s : State) :
    (writeTakeCue c f s).port = s.port ∧ (writeTakeCue c f s).conf = s.conf ∧ (writeTakeCue c f s).ref = s.ref ∧
    (writeTakeCue c f s).posn = s.posn ∧ (writeTakeCue c f s).bus = s.bus ∧ (writeTakeCue c f s).agr = s.agr ∧
    (writeTakeCue c f s).cues = s.cues ∧ (writeTakeCue c f s).plan = s.plan ∧ (writeTakeCue c f s).pass = s.pass ∧
    (writeTakeCue c f s).sched = s.sched ∧ (writeTakeCue c f s).out = s.out ∧ (writeTakeCue c f s).onset = s.onset ∧
    (writeTakeCue c f s).marks = s.marks ∧ (writeTakeCue c f s).resetnLow = s.resetnLow ∧ (writeTakeCue c f s).pending = s.pending := by
  simp [writeTakeCue]

@[simp] theorem flagRefUnstable_keeps (s : State) :
    (flagRefUnstable s).port = s.port ∧ (flagRefUnstable s).conf = s.conf ∧ (flagRefUnstable s).ref = s.ref ∧
    (flagRefUnstable s).posn = s.posn ∧ (flagRefUnstable s).bus = s.bus ∧ (flagRefUnstable s).agr = s.agr ∧
    (flagRefUnstable s).cues = s.cues ∧ (flagRefUnstable s).plan = s.plan ∧ (flagRefUnstable s).pass = s.pass ∧
    (flagRefUnstable s).sched = s.sched ∧ (flagRefUnstable s).out = s.out ∧ (flagRefUnstable s).onset = s.onset ∧
    (flagRefUnstable s).marks = s.marks ∧ (flagRefUnstable s).resetnLow = s.resetnLow ∧ (flagRefUnstable s).pending = s.pending := by
  simp [flagRefUnstable]

@[simp] theorem flagRxOverrun_keeps (s : State) :
    (flagRxOverrun s).port = s.port ∧ (flagRxOverrun s).conf = s.conf ∧ (flagRxOverrun s).ref = s.ref ∧
    (flagRxOverrun s).posn = s.posn ∧ (flagRxOverrun s).bus = s.bus ∧ (flagRxOverrun s).agr = s.agr ∧
    (flagRxOverrun s).cues = s.cues ∧ (flagRxOverrun s).plan = s.plan ∧ (flagRxOverrun s).pass = s.pass ∧
    (flagRxOverrun s).sched = s.sched ∧ (flagRxOverrun s).out = s.out ∧ (flagRxOverrun s).onset = s.onset ∧
    (flagRxOverrun s).marks = s.marks ∧ (flagRxOverrun s).resetnLow = s.resetnLow ∧ (flagRxOverrun s).pending = s.pending := by
  simp [flagRxOverrun]

@[simp] theorem flagSyncSuspect_keeps (s : State) :
    (flagSyncSuspect s).port = s.port ∧ (flagSyncSuspect s).conf = s.conf ∧ (flagSyncSuspect s).ref = s.ref ∧
    (flagSyncSuspect s).posn = s.posn ∧ (flagSyncSuspect s).bus = s.bus ∧ (flagSyncSuspect s).agr = s.agr ∧
    (flagSyncSuspect s).cues = s.cues ∧ (flagSyncSuspect s).plan = s.plan ∧ (flagSyncSuspect s).pass = s.pass ∧
    (flagSyncSuspect s).sched = s.sched ∧ (flagSyncSuspect s).out = s.out ∧ (flagSyncSuspect s).onset = s.onset ∧
    (flagSyncSuspect s).marks = s.marks ∧ (flagSyncSuspect s).resetnLow = s.resetnLow ∧ (flagSyncSuspect s).pending = s.pending := by
  simp [flagSyncSuspect]

@[simp] theorem flagTakeSync_keeps (n : Nat) (s : State) :
    (flagTakeSync n s).port = s.port ∧ (flagTakeSync n s).conf = s.conf ∧ (flagTakeSync n s).ref = s.ref ∧
    (flagTakeSync n s).posn = s.posn ∧ (flagTakeSync n s).bus = s.bus ∧ (flagTakeSync n s).agr = s.agr ∧
    (flagTakeSync n s).cues = s.cues ∧ (flagTakeSync n s).plan = s.plan ∧ (flagTakeSync n s).pass = s.pass ∧
    (flagTakeSync n s).sched = s.sched ∧ (flagTakeSync n s).out = s.out ∧ (flagTakeSync n s).onset = s.onset ∧
    (flagTakeSync n s).marks = s.marks ∧ (flagTakeSync n s).resetnLow = s.resetnLow ∧ (flagTakeSync n s).pending = s.pending := by
  simp [flagTakeSync]

@[simp] theorem landSlip_keeps (n : Option Nat) (c : Nat) (s : State) :
    (landSlip n c s).port = s.port ∧ (landSlip n c s).conf = s.conf ∧ (landSlip n c s).ref = s.ref ∧
    (landSlip n c s).posn = s.posn ∧ (landSlip n c s).bus = s.bus ∧ (landSlip n c s).agr = s.agr ∧
    (landSlip n c s).cues = s.cues ∧ (landSlip n c s).plan = s.plan ∧ (landSlip n c s).pass = s.pass ∧
    (landSlip n c s).sched = s.sched ∧ (landSlip n c s).out = s.out ∧ (landSlip n c s).onset = s.onset ∧
    (landSlip n c s).marks = s.marks ∧ (landSlip n c s).resetnLow = s.resetnLow ∧ (landSlip n c s).pending = s.pending := by
  simp only [landSlip]
  (repeat' split) <;> simp

@[simp] theorem flagLateEvents_keeps (s : State) :
    (flagLateEvents s).port = s.port ∧ (flagLateEvents s).conf = s.conf ∧ (flagLateEvents s).ref = s.ref ∧
    (flagLateEvents s).posn = s.posn ∧ (flagLateEvents s).bus = s.bus ∧ (flagLateEvents s).agr = s.agr ∧
    (flagLateEvents s).cues = s.cues ∧ (flagLateEvents s).plan = s.plan ∧ (flagLateEvents s).pass = s.pass ∧
    (flagLateEvents s).sched = s.sched ∧ (flagLateEvents s).out = s.out ∧ (flagLateEvents s).onset = s.onset ∧
    (flagLateEvents s).marks = s.marks ∧ (flagLateEvents s).resetnLow = s.resetnLow ∧ (flagLateEvents s).pending = s.pending := by
  simp [flagLateEvents]

@[simp] theorem State.setReasons_keeps (s : State) (r : OwnReasons) :
    (s.setReasons r).port = s.port ∧ (s.setReasons r).conf = s.conf ∧ (s.setReasons r).ref = s.ref ∧
    (s.setReasons r).posn = s.posn ∧ (s.setReasons r).bus = s.bus ∧ (s.setReasons r).cues = s.cues ∧
    (s.setReasons r).plan = s.plan ∧ (s.setReasons r).pass = s.pass ∧ (s.setReasons r).sched = s.sched ∧
    (s.setReasons r).out = s.out ∧ (s.setReasons r).onset = s.onset ∧ (s.setReasons r).log = s.log ∧
    (s.setReasons r).marks = s.marks ∧ (s.setReasons r).resetnLow = s.resetnLow ∧ (s.setReasons r).pending = s.pending := by
  simp [State.setReasons]

@[simp] theorem offer_keeps (f : QueuedFrame) (m : Bool) (s : State) :
    ((offer f m s).2).port = s.port ∧ ((offer f m s).2).conf = s.conf ∧ ((offer f m s).2).ref = s.ref ∧
    ((offer f m s).2).posn = s.posn ∧ ((offer f m s).2).agr = s.agr ∧ ((offer f m s).2).cues = s.cues ∧
    ((offer f m s).2).plan = s.plan ∧ ((offer f m s).2).pass = s.pass ∧ ((offer f m s).2).sched = s.sched ∧
    ((offer f m s).2).out = s.out ∧ ((offer f m s).2).onset = s.onset ∧ ((offer f m s).2).log = s.log ∧
    ((offer f m s).2).marks = s.marks ∧ ((offer f m s).2).resetnLow = s.resetnLow ∧ ((offer f m s).2).pending = s.pending := by
  simp only [offer]
  (repeat' split) <;> simp

@[simp] theorem offerTagged_keeps (f : QueuedFrame) (m : Bool) (s : State) :
    (offerTagged f m s).conf = s.conf ∧ (offerTagged f m s).ref = s.ref ∧ (offerTagged f m s).posn = s.posn ∧
    (offerTagged f m s).agr = s.agr ∧ (offerTagged f m s).cues = s.cues ∧ (offerTagged f m s).plan = s.plan ∧
    (offerTagged f m s).pass = s.pass ∧ (offerTagged f m s).sched = s.sched ∧ (offerTagged f m s).out = s.out ∧
    (offerTagged f m s).onset = s.onset ∧ (offerTagged f m s).log = s.log ∧ (offerTagged f m s).marks = s.marks ∧
    (offerTagged f m s).resetnLow = s.resetnLow ∧ (offerTagged f m s).pending = s.pending ∧ (offerTagged f m s).port.part = s.port.part ∧
    (offerTagged f m s).port.stepRun = s.port.stepRun ∧ (offerTagged f m s).port.response = s.port.response ∧ (offerTagged f m s).port.sdo = s.port.sdo := by
  simp only [offerTagged]
  (repeat' split) <;> simp

@[simp] theorem offerInternal_keeps (f : QueuedFrame) (s : State) :
    (offerInternal f s).conf = s.conf ∧ (offerInternal f s).ref = s.ref ∧ (offerInternal f s).posn = s.posn ∧
    (offerInternal f s).agr = s.agr ∧ (offerInternal f s).cues = s.cues ∧ (offerInternal f s).plan = s.plan ∧
    (offerInternal f s).pass = s.pass ∧ (offerInternal f s).sched = s.sched ∧ (offerInternal f s).out = s.out ∧
    (offerInternal f s).onset = s.onset ∧ (offerInternal f s).log = s.log ∧ (offerInternal f s).marks = s.marks ∧
    (offerInternal f s).resetnLow = s.resetnLow ∧ (offerInternal f s).pending = s.pending ∧ (offerInternal f s).port.part = s.port.part ∧
    (offerInternal f s).port.stepRun = s.port.stepRun ∧ (offerInternal f s).port.response = s.port.response ∧ (offerInternal f s).port.sdo = s.port.sdo := by
  simp [offerInternal]

@[simp] theorem raiseReasons_keeps (r : OwnReasons) (s : State) :
    (raiseReasons r s).conf = s.conf ∧ (raiseReasons r s).ref = s.ref ∧ (raiseReasons r s).posn = s.posn ∧
    (raiseReasons r s).cues = s.cues ∧ (raiseReasons r s).plan = s.plan ∧ (raiseReasons r s).pass = s.pass ∧
    (raiseReasons r s).sched = s.sched ∧ (raiseReasons r s).out = s.out ∧ (raiseReasons r s).onset = s.onset ∧
    (raiseReasons r s).log = s.log ∧ (raiseReasons r s).marks = s.marks ∧ (raiseReasons r s).resetnLow = s.resetnLow ∧
    (raiseReasons r s).pending = s.pending ∧ (raiseReasons r s).port.part = s.port.part ∧ (raiseReasons r s).port.stepRun = s.port.stepRun ∧
    (raiseReasons r s).port.response = s.port.response ∧ (raiseReasons r s).port.sdo = s.port.sdo := by
  simp only [raiseReasons]
  (repeat' split) <;> simp

@[simp] theorem raiseLogFull_keeps (s : State) :
    (raiseLogFull s).conf = s.conf ∧ (raiseLogFull s).ref = s.ref ∧ (raiseLogFull s).posn = s.posn ∧
    (raiseLogFull s).cues = s.cues ∧ (raiseLogFull s).plan = s.plan ∧ (raiseLogFull s).pass = s.pass ∧
    (raiseLogFull s).sched = s.sched ∧ (raiseLogFull s).out = s.out ∧ (raiseLogFull s).onset = s.onset ∧
    (raiseLogFull s).log = s.log ∧ (raiseLogFull s).marks = s.marks ∧ (raiseLogFull s).resetnLow = s.resetnLow ∧
    (raiseLogFull s).pending = s.pending ∧ (raiseLogFull s).port.part = s.port.part ∧ (raiseLogFull s).port.stepRun = s.port.stepRun ∧
    (raiseLogFull s).port.response = s.port.response ∧ (raiseLogFull s).port.sdo = s.port.sdo := by
  simp only [raiseLogFull]
  (repeat' split) <;> simp

@[simp] theorem raiseMark_keeps (s : State) :
    (raiseMark s).conf = s.conf ∧ (raiseMark s).ref = s.ref ∧ (raiseMark s).posn = s.posn ∧
    (raiseMark s).cues = s.cues ∧ (raiseMark s).plan = s.plan ∧ (raiseMark s).pass = s.pass ∧
    (raiseMark s).sched = s.sched ∧ (raiseMark s).out = s.out ∧ (raiseMark s).onset = s.onset ∧
    (raiseMark s).log = s.log ∧ (raiseMark s).marks = s.marks ∧ (raiseMark s).resetnLow = s.resetnLow ∧
    (raiseMark s).pending = s.pending ∧ (raiseMark s).port.part = s.port.part ∧ (raiseMark s).port.stepRun = s.port.stepRun ∧
    (raiseMark s).port.response = s.port.response ∧ (raiseMark s).port.sdo = s.port.sdo := by
  simp only [raiseMark]
  (repeat' split) <;> simp

@[simp] theorem clearLogFull_keeps (s : State) :
    (clearLogFull s).conf = s.conf ∧ (clearLogFull s).ref = s.ref ∧ (clearLogFull s).posn = s.posn ∧
    (clearLogFull s).cues = s.cues ∧ (clearLogFull s).plan = s.plan ∧ (clearLogFull s).pass = s.pass ∧
    (clearLogFull s).sched = s.sched ∧ (clearLogFull s).out = s.out ∧ (clearLogFull s).onset = s.onset ∧
    (clearLogFull s).log = s.log ∧ (clearLogFull s).marks = s.marks ∧ (clearLogFull s).resetnLow = s.resetnLow ∧
    (clearLogFull s).pending = s.pending ∧ (clearLogFull s).port.part = s.port.part ∧ (clearLogFull s).port.stepRun = s.port.stepRun ∧
    (clearLogFull s).port.response = s.port.response ∧ (clearLogFull s).port.sdo = s.port.sdo := by
  simp only [clearLogFull]
  (repeat' split) <;> simp

@[simp] theorem recomputeAdvances_keeps (s : State) :
    (recomputeAdvances s).port = s.port ∧ (recomputeAdvances s).conf = s.conf ∧ (recomputeAdvances s).ref = s.ref ∧
    (recomputeAdvances s).posn = s.posn ∧ (recomputeAdvances s).bus = s.bus ∧ (recomputeAdvances s).agr = s.agr ∧
    (recomputeAdvances s).cues = s.cues ∧ (recomputeAdvances s).plan = s.plan ∧ (recomputeAdvances s).pass = s.pass ∧
    (recomputeAdvances s).out = s.out ∧ (recomputeAdvances s).onset = s.onset ∧ (recomputeAdvances s).log = s.log ∧
    (recomputeAdvances s).marks = s.marks ∧ (recomputeAdvances s).resetnLow = s.resetnLow ∧ (recomputeAdvances s).pending = s.pending := by
  simp [recomputeAdvances]

@[simp] theorem build_keeps (h : HeldSet) (s : State) :
    (build h s).port = s.port ∧ (build h s).conf = s.conf ∧ (build h s).ref = s.ref ∧
    (build h s).posn = s.posn ∧ (build h s).bus = s.bus ∧ (build h s).agr = s.agr ∧
    (build h s).cues = s.cues ∧ (build h s).plan = s.plan ∧ (build h s).pass = s.pass ∧
    (build h s).out = s.out ∧ (build h s).onset = s.onset ∧ (build h s).marks = s.marks ∧
    (build h s).resetnLow = s.resetnLow ∧ (build h s).pending = s.pending := by
  simp only [build]
  (repeat' split) <;> simp

@[simp] theorem requestBuild_keeps (s : State) :
    (requestBuild s).port = s.port ∧ (requestBuild s).conf = s.conf ∧ (requestBuild s).ref = s.ref ∧
    (requestBuild s).posn = s.posn ∧ (requestBuild s).bus = s.bus ∧ (requestBuild s).agr = s.agr ∧
    (requestBuild s).cues = s.cues ∧ (requestBuild s).plan = s.plan ∧ (requestBuild s).pass = s.pass ∧
    (requestBuild s).out = s.out ∧ (requestBuild s).onset = s.onset ∧ (requestBuild s).marks = s.marks ∧
    (requestBuild s).resetnLow = s.resetnLow ∧ (requestBuild s).pending = s.pending := by
  simp only [requestBuild]
  (repeat' split) <;> simp

@[simp] theorem emptyList_keeps (s : State) :
    (emptyList s).port = s.port ∧ (emptyList s).conf = s.conf ∧ (emptyList s).ref = s.ref ∧
    (emptyList s).posn = s.posn ∧ (emptyList s).bus = s.bus ∧ (emptyList s).agr = s.agr ∧
    (emptyList s).cues = s.cues ∧ (emptyList s).plan = s.plan ∧ (emptyList s).pass = s.pass ∧
    (emptyList s).out = s.out ∧ (emptyList s).onset = s.onset ∧ (emptyList s).log = s.log ∧
    (emptyList s).marks = s.marks ∧ (emptyList s).resetnLow = s.resetnLow ∧ (emptyList s).pending = s.pending := by
  simp [emptyList]

@[simp] theorem giveUpHeld_keeps (s : State) :
    (giveUpHeld s).port = s.port ∧ (giveUpHeld s).conf = s.conf ∧ (giveUpHeld s).ref = s.ref ∧
    (giveUpHeld s).posn = s.posn ∧ (giveUpHeld s).bus = s.bus ∧ (giveUpHeld s).agr = s.agr ∧
    (giveUpHeld s).cues = s.cues ∧ (giveUpHeld s).plan = s.plan ∧ (giveUpHeld s).pass = s.pass ∧
    (giveUpHeld s).out = s.out ∧ (giveUpHeld s).onset = s.onset ∧ (giveUpHeld s).log = s.log ∧
    (giveUpHeld s).marks = s.marks ∧ (giveUpHeld s).resetnLow = s.resetnLow ∧ (giveUpHeld s).pending = s.pending := by
  simp [giveUpHeld]

@[simp] theorem handHeld_keeps (h : HeldSet) (s : State) :
    (handHeld h s).port = s.port ∧ (handHeld h s).conf = s.conf ∧ (handHeld h s).ref = s.ref ∧
    (handHeld h s).posn = s.posn ∧ (handHeld h s).bus = s.bus ∧ (handHeld h s).agr = s.agr ∧
    (handHeld h s).cues = s.cues ∧ (handHeld h s).plan = s.plan ∧ (handHeld h s).pass = s.pass ∧
    (handHeld h s).out = s.out ∧ (handHeld h s).onset = s.onset ∧ (handHeld h s).marks = s.marks ∧
    (handHeld h s).resetnLow = s.resetnLow ∧ (handHeld h s).pending = s.pending := by
  simp [handHeld]

@[simp] theorem takeRate_keeps (r : Nat) (s : State) :
    (takeRate r s).port = s.port ∧ (takeRate r s).conf = s.conf ∧ (takeRate r s).ref = s.ref ∧
    (takeRate r s).bus = s.bus ∧ (takeRate r s).agr = s.agr ∧ (takeRate r s).cues = s.cues ∧
    (takeRate r s).plan = s.plan ∧ (takeRate r s).pass = s.pass ∧ (takeRate r s).out = s.out ∧
    (takeRate r s).onset = s.onset ∧ (takeRate r s).log = s.log ∧ (takeRate r s).marks = s.marks ∧
    (takeRate r s).resetnLow = s.resetnLow ∧ (takeRate r s).pending = s.pending := by
  simp [takeRate]

@[simp] theorem reserveTake_keeps (w : OwnWindow) (s : State) :
    (reserveTake w s).conf = s.conf ∧ (reserveTake w s).ref = s.ref ∧ (reserveTake w s).posn = s.posn ∧
    (reserveTake w s).cues = s.cues ∧ (reserveTake w s).plan = s.plan ∧ (reserveTake w s).pass = s.pass ∧
    (reserveTake w s).sched = s.sched ∧ (reserveTake w s).out = s.out ∧ (reserveTake w s).onset = s.onset ∧
    (reserveTake w s).marks = s.marks ∧ (reserveTake w s).resetnLow = s.resetnLow ∧ (reserveTake w s).pending = s.pending ∧
    (reserveTake w s).port.part = s.port.part ∧ (reserveTake w s).port.stepRun = s.port.stepRun ∧ (reserveTake w s).port.response = s.port.response ∧
    (reserveTake w s).port.sdo = s.port.sdo := by
  simp only [reserveTake]
  (repeat' split) <;> simp

@[simp] theorem closeTake_keeps (o : TakeOutcome) (s : State) :
    (closeTake o s).port = s.port ∧ (closeTake o s).conf = s.conf ∧ (closeTake o s).ref = s.ref ∧
    (closeTake o s).posn = s.posn ∧ (closeTake o s).bus = s.bus ∧ (closeTake o s).agr = s.agr ∧
    (closeTake o s).cues = s.cues ∧ (closeTake o s).plan = s.plan ∧ (closeTake o s).pass = s.pass ∧
    (closeTake o s).sched = s.sched ∧ (closeTake o s).out = s.out ∧ (closeTake o s).onset = s.onset ∧
    (closeTake o s).marks = s.marks ∧ (closeTake o s).resetnLow = s.resetnLow ∧ (closeTake o s).pending = s.pending := by
  simp [closeTake]

@[simp] theorem closeWindow_keeps (c : Nat) (s : State) :
    (closeWindow c s).port = s.port ∧ (closeWindow c s).conf = s.conf ∧ (closeWindow c s).ref = s.ref ∧
    (closeWindow c s).posn = s.posn ∧ (closeWindow c s).bus = s.bus ∧ (closeWindow c s).agr = s.agr ∧
    (closeWindow c s).cues = s.cues ∧ (closeWindow c s).plan = s.plan ∧ (closeWindow c s).pass = s.pass ∧
    (closeWindow c s).sched = s.sched ∧ (closeWindow c s).out = s.out ∧ (closeWindow c s).marks = s.marks ∧
    (closeWindow c s).resetnLow = s.resetnLow ∧ (closeWindow c s).pending = s.pending := by
  simp only [closeWindow]
  (repeat' split) <;> simp

@[simp] theorem closeWindows_keeps (s : State) :
    (closeWindows s).port = s.port ∧ (closeWindows s).conf = s.conf ∧ (closeWindows s).ref = s.ref ∧
    (closeWindows s).posn = s.posn ∧ (closeWindows s).bus = s.bus ∧ (closeWindows s).agr = s.agr ∧
    (closeWindows s).cues = s.cues ∧ (closeWindows s).plan = s.plan ∧ (closeWindows s).pass = s.pass ∧
    (closeWindows s).sched = s.sched ∧ (closeWindows s).out = s.out ∧ (closeWindows s).marks = s.marks ∧
    (closeWindows s).resetnLow = s.resetnLow ∧ (closeWindows s).pending = s.pending := by
  exact ⟨foldl_keeps (·.port) _ (fun t c => by simp) _ s,
    foldl_keeps (·.conf) _ (fun t c => by simp) _ s,
    foldl_keeps (·.ref) _ (fun t c => by simp) _ s,
    foldl_keeps (·.posn) _ (fun t c => by simp) _ s,
    foldl_keeps (·.bus) _ (fun t c => by simp) _ s,
    foldl_keeps (·.agr) _ (fun t c => by simp) _ s,
    foldl_keeps (·.cues) _ (fun t c => by simp) _ s,
    foldl_keeps (·.plan) _ (fun t c => by simp) _ s,
    foldl_keeps (·.pass) _ (fun t c => by simp) _ s,
    foldl_keeps (·.sched) _ (fun t c => by simp) _ s,
    foldl_keeps (·.out) _ (fun t c => by simp) _ s,
    foldl_keeps (·.marks) _ (fun t c => by simp) _ s,
    foldl_keeps (·.resetnLow) _ (fun t c => by simp) _ s,
    foldl_keeps (·.pending) _ (fun t c => by simp) _ s⟩

@[simp] theorem openWindows_keeps (s : State) :
    (openWindows s).port = s.port ∧ (openWindows s).conf = s.conf ∧ (openWindows s).ref = s.ref ∧
    (openWindows s).posn = s.posn ∧ (openWindows s).bus = s.bus ∧ (openWindows s).agr = s.agr ∧
    (openWindows s).cues = s.cues ∧ (openWindows s).plan = s.plan ∧ (openWindows s).pass = s.pass ∧
    (openWindows s).sched = s.sched ∧ (openWindows s).out = s.out ∧ (openWindows s).log = s.log ∧
    (openWindows s).marks = s.marks ∧ (openWindows s).resetnLow = s.resetnLow ∧ (openWindows s).pending = s.pending := by
  simp only [openWindows]
  (repeat' split) <;> simp

@[simp] theorem trigger_keeps (s : State) :
    (trigger s).port = s.port ∧ (trigger s).conf = s.conf ∧ (trigger s).ref = s.ref ∧
    (trigger s).posn = s.posn ∧ (trigger s).bus = s.bus ∧ (trigger s).agr = s.agr ∧
    (trigger s).cues = s.cues ∧ (trigger s).plan = s.plan ∧ (trigger s).pass = s.pass ∧
    (trigger s).sched = s.sched ∧ (trigger s).out = s.out ∧ (trigger s).marks = s.marks ∧
    (trigger s).resetnLow = s.resetnLow ∧ (trigger s).pending = s.pending := by
  simp only [trigger]
  (repeat' split) <;> simp

@[simp] theorem judgeSample_keeps (v : Nat) (s : State) :
    (judgeSample v s).port = s.port ∧ (judgeSample v s).conf = s.conf ∧ (judgeSample v s).ref = s.ref ∧
    (judgeSample v s).posn = s.posn ∧ (judgeSample v s).bus = s.bus ∧ (judgeSample v s).agr = s.agr ∧
    (judgeSample v s).cues = s.cues ∧ (judgeSample v s).plan = s.plan ∧ (judgeSample v s).pass = s.pass ∧
    (judgeSample v s).sched = s.sched ∧ (judgeSample v s).out = s.out ∧ (judgeSample v s).marks = s.marks ∧
    (judgeSample v s).resetnLow = s.resetnLow ∧ (judgeSample v s).pending = s.pending := by
  simp only [judgeSample]
  (repeat' split) <;> simp

@[simp] theorem arrive_keeps (v : Nat) (s : State) :
    (arrive v s).port = s.port ∧ (arrive v s).conf = s.conf ∧ (arrive v s).ref = s.ref ∧
    (arrive v s).posn = s.posn ∧ (arrive v s).bus = s.bus ∧ (arrive v s).agr = s.agr ∧
    (arrive v s).cues = s.cues ∧ (arrive v s).plan = s.plan ∧ (arrive v s).pass = s.pass ∧
    (arrive v s).sched = s.sched ∧ (arrive v s).out = s.out ∧ (arrive v s).marks = s.marks ∧
    (arrive v s).resetnLow = s.resetnLow ∧ (arrive v s).pending = s.pending := by
  simp only [arrive]
  (repeat' split) <;> simp

@[simp] theorem levelPulse_keeps (p : LevelPulse) (s : State) :
    (levelPulse s p).port = s.port ∧ (levelPulse s p).conf = s.conf ∧ (levelPulse s p).ref = s.ref ∧
    (levelPulse s p).posn = s.posn ∧ (levelPulse s p).bus = s.bus ∧ (levelPulse s p).agr = s.agr ∧
    (levelPulse s p).cues = s.cues ∧ (levelPulse s p).plan = s.plan ∧ (levelPulse s p).pass = s.pass ∧
    (levelPulse s p).sched = s.sched ∧ (levelPulse s p).out = s.out ∧ (levelPulse s p).marks = s.marks ∧
    (levelPulse s p).resetnLow = s.resetnLow ∧ (levelPulse s p).pending = s.pending := by
  simp only [levelPulse]
  (repeat' split) <;> simp

@[simp] theorem fireStreamer_keeps (e : Event) (s : State) :
    (fireStreamer e s).port = s.port ∧ (fireStreamer e s).conf = s.conf ∧ (fireStreamer e s).ref = s.ref ∧
    (fireStreamer e s).posn = s.posn ∧ (fireStreamer e s).bus = s.bus ∧ (fireStreamer e s).agr = s.agr ∧
    (fireStreamer e s).cues = s.cues ∧ (fireStreamer e s).plan = s.plan ∧ (fireStreamer e s).pass = s.pass ∧
    (fireStreamer e s).sched = s.sched ∧ (fireStreamer e s).onset = s.onset ∧ (fireStreamer e s).marks = s.marks ∧
    (fireStreamer e s).resetnLow = s.resetnLow ∧ (fireStreamer e s).pending = s.pending := by
  simp only [fireStreamer]
  (repeat' split) <;> simp

@[simp] theorem fireFlashOn_keeps (e : Event) (s : State) :
    (fireFlashOn e s).port = s.port ∧ (fireFlashOn e s).conf = s.conf ∧ (fireFlashOn e s).ref = s.ref ∧
    (fireFlashOn e s).posn = s.posn ∧ (fireFlashOn e s).bus = s.bus ∧ (fireFlashOn e s).agr = s.agr ∧
    (fireFlashOn e s).cues = s.cues ∧ (fireFlashOn e s).plan = s.plan ∧ (fireFlashOn e s).pass = s.pass ∧
    (fireFlashOn e s).sched = s.sched ∧ (fireFlashOn e s).onset = s.onset ∧ (fireFlashOn e s).log = s.log ∧
    (fireFlashOn e s).marks = s.marks ∧ (fireFlashOn e s).resetnLow = s.resetnLow ∧ (fireFlashOn e s).pending = s.pending := by
  simp only [fireFlashOn]
  (repeat' split) <;> simp

@[simp] theorem firePipOn_keeps (e : Event) (s : State) :
    (firePipOn e s).port = s.port ∧ (firePipOn e s).conf = s.conf ∧ (firePipOn e s).ref = s.ref ∧
    (firePipOn e s).posn = s.posn ∧ (firePipOn e s).bus = s.bus ∧ (firePipOn e s).agr = s.agr ∧
    (firePipOn e s).cues = s.cues ∧ (firePipOn e s).plan = s.plan ∧ (firePipOn e s).pass = s.pass ∧
    (firePipOn e s).sched = s.sched ∧ (firePipOn e s).onset = s.onset ∧ (firePipOn e s).log = s.log ∧
    (firePipOn e s).marks = s.marks ∧ (firePipOn e s).resetnLow = s.resetnLow ∧ (firePipOn e s).pending = s.pending := by
  simp only [firePipOn]
  (repeat' split) <;> simp

@[simp] theorem firePunchIn_keeps (e : Event) (s : State) :
    (firePunchIn e s).port = s.port ∧ (firePunchIn e s).conf = s.conf ∧ (firePunchIn e s).ref = s.ref ∧
    (firePunchIn e s).posn = s.posn ∧ (firePunchIn e s).bus = s.bus ∧ (firePunchIn e s).agr = s.agr ∧
    (firePunchIn e s).cues = s.cues ∧ (firePunchIn e s).plan = s.plan ∧ (firePunchIn e s).pass = s.pass ∧
    (firePunchIn e s).sched = s.sched ∧ (firePunchIn e s).onset = s.onset ∧ (firePunchIn e s).marks = s.marks ∧
    (firePunchIn e s).resetnLow = s.resetnLow ∧ (firePunchIn e s).pending = s.pending := by
  simp [firePunchIn]

@[simp] theorem firePunchOut_keeps (e : Event) (s : State) :
    (firePunchOut e s).port = s.port ∧ (firePunchOut e s).conf = s.conf ∧ (firePunchOut e s).ref = s.ref ∧
    (firePunchOut e s).posn = s.posn ∧ (firePunchOut e s).bus = s.bus ∧ (firePunchOut e s).agr = s.agr ∧
    (firePunchOut e s).cues = s.cues ∧ (firePunchOut e s).plan = s.plan ∧ (firePunchOut e s).pass = s.pass ∧
    (firePunchOut e s).sched = s.sched ∧ (firePunchOut e s).onset = s.onset ∧ (firePunchOut e s).marks = s.marks ∧
    (firePunchOut e s).resetnLow = s.resetnLow ∧ (firePunchOut e s).pending = s.pending := by
  simp [firePunchOut]

@[simp] theorem fireEvent_keeps (s : State) (e : Event) :
    (fireEvent s e).port = s.port ∧ (fireEvent s e).conf = s.conf ∧ (fireEvent s e).ref = s.ref ∧
    (fireEvent s e).posn = s.posn ∧ (fireEvent s e).bus = s.bus ∧ (fireEvent s e).agr = s.agr ∧
    (fireEvent s e).cues = s.cues ∧ (fireEvent s e).plan = s.plan ∧ (fireEvent s e).pass = s.pass ∧
    (fireEvent s e).sched = s.sched ∧ (fireEvent s e).marks = s.marks ∧ (fireEvent s e).resetnLow = s.resetnLow ∧
    (fireEvent s e).pending = s.pending := by
  simp only [fireEvent]
  (repeat' split) <;> simp

@[simp] theorem fireGroup_keeps (s : State) :
    (fireGroup s).port = s.port ∧ (fireGroup s).conf = s.conf ∧ (fireGroup s).ref = s.ref ∧
    (fireGroup s).posn = s.posn ∧ (fireGroup s).bus = s.bus ∧ (fireGroup s).agr = s.agr ∧
    (fireGroup s).cues = s.cues ∧ (fireGroup s).plan = s.plan ∧ (fireGroup s).pass = s.pass ∧
    (fireGroup s).marks = s.marks ∧ (fireGroup s).resetnLow = s.resetnLow ∧ (fireGroup s).pending = s.pending := by
  simp only [fireGroup]
  split
  · simp
  · exact ⟨(foldl_keeps (·.port) _ (fun t e => by simp) _ _).trans (by simp),
      (foldl_keeps (·.conf) _ (fun t e => by simp) _ _).trans (by simp),
      (foldl_keeps (·.ref) _ (fun t e => by simp) _ _).trans (by simp),
      (foldl_keeps (·.posn) _ (fun t e => by simp) _ _).trans (by simp),
      (foldl_keeps (·.bus) _ (fun t e => by simp) _ _).trans (by simp),
      (foldl_keeps (·.agr) _ (fun t e => by simp) _ _).trans (by simp),
      (foldl_keeps (·.cues) _ (fun t e => by simp) _ _).trans (by simp),
      (foldl_keeps (·.plan) _ (fun t e => by simp) _ _).trans (by simp),
      (foldl_keeps (·.pass) _ (fun t e => by simp) _ _).trans (by simp),
      (foldl_keeps (·.marks) _ (fun t e => by simp) _ _).trans (by simp),
      (foldl_keeps (·.resetnLow) _ (fun t e => by simp) _ _).trans (by simp),
      (foldl_keeps (·.pending) _ (fun t e => by simp) _ _).trans (by simp)⟩

@[simp] theorem handAdvance_keeps (s : State) :
    (handAdvance s).port = s.port ∧ (handAdvance s).conf = s.conf ∧ (handAdvance s).ref = s.ref ∧
    (handAdvance s).posn = s.posn ∧ (handAdvance s).bus = s.bus ∧ (handAdvance s).agr = s.agr ∧
    (handAdvance s).cues = s.cues ∧ (handAdvance s).plan = s.plan ∧ (handAdvance s).pass = s.pass ∧
    (handAdvance s).marks = s.marks ∧ (handAdvance s).resetnLow = s.resetnLow ∧ (handAdvance s).pending = s.pending := by
  simp [handAdvance]

@[simp] theorem forceToRest_keeps (s : State) :
    (forceToRest s).port = s.port ∧ (forceToRest s).conf = s.conf ∧ (forceToRest s).ref = s.ref ∧
    (forceToRest s).posn = s.posn ∧ (forceToRest s).bus = s.bus ∧ (forceToRest s).agr = s.agr ∧
    (forceToRest s).cues = s.cues ∧ (forceToRest s).plan = s.plan ∧ (forceToRest s).pass = s.pass ∧
    (forceToRest s).sched = s.sched ∧ (forceToRest s).onset = s.onset ∧ (forceToRest s).log = s.log ∧
    (forceToRest s).marks = s.marks ∧ (forceToRest s).resetnLow = s.resetnLow ∧ (forceToRest s).pending = s.pending := by
  simp [forceToRest]

@[simp] theorem compose_keeps (s : State) :
    (compose s).port = s.port ∧ (compose s).conf = s.conf ∧ (compose s).ref = s.ref ∧
    (compose s).posn = s.posn ∧ (compose s).bus = s.bus ∧ (compose s).agr = s.agr ∧
    (compose s).cues = s.cues ∧ (compose s).plan = s.plan ∧ (compose s).pass = s.pass ∧
    (compose s).sched = s.sched ∧ (compose s).onset = s.onset ∧ (compose s).log = s.log ∧
    (compose s).marks = s.marks ∧ (compose s).resetnLow = s.resetnLow ∧ (compose s).pending = s.pending := by
  simp [compose]

@[simp] theorem takeSearch_keeps (r : SearchResult) (s : State) :
    (takeSearch r s).conf = s.conf ∧ (takeSearch r s).ref = s.ref ∧ (takeSearch r s).posn = s.posn ∧
    (takeSearch r s).bus = s.bus ∧ (takeSearch r s).agr = s.agr ∧ (takeSearch r s).cues = s.cues ∧
    (takeSearch r s).pass = s.pass ∧ (takeSearch r s).sched = s.sched ∧ (takeSearch r s).out = s.out ∧
    (takeSearch r s).onset = s.onset ∧ (takeSearch r s).log = s.log ∧ (takeSearch r s).marks = s.marks ∧
    (takeSearch r s).resetnLow = s.resetnLow ∧ (takeSearch r s).pending = s.pending ∧ (takeSearch r s).port.part = s.port.part ∧
    (takeSearch r s).port.stepRun = s.port.stepRun ∧ (takeSearch r s).port.response = s.port.response ∧ (takeSearch r s).port.sdo = s.port.sdo := by
  simp only [takeSearch]
  split
  · exact ⟨foldl_keeps (·.conf) _ (fun t e => by simp) _ s,
      foldl_keeps (·.ref) _ (fun t e => by simp) _ s,
      foldl_keeps (·.posn) _ (fun t e => by simp) _ s,
      foldl_keeps (·.bus) _ (fun t e => by simp) _ s,
      foldl_keeps (·.agr) _ (fun t e => by simp) _ s,
      foldl_keeps (·.cues) _ (fun t e => by simp) _ s,
      foldl_keeps (·.pass) _ (fun t e => by simp) _ s,
      foldl_keeps (·.sched) _ (fun t e => by simp) _ s,
      foldl_keeps (·.out) _ (fun t e => by simp) _ s,
      foldl_keeps (·.onset) _ (fun t e => by simp) _ s,
      foldl_keeps (·.log) _ (fun t e => by simp) _ s,
      foldl_keeps (·.marks) _ (fun t e => by simp) _ s,
      foldl_keeps (·.resetnLow) _ (fun t e => by simp) _ s,
      foldl_keeps (·.pending) _ (fun t e => by simp) _ s,
      foldl_keeps (·.port.part) _ (fun t e => by simp) _ s,
      foldl_keeps (·.port.stepRun) _ (fun t e => by simp) _ s,
      foldl_keeps (·.port.response) _ (fun t e => by simp) _ s,
      foldl_keeps (·.port.sdo) _ (fun t e => by simp) _ s⟩
  · exact ⟨foldl_keeps (·.conf) _ (fun t e => by simp) _ s,
      foldl_keeps (·.ref) _ (fun t e => by simp) _ s,
      foldl_keeps (·.posn) _ (fun t e => by simp) _ s,
      foldl_keeps (·.bus) _ (fun t e => by simp) _ s,
      foldl_keeps (·.agr) _ (fun t e => by simp) _ s,
      foldl_keeps (·.cues) _ (fun t e => by simp) _ s,
      foldl_keeps (·.pass) _ (fun t e => by simp) _ s,
      foldl_keeps (·.sched) _ (fun t e => by simp) _ s,
      foldl_keeps (·.out) _ (fun t e => by simp) _ s,
      foldl_keeps (·.onset) _ (fun t e => by simp) _ s,
      foldl_keeps (·.log) _ (fun t e => by simp) _ s,
      foldl_keeps (·.marks) _ (fun t e => by simp) _ s,
      foldl_keeps (·.resetnLow) _ (fun t e => by simp) _ s,
      foldl_keeps (·.pending) _ (fun t e => by simp) _ s,
      foldl_keeps (·.port.part) _ (fun t e => by simp) _ s,
      foldl_keeps (·.port.stepRun) _ (fun t e => by simp) _ s,
      foldl_keeps (·.port.response) _ (fun t e => by simp) _ s,
      foldl_keeps (·.port.sdo) _ (fun t e => by simp) _ s⟩

@[simp] theorem searchAnswer_keeps (p : SearchPos) (s : State) :
    ((searchAnswer p s).1).conf = s.conf ∧ ((searchAnswer p s).1).ref = s.ref ∧ ((searchAnswer p s).1).posn = s.posn ∧
    ((searchAnswer p s).1).bus = s.bus ∧ ((searchAnswer p s).1).agr = s.agr ∧ ((searchAnswer p s).1).cues = s.cues ∧
    ((searchAnswer p s).1).pass = s.pass ∧ ((searchAnswer p s).1).sched = s.sched ∧ ((searchAnswer p s).1).out = s.out ∧
    ((searchAnswer p s).1).onset = s.onset ∧ ((searchAnswer p s).1).log = s.log ∧ ((searchAnswer p s).1).marks = s.marks ∧
    ((searchAnswer p s).1).resetnLow = s.resetnLow ∧ ((searchAnswer p s).1).pending = s.pending ∧ ((searchAnswer p s).1).port.part = s.port.part ∧
    ((searchAnswer p s).1).port.stepRun = s.port.stepRun ∧ ((searchAnswer p s).1).port.response = s.port.response ∧ ((searchAnswer p s).1).port.sdo = s.port.sdo := by
  simp [searchAnswer]

@[simp] theorem planStart_keeps (s : State) :
    ((planStart s).1).conf = s.conf ∧ ((planStart s).1).ref = s.ref ∧ ((planStart s).1).posn = s.posn ∧
    ((planStart s).1).bus = s.bus ∧ ((planStart s).1).agr = s.agr ∧ ((planStart s).1).cues = s.cues ∧
    ((planStart s).1).pass = s.pass ∧ ((planStart s).1).sched = s.sched ∧ ((planStart s).1).out = s.out ∧
    ((planStart s).1).onset = s.onset ∧ ((planStart s).1).log = s.log ∧ ((planStart s).1).marks = s.marks ∧
    ((planStart s).1).resetnLow = s.resetnLow ∧ ((planStart s).1).pending = s.pending ∧ ((planStart s).1).port.part = s.port.part ∧
    ((planStart s).1).port.stepRun = s.port.stepRun ∧ ((planStart s).1).port.response = s.port.response ∧ ((planStart s).1).port.sdo = s.port.sdo := by
  simp [planStart]

@[simp] theorem planSame_keeps (i : Nat) (s : State) :
    ((planSame i s).1).conf = s.conf ∧ ((planSame i s).1).ref = s.ref ∧ ((planSame i s).1).posn = s.posn ∧
    ((planSame i s).1).bus = s.bus ∧ ((planSame i s).1).agr = s.agr ∧ ((planSame i s).1).cues = s.cues ∧
    ((planSame i s).1).pass = s.pass ∧ ((planSame i s).1).sched = s.sched ∧ ((planSame i s).1).out = s.out ∧
    ((planSame i s).1).onset = s.onset ∧ ((planSame i s).1).log = s.log ∧ ((planSame i s).1).marks = s.marks ∧
    ((planSame i s).1).resetnLow = s.resetnLow ∧ ((planSame i s).1).pending = s.pending ∧ ((planSame i s).1).port.part = s.port.part ∧
    ((planSame i s).1).port.stepRun = s.port.stepRun ∧ ((planSame i s).1).port.response = s.port.response ∧ ((planSame i s).1).port.sdo = s.port.sdo := by
  simp only [planSame]
  (repeat' split) <;> simp

@[simp] theorem planAdvance_keeps (s : State) :
    ((planAdvance s).1).conf = s.conf ∧ ((planAdvance s).1).ref = s.ref ∧ ((planAdvance s).1).posn = s.posn ∧
    ((planAdvance s).1).bus = s.bus ∧ ((planAdvance s).1).agr = s.agr ∧ ((planAdvance s).1).cues = s.cues ∧
    ((planAdvance s).1).pass = s.pass ∧ ((planAdvance s).1).sched = s.sched ∧ ((planAdvance s).1).out = s.out ∧
    ((planAdvance s).1).onset = s.onset ∧ ((planAdvance s).1).log = s.log ∧ ((planAdvance s).1).marks = s.marks ∧
    ((planAdvance s).1).resetnLow = s.resetnLow ∧ ((planAdvance s).1).pending = s.pending ∧ ((planAdvance s).1).port.part = s.port.part ∧
    ((planAdvance s).1).port.stepRun = s.port.stepRun ∧ ((planAdvance s).1).port.response = s.port.response ∧ ((planAdvance s).1).port.sdo = s.port.sdo := by
  simp only [planAdvance]
  (repeat' split) <;> simp

@[simp] theorem planAgain_keeps (s : State) :
    ((planAgain s).1).conf = s.conf ∧ ((planAgain s).1).ref = s.ref ∧ ((planAgain s).1).posn = s.posn ∧
    ((planAgain s).1).bus = s.bus ∧ ((planAgain s).1).agr = s.agr ∧ ((planAgain s).1).cues = s.cues ∧
    ((planAgain s).1).pass = s.pass ∧ ((planAgain s).1).sched = s.sched ∧ ((planAgain s).1).out = s.out ∧
    ((planAgain s).1).onset = s.onset ∧ ((planAgain s).1).log = s.log ∧ ((planAgain s).1).marks = s.marks ∧
    ((planAgain s).1).resetnLow = s.resetnLow ∧ ((planAgain s).1).pending = s.pending ∧ ((planAgain s).1).port.part = s.port.part ∧
    ((planAgain s).1).port.stepRun = s.port.stepRun ∧ ((planAgain s).1).port.response = s.port.response ∧ ((planAgain s).1).port.sdo = s.port.sdo := by
  simp only [planAgain]
  (repeat' split) <;> simp

@[simp] theorem planGiveUp_keeps (s : State) :
    ((planGiveUp s).1).conf = s.conf ∧ ((planGiveUp s).1).ref = s.ref ∧ ((planGiveUp s).1).posn = s.posn ∧
    ((planGiveUp s).1).bus = s.bus ∧ ((planGiveUp s).1).agr = s.agr ∧ ((planGiveUp s).1).cues = s.cues ∧
    ((planGiveUp s).1).pass = s.pass ∧ ((planGiveUp s).1).sched = s.sched ∧ ((planGiveUp s).1).out = s.out ∧
    ((planGiveUp s).1).onset = s.onset ∧ ((planGiveUp s).1).log = s.log ∧ ((planGiveUp s).1).marks = s.marks ∧
    ((planGiveUp s).1).resetnLow = s.resetnLow ∧ ((planGiveUp s).1).pending = s.pending ∧ ((planGiveUp s).1).port.part = s.port.part ∧
    ((planGiveUp s).1).port.stepRun = s.port.stepRun ∧ ((planGiveUp s).1).port.response = s.port.response ∧ ((planGiveUp s).1).port.sdo = s.port.sdo := by
  simp only [planGiveUp]
  (repeat' split) <;> simp

@[simp] theorem pinSet_keeps (ids : List Nat) (s : State) :
    (pinSet ids s).port = s.port ∧ (pinSet ids s).conf = s.conf ∧ (pinSet ids s).ref = s.ref ∧
    (pinSet ids s).posn = s.posn ∧ (pinSet ids s).bus = s.bus ∧ (pinSet ids s).agr = s.agr ∧
    (pinSet ids s).plan = s.plan ∧ (pinSet ids s).pass = s.pass ∧ (pinSet ids s).sched = s.sched ∧
    (pinSet ids s).out = s.out ∧ (pinSet ids s).onset = s.onset ∧ (pinSet ids s).log = s.log ∧
    (pinSet ids s).marks = s.marks ∧ (pinSet ids s).resetnLow = s.resetnLow ∧ (pinSet ids s).pending = s.pending := by
  simp [pinSet]

@[simp] theorem clearPins_keeps (s : State) :
    (clearPins s).port = s.port ∧ (clearPins s).conf = s.conf ∧ (clearPins s).ref = s.ref ∧
    (clearPins s).posn = s.posn ∧ (clearPins s).bus = s.bus ∧ (clearPins s).agr = s.agr ∧
    (clearPins s).plan = s.plan ∧ (clearPins s).pass = s.pass ∧ (clearPins s).sched = s.sched ∧
    (clearPins s).out = s.out ∧ (clearPins s).onset = s.onset ∧ (clearPins s).log = s.log ∧
    (clearPins s).marks = s.marks ∧ (clearPins s).resetnLow = s.resetnLow ∧ (clearPins s).pending = s.pending := by
  simp [clearPins]

@[simp] theorem prepare_keeps (a : PlanAnswer) (st : PassState) (s : State) :
    (prepare a st s).port = s.port ∧ (prepare a st s).conf = s.conf ∧ (prepare a st s).ref = s.ref ∧
    (prepare a st s).posn = s.posn ∧ (prepare a st s).bus = s.bus ∧ (prepare a st s).agr = s.agr ∧
    (prepare a st s).plan = s.plan ∧ (prepare a st s).out = s.out ∧ (prepare a st s).onset = s.onset ∧
    (prepare a st s).marks = s.marks ∧ (prepare a st s).resetnLow = s.resetnLow ∧ (prepare a st s).pending = s.pending := by
  simp [prepare]

@[simp] theorem offerWindow_keeps (s : State) :
    (offerWindow s).conf = s.conf ∧ (offerWindow s).ref = s.ref ∧ (offerWindow s).posn = s.posn ∧
    (offerWindow s).agr = s.agr ∧ (offerWindow s).cues = s.cues ∧ (offerWindow s).plan = s.plan ∧
    (offerWindow s).pass = s.pass ∧ (offerWindow s).sched = s.sched ∧ (offerWindow s).out = s.out ∧
    (offerWindow s).onset = s.onset ∧ (offerWindow s).log = s.log ∧ (offerWindow s).marks = s.marks ∧
    (offerWindow s).resetnLow = s.resetnLow ∧ (offerWindow s).pending = s.pending ∧ (offerWindow s).port.part = s.port.part ∧
    (offerWindow s).port.stepRun = s.port.stepRun ∧ (offerWindow s).port.response = s.port.response ∧ (offerWindow s).port.sdo = s.port.sdo := by
  simp only [offerWindow]
  (repeat' split) <;> simp

@[simp] theorem giveUpPass_keeps (s : State) :
    (giveUpPass s).port = s.port ∧ (giveUpPass s).conf = s.conf ∧ (giveUpPass s).ref = s.ref ∧
    (giveUpPass s).posn = s.posn ∧ (giveUpPass s).bus = s.bus ∧ (giveUpPass s).agr = s.agr ∧
    (giveUpPass s).plan = s.plan ∧ (giveUpPass s).out = s.out ∧ (giveUpPass s).onset = s.onset ∧
    (giveUpPass s).log = s.log ∧ (giveUpPass s).marks = s.marks ∧ (giveUpPass s).resetnLow = s.resetnLow ∧
    (giveUpPass s).pending = s.pending := by
  simp [giveUpPass]

@[simp] theorem relabel_keeps (n : Nat) (s : State) :
    (relabel n s).port = s.port ∧ (relabel n s).conf = s.conf ∧ (relabel n s).ref = s.ref ∧
    (relabel n s).posn = s.posn ∧ (relabel n s).bus = s.bus ∧ (relabel n s).agr = s.agr ∧
    (relabel n s).cues = s.cues ∧ (relabel n s).plan = s.plan ∧ (relabel n s).sched = s.sched ∧
    (relabel n s).out = s.out ∧ (relabel n s).onset = s.onset ∧ (relabel n s).log = s.log ∧
    (relabel n s).marks = s.marks ∧ (relabel n s).resetnLow = s.resetnLow ∧ (relabel n s).pending = s.pending := by
  simp [relabel]

@[simp] theorem State.setWindows_keeps (s : State) (ws : List WindowEntry) :
    (s.setWindows ws).port = s.port ∧ (s.setWindows ws).conf = s.conf ∧ (s.setWindows ws).ref = s.ref ∧
    (s.setWindows ws).posn = s.posn ∧ (s.setWindows ws).bus = s.bus ∧ (s.setWindows ws).agr = s.agr ∧
    (s.setWindows ws).cues = s.cues ∧ (s.setWindows ws).plan = s.plan ∧ (s.setWindows ws).sched = s.sched ∧
    (s.setWindows ws).out = s.out ∧ (s.setWindows ws).onset = s.onset ∧ (s.setWindows ws).log = s.log ∧
    (s.setWindows ws).marks = s.marks ∧ (s.setWindows ws).resetnLow = s.resetnLow ∧ (s.setWindows ws).pending = s.pending := by
  simp [State.setWindows]

@[simp] theorem applyWindow_keeps (a n c i o : Nat) (s : State) :
    (applyWindow a n c i o s).port = s.port ∧ (applyWindow a n c i o s).conf = s.conf ∧ (applyWindow a n c i o s).ref = s.ref ∧
    (applyWindow a n c i o s).posn = s.posn ∧ (applyWindow a n c i o s).bus = s.bus ∧ (applyWindow a n c i o s).agr = s.agr ∧
    (applyWindow a n c i o s).cues = s.cues ∧ (applyWindow a n c i o s).plan = s.plan ∧ (applyWindow a n c i o s).sched = s.sched ∧
    (applyWindow a n c i o s).out = s.out ∧ (applyWindow a n c i o s).onset = s.onset ∧ (applyWindow a n c i o s).log = s.log ∧
    (applyWindow a n c i o s).marks = s.marks ∧ (applyWindow a n c i o s).resetnLow = s.resetnLow ∧ (applyWindow a n c i o s).pending = s.pending := by
  simp [applyWindow]

@[simp] theorem dropWindow_keeps (a : Nat) (s : State) :
    (dropWindow a s).port = s.port ∧ (dropWindow a s).conf = s.conf ∧ (dropWindow a s).ref = s.ref ∧
    (dropWindow a s).posn = s.posn ∧ (dropWindow a s).bus = s.bus ∧ (dropWindow a s).agr = s.agr ∧
    (dropWindow a s).cues = s.cues ∧ (dropWindow a s).plan = s.plan ∧ (dropWindow a s).sched = s.sched ∧
    (dropWindow a s).out = s.out ∧ (dropWindow a s).onset = s.onset ∧ (dropWindow a s).log = s.log ∧
    (dropWindow a s).marks = s.marks ∧ (dropWindow a s).resetnLow = s.resetnLow ∧ (dropWindow a s).pending = s.pending := by
  simp [dropWindow]

@[simp] theorem markWindow_keeps (a n : Nat) (st : WindowStatus) (m : Bool) (s : State) :
    (markWindow a n st m s).port = s.port ∧ (markWindow a n st m s).conf = s.conf ∧ (markWindow a n st m s).ref = s.ref ∧
    (markWindow a n st m s).posn = s.posn ∧ (markWindow a n st m s).bus = s.bus ∧ (markWindow a n st m s).agr = s.agr ∧
    (markWindow a n st m s).cues = s.cues ∧ (markWindow a n st m s).plan = s.plan ∧ (markWindow a n st m s).sched = s.sched ∧
    (markWindow a n st m s).out = s.out ∧ (markWindow a n st m s).onset = s.onset ∧ (markWindow a n st m s).log = s.log ∧
    (markWindow a n st m s).marks = s.marks ∧ (markWindow a n st m s).resetnLow = s.resetnLow ∧ (markWindow a n st m s).pending = s.pending := by
  simp [markWindow]

@[simp] theorem applyDone_keeps (a n : Nat) (oc : DoneOutcome) (m : Bool) (s : State) :
    (applyDone a n oc m s).port = s.port ∧ (applyDone a n oc m s).conf = s.conf ∧ (applyDone a n oc m s).ref = s.ref ∧
    (applyDone a n oc m s).posn = s.posn ∧ (applyDone a n oc m s).bus = s.bus ∧ (applyDone a n oc m s).agr = s.agr ∧
    (applyDone a n oc m s).cues = s.cues ∧ (applyDone a n oc m s).plan = s.plan ∧ (applyDone a n oc m s).sched = s.sched ∧
    (applyDone a n oc m s).out = s.out ∧ (applyDone a n oc m s).onset = s.onset ∧ (applyDone a n oc m s).log = s.log ∧
    (applyDone a n oc m s).marks = s.marks ∧ (applyDone a n oc m s).resetnLow = s.resetnLow ∧ (applyDone a n oc m s).pending = s.pending := by
  simp only [applyDone]
  (repeat' split) <;> simp

@[simp] theorem pruneWindows_keeps (n : Nat) (s : State) :
    (pruneWindows n s).port = s.port ∧ (pruneWindows n s).conf = s.conf ∧ (pruneWindows n s).ref = s.ref ∧
    (pruneWindows n s).posn = s.posn ∧ (pruneWindows n s).bus = s.bus ∧ (pruneWindows n s).agr = s.agr ∧
    (pruneWindows n s).cues = s.cues ∧ (pruneWindows n s).plan = s.plan ∧ (pruneWindows n s).sched = s.sched ∧
    (pruneWindows n s).out = s.out ∧ (pruneWindows n s).onset = s.onset ∧ (pruneWindows n s).log = s.log ∧
    (pruneWindows n s).marks = s.marks ∧ (pruneWindows n s).resetnLow = s.resetnLow ∧ (pruneWindows n s).pending = s.pending := by
  simp [pruneWindows]

@[simp] theorem idleBeacon_keeps (a : Nat) (s : State) :
    (idleBeacon a s).port = s.port ∧ (idleBeacon a s).conf = s.conf ∧ (idleBeacon a s).ref = s.ref ∧
    (idleBeacon a s).posn = s.posn ∧ (idleBeacon a s).bus = s.bus ∧ (idleBeacon a s).agr = s.agr ∧
    (idleBeacon a s).cues = s.cues ∧ (idleBeacon a s).plan = s.plan ∧ (idleBeacon a s).sched = s.sched ∧
    (idleBeacon a s).out = s.out ∧ (idleBeacon a s).onset = s.onset ∧ (idleBeacon a s).log = s.log ∧
    (idleBeacon a s).marks = s.marks ∧ (idleBeacon a s).resetnLow = s.resetnLow ∧ (idleBeacon a s).pending = s.pending := by
  simp only [idleBeacon]
  (repeat' split) <;> simp

@[simp] theorem beginPass_keeps (w : OwnWindow) (s : State) :
    (beginPass w s).conf = s.conf ∧ (beginPass w s).ref = s.ref ∧ (beginPass w s).posn = s.posn ∧
    (beginPass w s).cues = s.cues ∧ (beginPass w s).plan = s.plan ∧ (beginPass w s).out = s.out ∧
    (beginPass w s).onset = s.onset ∧ (beginPass w s).marks = s.marks ∧ (beginPass w s).resetnLow = s.resetnLow ∧
    (beginPass w s).pending = s.pending ∧ (beginPass w s).port.part = s.port.part ∧ (beginPass w s).port.stepRun = s.port.stepRun ∧
    (beginPass w s).port.response = s.port.response ∧ (beginPass w s).port.sdo = s.port.sdo := by
  simp [beginPass]

@[simp] theorem skipPass_keeps (w : OwnWindow) (s : State) :
    (skipPass w s).conf = s.conf ∧ (skipPass w s).ref = s.ref ∧ (skipPass w s).posn = s.posn ∧
    (skipPass w s).agr = s.agr ∧ (skipPass w s).cues = s.cues ∧ (skipPass w s).plan = s.plan ∧
    (skipPass w s).out = s.out ∧ (skipPass w s).onset = s.onset ∧ (skipPass w s).log = s.log ∧
    (skipPass w s).marks = s.marks ∧ (skipPass w s).resetnLow = s.resetnLow ∧ (skipPass w s).pending = s.pending ∧
    (skipPass w s).port.part = s.port.part ∧ (skipPass w s).port.stepRun = s.port.stepRun ∧ (skipPass w s).port.response = s.port.response ∧
    (skipPass w s).port.sdo = s.port.sdo := by
  simp [skipPass]

@[simp] theorem missRoll_keeps (w : OwnWindow) (s : State) :
    (missRoll w s).port = s.port ∧ (missRoll w s).conf = s.conf ∧ (missRoll w s).ref = s.ref ∧
    (missRoll w s).posn = s.posn ∧ (missRoll w s).bus = s.bus ∧ (missRoll w s).agr = s.agr ∧
    (missRoll w s).cues = s.cues ∧ (missRoll w s).plan = s.plan ∧ (missRoll w s).out = s.out ∧
    (missRoll w s).onset = s.onset ∧ (missRoll w s).log = s.log ∧ (missRoll w s).marks = s.marks ∧
    (missRoll w s).resetnLow = s.resetnLow ∧ (missRoll w s).pending = s.pending := by
  simp only [missRoll]
  (repeat' split) <;> simp

@[simp] theorem rollEntry_keeps (s : State) :
    (rollEntry s).conf = s.conf ∧ (rollEntry s).ref = s.ref ∧ (rollEntry s).posn = s.posn ∧
    (rollEntry s).cues = s.cues ∧ (rollEntry s).plan = s.plan ∧ (rollEntry s).out = s.out ∧
    (rollEntry s).onset = s.onset ∧ (rollEntry s).marks = s.marks ∧ (rollEntry s).resetnLow = s.resetnLow ∧
    (rollEntry s).pending = s.pending ∧ (rollEntry s).port.part = s.port.part ∧ (rollEntry s).port.stepRun = s.port.stepRun ∧
    (rollEntry s).port.response = s.port.response ∧ (rollEntry s).port.sdo = s.port.sdo := by
  simp only [rollEntry]
  (repeat' split) <;> simp

@[simp] theorem clearPass_keeps (s : State) :
    (clearPass s).conf = s.conf ∧ (clearPass s).ref = s.ref ∧ (clearPass s).posn = s.posn ∧
    (clearPass s).agr = s.agr ∧ (clearPass s).out = s.out ∧ (clearPass s).marks = s.marks ∧
    (clearPass s).resetnLow = s.resetnLow ∧ (clearPass s).pending = s.pending ∧ (clearPass s).port.part = s.port.part ∧
    (clearPass s).port.stepRun = s.port.stepRun ∧ (clearPass s).port.response = s.port.response ∧ (clearPass s).port.sdo = s.port.sdo := by
  have h := planAdvance_keeps
    (post .takeReady (currentTake s) (post .passCleared (currentTake s) (closeTake .complete (closeWindows s))))
  simp only [clearPass]
  split <;> rename_i heq <;> rw [heq] at h <;> simp at h <;> simp [h]

@[simp] theorem clearingTest_keeps (s : State) :
    (clearingTest s).conf = s.conf ∧ (clearingTest s).ref = s.ref ∧ (clearingTest s).posn = s.posn ∧
    (clearingTest s).agr = s.agr ∧ (clearingTest s).out = s.out ∧ (clearingTest s).marks = s.marks ∧
    (clearingTest s).resetnLow = s.resetnLow ∧ (clearingTest s).pending = s.pending ∧ (clearingTest s).port.part = s.port.part ∧
    (clearingTest s).port.stepRun = s.port.stepRun ∧ (clearingTest s).port.response = s.port.response ∧ (clearingTest s).port.sdo = s.port.sdo := by
  simp only [clearingTest]
  (repeat' split) <;> simp

@[simp] theorem endClosureCount_keeps (s : State) :
    (endClosureCount s).port = s.port ∧ (endClosureCount s).conf = s.conf ∧ (endClosureCount s).ref = s.ref ∧
    (endClosureCount s).posn = s.posn ∧ (endClosureCount s).bus = s.bus ∧ (endClosureCount s).agr = s.agr ∧
    (endClosureCount s).cues = s.cues ∧ (endClosureCount s).plan = s.plan ∧ (endClosureCount s).sched = s.sched ∧
    (endClosureCount s).out = s.out ∧ (endClosureCount s).onset = s.onset ∧ (endClosureCount s).log = s.log ∧
    (endClosureCount s).marks = s.marks ∧ (endClosureCount s).resetnLow = s.resetnLow ∧ (endClosureCount s).pending = s.pending := by
  simp [endClosureCount]

@[simp] theorem abandonPass_keeps (s : State) :
    (abandonPass s).conf = s.conf ∧ (abandonPass s).ref = s.ref ∧ (abandonPass s).posn = s.posn ∧
    (abandonPass s).agr = s.agr ∧ (abandonPass s).marks = s.marks ∧ (abandonPass s).resetnLow = s.resetnLow ∧
    (abandonPass s).pending = s.pending ∧ (abandonPass s).port.part = s.port.part ∧ (abandonPass s).port.stepRun = s.port.stepRun ∧
    (abandonPass s).port.response = s.port.response ∧ (abandonPass s).port.sdo = s.port.sdo := by
  have h := planAgain_keeps (emptyList (forceToRest
    (post .passAbandoned (currentTake s) (closeTake .abandoned (closeWindows s)))))
  simp only [abandonPass]
  split <;> rename_i heq <;> rw [heq] at h <;> simp at h <;> simp [h]

@[simp] theorem leaveCleared_keeps (s : State) :
    (leaveCleared s).port = s.port ∧ (leaveCleared s).conf = s.conf ∧ (leaveCleared s).ref = s.ref ∧
    (leaveCleared s).posn = s.posn ∧ (leaveCleared s).bus = s.bus ∧ (leaveCleared s).agr = s.agr ∧
    (leaveCleared s).cues = s.cues ∧ (leaveCleared s).plan = s.plan ∧ (leaveCleared s).sched = s.sched ∧
    (leaveCleared s).out = s.out ∧ (leaveCleared s).onset = s.onset ∧ (leaveCleared s).log = s.log ∧
    (leaveCleared s).marks = s.marks ∧ (leaveCleared s).resetnLow = s.resetnLow ∧ (leaveCleared s).pending = s.pending := by
  simp only [leaveCleared]
  (repeat' split) <;> simp

@[simp] theorem passStop_keeps (s : State) :
    (passStop s).conf = s.conf ∧ (passStop s).ref = s.ref ∧ (passStop s).posn = s.posn ∧
    (passStop s).agr = s.agr ∧ (passStop s).marks = s.marks ∧ (passStop s).resetnLow = s.resetnLow ∧
    (passStop s).pending = s.pending ∧ (passStop s).port.part = s.port.part ∧ (passStop s).port.stepRun = s.port.stepRun ∧
    (passStop s).port.response = s.port.response ∧ (passStop s).port.sdo = s.port.sdo := by
  simp only [passStop]
  (repeat' split) <;> simp

@[simp] theorem passLocate_keeps (s : State) :
    (passLocate s).conf = s.conf ∧ (passLocate s).ref = s.ref ∧ (passLocate s).posn = s.posn ∧
    (passLocate s).agr = s.agr ∧ (passLocate s).marks = s.marks ∧ (passLocate s).resetnLow = s.resetnLow ∧
    (passLocate s).pending = s.pending ∧ (passLocate s).port.part = s.port.part ∧ (passLocate s).port.stepRun = s.port.stepRun ∧
    (passLocate s).port.response = s.port.response ∧ (passLocate s).port.sdo = s.port.sdo := by
  simp only [passLocate]
  (repeat' split) <;> simp

@[simp] theorem reLocate_keeps (t : Nat) (s : State) :
    (reLocate t s).conf = s.conf ∧ (reLocate t s).ref = s.ref ∧ (reLocate t s).posn = s.posn ∧
    (reLocate t s).agr = s.agr ∧ (reLocate t s).cues = s.cues ∧ (reLocate t s).plan = s.plan ∧
    (reLocate t s).pass = s.pass ∧ (reLocate t s).sched = s.sched ∧ (reLocate t s).out = s.out ∧
    (reLocate t s).onset = s.onset ∧ (reLocate t s).log = s.log ∧ (reLocate t s).marks = s.marks ∧
    (reLocate t s).resetnLow = s.resetnLow ∧ (reLocate t s).pending = s.pending ∧ (reLocate t s).port.part = s.port.part ∧
    (reLocate t s).port.stepRun = s.port.stepRun ∧ (reLocate t s).port.response = s.port.response ∧ (reLocate t s).port.sdo = s.port.sdo := by
  simp only [reLocate]
  (repeat' split) <;> simp

@[simp] theorem ownEntryMaintenance_keeps (s : State) :
    (ownEntryMaintenance s).conf = s.conf ∧ (ownEntryMaintenance s).ref = s.ref ∧ (ownEntryMaintenance s).posn = s.posn ∧
    (ownEntryMaintenance s).agr = s.agr ∧ (ownEntryMaintenance s).cues = s.cues ∧ (ownEntryMaintenance s).plan = s.plan ∧
    (ownEntryMaintenance s).pass = s.pass ∧ (ownEntryMaintenance s).sched = s.sched ∧ (ownEntryMaintenance s).out = s.out ∧
    (ownEntryMaintenance s).onset = s.onset ∧ (ownEntryMaintenance s).log = s.log ∧ (ownEntryMaintenance s).marks = s.marks ∧
    (ownEntryMaintenance s).resetnLow = s.resetnLow ∧ (ownEntryMaintenance s).pending = s.pending ∧ (ownEntryMaintenance s).port.part = s.port.part ∧
    (ownEntryMaintenance s).port.stepRun = s.port.stepRun ∧ (ownEntryMaintenance s).port.response = s.port.response ∧ (ownEntryMaintenance s).port.sdo = s.port.sdo := by
  simp only [ownEntryMaintenance]
  (repeat' split) <;> simp

@[simp] theorem closureTest_keeps (s : State) :
    (closureTest s).conf = s.conf ∧ (closureTest s).ref = s.ref ∧ (closureTest s).posn = s.posn ∧
    (closureTest s).agr = s.agr ∧ (closureTest s).cues = s.cues ∧ (closureTest s).plan = s.plan ∧
    (closureTest s).sched = s.sched ∧ (closureTest s).out = s.out ∧ (closureTest s).onset = s.onset ∧
    (closureTest s).log = s.log ∧ (closureTest s).marks = s.marks ∧ (closureTest s).resetnLow = s.resetnLow ∧
    (closureTest s).pending = s.pending ∧ (closureTest s).port.part = s.port.part ∧ (closureTest s).port.stepRun = s.port.stepRun ∧
    (closureTest s).port.response = s.port.response ∧ (closureTest s).port.sdo = s.port.sdo := by
  simp only [closureTest]
  (repeat' split) <;> simp

@[simp] theorem State.setMark_keeps (s : State) (n : Nat) (m : Mark) :
    (s.setMark n m).port = s.port ∧ (s.setMark n m).conf = s.conf ∧ (s.setMark n m).ref = s.ref ∧
    (s.setMark n m).posn = s.posn ∧ (s.setMark n m).bus = s.bus ∧ (s.setMark n m).agr = s.agr ∧
    (s.setMark n m).cues = s.cues ∧ (s.setMark n m).plan = s.plan ∧ (s.setMark n m).pass = s.pass ∧
    (s.setMark n m).sched = s.sched ∧ (s.setMark n m).out = s.out ∧ (s.setMark n m).onset = s.onset ∧
    (s.setMark n m).log = s.log ∧ (s.setMark n m).resetnLow = s.resetnLow ∧ (s.setMark n m).pending = s.pending := by
  simp only [State.setMark]
  (repeat' split) <;> simp

@[simp] theorem markStop_keeps (o : Bool) (s : State) :
    (markStop o s).conf = s.conf ∧ (markStop o s).ref = s.ref ∧ (markStop o s).posn = s.posn ∧
    (markStop o s).agr = s.agr ∧ (markStop o s).cues = s.cues ∧ (markStop o s).plan = s.plan ∧
    (markStop o s).pass = s.pass ∧ (markStop o s).sched = s.sched ∧ (markStop o s).out = s.out ∧
    (markStop o s).onset = s.onset ∧ (markStop o s).log = s.log ∧ (markStop o s).marks = s.marks ∧
    (markStop o s).resetnLow = s.resetnLow ∧ (markStop o s).pending = s.pending ∧ (markStop o s).port.part = s.port.part ∧
    (markStop o s).port.stepRun = s.port.stepRun ∧ (markStop o s).port.response = s.port.response ∧ (markStop o s).port.sdo = s.port.sdo := by
  simp only [markStop]
  (repeat' split) <;> simp

@[simp] theorem markAction_keeps (o : Bool) (a : MarkAction) (s : State) :
    (markAction o a s).conf = s.conf ∧ (markAction o a s).ref = s.ref ∧ (markAction o a s).posn = s.posn ∧
    (markAction o a s).cues = s.cues ∧ (markAction o a s).plan = s.plan ∧ (markAction o a s).pass = s.pass ∧
    (markAction o a s).sched = s.sched ∧ (markAction o a s).out = s.out ∧ (markAction o a s).onset = s.onset ∧
    (markAction o a s).log = s.log ∧ (markAction o a s).marks = s.marks ∧ (markAction o a s).resetnLow = s.resetnLow ∧
    (markAction o a s).pending = s.pending ∧ (markAction o a s).port.part = s.port.part ∧ (markAction o a s).port.stepRun = s.port.stepRun ∧
    (markAction o a s).port.response = s.port.response ∧ (markAction o a s).port.sdo = s.port.sdo := by
  simp only [markAction]
  (repeat' split) <;> simp

@[simp] theorem fireMark_keeps (o : Bool) (n : Nat) (s : State) :
    (fireMark o n s).conf = s.conf ∧ (fireMark o n s).ref = s.ref ∧ (fireMark o n s).posn = s.posn ∧
    (fireMark o n s).cues = s.cues ∧ (fireMark o n s).plan = s.plan ∧ (fireMark o n s).pass = s.pass ∧
    (fireMark o n s).sched = s.sched ∧ (fireMark o n s).out = s.out ∧ (fireMark o n s).onset = s.onset ∧
    (fireMark o n s).log = s.log ∧ (fireMark o n s).resetnLow = s.resetnLow ∧ (fireMark o n s).pending = s.pending ∧
    (fireMark o n s).port.part = s.port.part ∧ (fireMark o n s).port.stepRun = s.port.stepRun ∧ (fireMark o n s).port.response = s.port.response ∧
    (fireMark o n s).port.sdo = s.port.sdo := by
  simp [fireMark]

@[simp] theorem judgeMark_keeps (p e : Nat) (o : Bool) (s : State) (n : Nat) :
    (judgeMark p e o s n).conf = s.conf ∧ (judgeMark p e o s n).ref = s.ref ∧ (judgeMark p e o s n).posn = s.posn ∧
    (judgeMark p e o s n).cues = s.cues ∧ (judgeMark p e o s n).plan = s.plan ∧ (judgeMark p e o s n).pass = s.pass ∧
    (judgeMark p e o s n).sched = s.sched ∧ (judgeMark p e o s n).out = s.out ∧ (judgeMark p e o s n).onset = s.onset ∧
    (judgeMark p e o s n).log = s.log ∧ (judgeMark p e o s n).resetnLow = s.resetnLow ∧ (judgeMark p e o s n).pending = s.pending ∧
    (judgeMark p e o s n).port.part = s.port.part ∧ (judgeMark p e o s n).port.stepRun = s.port.stepRun ∧ (judgeMark p e o s n).port.response = s.port.response ∧
    (judgeMark p e o s n).port.sdo = s.port.sdo := by
  simp only [judgeMark]
  (repeat' split) <;> simp

@[simp] theorem judgeMarks_keeps (p : Option (Nat × Nat)) (s : State) :
    (judgeMarks p s).conf = s.conf ∧ (judgeMarks p s).ref = s.ref ∧ (judgeMarks p s).posn = s.posn ∧
    (judgeMarks p s).cues = s.cues ∧ (judgeMarks p s).plan = s.plan ∧ (judgeMarks p s).pass = s.pass ∧
    (judgeMarks p s).sched = s.sched ∧ (judgeMarks p s).out = s.out ∧ (judgeMarks p s).onset = s.onset ∧
    (judgeMarks p s).log = s.log ∧ (judgeMarks p s).resetnLow = s.resetnLow ∧ (judgeMarks p s).pending = s.pending ∧
    (judgeMarks p s).port.part = s.port.part ∧ (judgeMarks p s).port.stepRun = s.port.stepRun ∧ (judgeMarks p s).port.response = s.port.response ∧
    (judgeMarks p s).port.sdo = s.port.sdo := by
  simp only [judgeMarks]
  (repeat' split) <;> simp

@[simp] theorem leaveRolling_keeps (t : Transport) (s : State) :
    (leaveRolling t s).port = s.port ∧ (leaveRolling t s).conf = s.conf ∧ (leaveRolling t s).ref = s.ref ∧
    (leaveRolling t s).posn = s.posn ∧ (leaveRolling t s).bus = s.bus ∧ (leaveRolling t s).cues = s.cues ∧
    (leaveRolling t s).plan = s.plan ∧ (leaveRolling t s).sched = s.sched ∧ (leaveRolling t s).onset = s.onset ∧
    (leaveRolling t s).log = s.log ∧ (leaveRolling t s).marks = s.marks ∧ (leaveRolling t s).resetnLow = s.resetnLow ∧
    (leaveRolling t s).pending = s.pending := by
  simp [leaveRolling]

@[simp] theorem localStop_keeps (s : State) :
    (localStop s).conf = s.conf ∧ (localStop s).ref = s.ref ∧ (localStop s).posn = s.posn ∧
    (localStop s).marks = s.marks ∧ (localStop s).resetnLow = s.resetnLow ∧ (localStop s).pending = s.pending ∧
    (localStop s).port.part = s.port.part ∧ (localStop s).port.stepRun = s.port.stepRun ∧ (localStop s).port.response = s.port.response ∧
    (localStop s).port.sdo = s.port.sdo := by
  simp [localStop]

@[simp] theorem edgeAdvance_keeps (s : State) :
    (edgeAdvance s).conf = s.conf ∧ (edgeAdvance s).ref = s.ref ∧ (edgeAdvance s).marks = s.marks ∧
    (edgeAdvance s).resetnLow = s.resetnLow ∧ (edgeAdvance s).pending = s.pending ∧ (edgeAdvance s).port.part = s.port.part ∧
    (edgeAdvance s).port.stepRun = s.port.stepRun ∧ (edgeAdvance s).port.response = s.port.response ∧ (edgeAdvance s).port.sdo = s.port.sdo := by
  simp only [edgeAdvance]
  (repeat' split) <;> simp

@[simp] theorem tickAdvance_keeps (s : State) :
    (tickAdvance s).port = s.port ∧ (tickAdvance s).conf = s.conf ∧ (tickAdvance s).ref = s.ref ∧
    (tickAdvance s).bus = s.bus ∧ (tickAdvance s).agr = s.agr ∧ (tickAdvance s).cues = s.cues ∧
    (tickAdvance s).plan = s.plan ∧ (tickAdvance s).pass = s.pass ∧ (tickAdvance s).marks = s.marks ∧
    (tickAdvance s).resetnLow = s.resetnLow ∧ (tickAdvance s).pending = s.pending := by
  simp only [tickAdvance]
  (repeat' split) <;> simp

@[simp] theorem writePosition_keeps (x : Nat) (s : State) :
    (writePosition x s).port = s.port ∧ (writePosition x s).conf = s.conf ∧ (writePosition x s).ref = s.ref ∧
    (writePosition x s).bus = s.bus ∧ (writePosition x s).agr = s.agr ∧ (writePosition x s).cues = s.cues ∧
    (writePosition x s).plan = s.plan ∧ (writePosition x s).pass = s.pass ∧ (writePosition x s).sched = s.sched ∧
    (writePosition x s).out = s.out ∧ (writePosition x s).onset = s.onset ∧ (writePosition x s).log = s.log ∧
    (writePosition x s).marks = s.marks ∧ (writePosition x s).resetnLow = s.resetnLow ∧ (writePosition x s).pending = s.pending := by
  simp [writePosition]

@[simp] theorem dropHold_keeps (a : Nat) (s : State) :
    (dropHold a s).port = s.port ∧ (dropHold a s).conf = s.conf ∧ (dropHold a s).ref = s.ref ∧
    (dropHold a s).posn = s.posn ∧ (dropHold a s).bus = s.bus ∧ (dropHold a s).cues = s.cues ∧
    (dropHold a s).plan = s.plan ∧ (dropHold a s).pass = s.pass ∧ (dropHold a s).sched = s.sched ∧
    (dropHold a s).out = s.out ∧ (dropHold a s).onset = s.onset ∧ (dropHold a s).log = s.log ∧
    (dropHold a s).marks = s.marks ∧ (dropHold a s).resetnLow = s.resetnLow ∧ (dropHold a s).pending = s.pending := by
  simp [dropHold]

@[simp] theorem State.setSlot_keeps (s : State) (a : Nat) (x : PeerSlot) :
    (s.setSlot a x).port = s.port ∧ (s.setSlot a x).conf = s.conf ∧ (s.setSlot a x).ref = s.ref ∧
    (s.setSlot a x).posn = s.posn ∧ (s.setSlot a x).bus = s.bus ∧ (s.setSlot a x).cues = s.cues ∧
    (s.setSlot a x).plan = s.plan ∧ (s.setSlot a x).pass = s.pass ∧ (s.setSlot a x).sched = s.sched ∧
    (s.setSlot a x).out = s.out ∧ (s.setSlot a x).onset = s.onset ∧ (s.setSlot a x).log = s.log ∧
    (s.setSlot a x).marks = s.marks ∧ (s.setSlot a x).resetnLow = s.resetnLow ∧ (s.setSlot a x).pending = s.pending := by
  simp [State.setSlot]

@[simp] theorem heardFrom_keeps (a : Nat) (s : State) :
    (heardFrom a s).conf = s.conf ∧ (heardFrom a s).ref = s.ref ∧ (heardFrom a s).posn = s.posn ∧
    (heardFrom a s).bus = s.bus ∧ (heardFrom a s).cues = s.cues ∧ (heardFrom a s).plan = s.plan ∧
    (heardFrom a s).pass = s.pass ∧ (heardFrom a s).sched = s.sched ∧ (heardFrom a s).out = s.out ∧
    (heardFrom a s).onset = s.onset ∧ (heardFrom a s).log = s.log ∧ (heardFrom a s).marks = s.marks ∧
    (heardFrom a s).resetnLow = s.resetnLow ∧ (heardFrom a s).pending = s.pending ∧ (heardFrom a s).port.part = s.port.part ∧
    (heardFrom a s).port.stepRun = s.port.stepRun ∧ (heardFrom a s).port.response = s.port.response ∧ (heardFrom a s).port.sdo = s.port.sdo := by
  simp only [heardFrom]
  (repeat' split) <;> simp

@[simp] theorem beaconEqual_keeps (a : Nat) (s : State) :
    (beaconEqual a s).conf = s.conf ∧ (beaconEqual a s).ref = s.ref ∧ (beaconEqual a s).posn = s.posn ∧
    (beaconEqual a s).bus = s.bus ∧ (beaconEqual a s).cues = s.cues ∧ (beaconEqual a s).plan = s.plan ∧
    (beaconEqual a s).pass = s.pass ∧ (beaconEqual a s).sched = s.sched ∧ (beaconEqual a s).out = s.out ∧
    (beaconEqual a s).onset = s.onset ∧ (beaconEqual a s).log = s.log ∧ (beaconEqual a s).marks = s.marks ∧
    (beaconEqual a s).resetnLow = s.resetnLow ∧ (beaconEqual a s).pending = s.pending ∧ (beaconEqual a s).port.part = s.port.part ∧
    (beaconEqual a s).port.stepRun = s.port.stepRun ∧ (beaconEqual a s).port.response = s.port.response ∧ (beaconEqual a s).port.sdo = s.port.sdo := by
  simp only [beaconEqual]
  (repeat' split) <;> simp

@[simp] theorem beaconDiffers_keeps (a : Nat) (s : State) :
    (beaconDiffers a s).conf = s.conf ∧ (beaconDiffers a s).ref = s.ref ∧ (beaconDiffers a s).posn = s.posn ∧
    (beaconDiffers a s).bus = s.bus ∧ (beaconDiffers a s).cues = s.cues ∧ (beaconDiffers a s).plan = s.plan ∧
    (beaconDiffers a s).sched = s.sched ∧ (beaconDiffers a s).out = s.out ∧ (beaconDiffers a s).onset = s.onset ∧
    (beaconDiffers a s).log = s.log ∧ (beaconDiffers a s).marks = s.marks ∧ (beaconDiffers a s).resetnLow = s.resetnLow ∧
    (beaconDiffers a s).pending = s.pending ∧ (beaconDiffers a s).port.part = s.port.part ∧ (beaconDiffers a s).port.stepRun = s.port.stepRun ∧
    (beaconDiffers a s).port.response = s.port.response ∧ (beaconDiffers a s).port.sdo = s.port.sdo := by
  simp only [beaconDiffers]
  (repeat' split) <;> simp

@[simp] theorem presenceUpdate_keeps (f : BusFrame) (s : State) :
    (presenceUpdate f s).conf = s.conf ∧ (presenceUpdate f s).ref = s.ref ∧ (presenceUpdate f s).posn = s.posn ∧
    (presenceUpdate f s).bus = s.bus ∧ (presenceUpdate f s).cues = s.cues ∧ (presenceUpdate f s).plan = s.plan ∧
    (presenceUpdate f s).sched = s.sched ∧ (presenceUpdate f s).out = s.out ∧ (presenceUpdate f s).onset = s.onset ∧
    (presenceUpdate f s).log = s.log ∧ (presenceUpdate f s).marks = s.marks ∧ (presenceUpdate f s).resetnLow = s.resetnLow ∧
    (presenceUpdate f s).pending = s.pending ∧ (presenceUpdate f s).port.part = s.port.part ∧ (presenceUpdate f s).port.stepRun = s.port.stepRun ∧
    (presenceUpdate f s).port.response = s.port.response ∧ (presenceUpdate f s).port.sdo = s.port.sdo := by
  simp only [presenceUpdate]
  (repeat' split) <;> simp

@[simp] theorem takeGeneration_keeps (g : Nat) (s : State) :
    (takeGeneration g s).port = s.port ∧ (takeGeneration g s).conf = s.conf ∧ (takeGeneration g s).ref = s.ref ∧
    (takeGeneration g s).posn = s.posn ∧ (takeGeneration g s).bus = s.bus ∧ (takeGeneration g s).cues = s.cues ∧
    (takeGeneration g s).plan = s.plan ∧ (takeGeneration g s).pass = s.pass ∧ (takeGeneration g s).sched = s.sched ∧
    (takeGeneration g s).out = s.out ∧ (takeGeneration g s).onset = s.onset ∧ (takeGeneration g s).log = s.log ∧
    (takeGeneration g s).marks = s.marks ∧ (takeGeneration g s).resetnLow = s.resetnLow ∧ (takeGeneration g s).pending = s.pending := by
  simp [takeGeneration]

@[simp] theorem anchorAtRest_keeps (g : Nat) (b : Bool) (r p : Nat) (s : State) :
    (anchorAtRest g b r p s).conf = s.conf ∧ (anchorAtRest g b r p s).ref = s.ref ∧ (anchorAtRest g b r p s).marks = s.marks ∧
    (anchorAtRest g b r p s).resetnLow = s.resetnLow ∧ (anchorAtRest g b r p s).pending = s.pending ∧ (anchorAtRest g b r p s).port.part = s.port.part ∧
    (anchorAtRest g b r p s).port.stepRun = s.port.stepRun ∧ (anchorAtRest g b r p s).port.response = s.port.response ∧ (anchorAtRest g b r p s).port.sdo = s.port.sdo := by
  simp only [anchorAtRest]
  (repeat' split) <;> simp

@[simp] theorem anchorAtRoll_keeps (g : Nat) (b : Bool) (r : Nat) (s : State) :
    (anchorAtRoll g b r s).conf = s.conf ∧ (anchorAtRoll g b r s).ref = s.ref ∧ (anchorAtRoll g b r s).marks = s.marks ∧
    (anchorAtRoll g b r s).resetnLow = s.resetnLow ∧ (anchorAtRoll g b r s).pending = s.pending ∧ (anchorAtRoll g b r s).port.part = s.port.part ∧
    (anchorAtRoll g b r s).port.stepRun = s.port.stepRun ∧ (anchorAtRoll g b r s).port.response = s.port.response ∧ (anchorAtRoll g b r s).port.sdo = s.port.sdo := by
  simp only [anchorAtRoll]
  (repeat' split) <;> simp

@[simp] theorem applyAnchor_keeps (g : Nat) (b : Bool) (r p : Nat) (s : State) :
    (applyAnchor g b r p s).conf = s.conf ∧ (applyAnchor g b r p s).ref = s.ref ∧ (applyAnchor g b r p s).marks = s.marks ∧
    (applyAnchor g b r p s).resetnLow = s.resetnLow ∧ (applyAnchor g b r p s).pending = s.pending ∧ (applyAnchor g b r p s).port.part = s.port.part ∧
    (applyAnchor g b r p s).port.stepRun = s.port.stepRun ∧ (applyAnchor g b r p s).port.response = s.port.response ∧ (applyAnchor g b r p s).port.sdo = s.port.sdo := by
  simp only [applyAnchor]
  (repeat' split) <;> simp

@[simp] theorem takeLocate_keeps (g : Nat) (c p : Bool) (r st n t : Nat) (s : State) :
    (takeLocate g c p r st n t s).port = s.port ∧ (takeLocate g c p r st n t s).conf = s.conf ∧ (takeLocate g c p r st n t s).ref = s.ref ∧
    (takeLocate g c p r st n t s).bus = s.bus ∧ (takeLocate g c p r st n t s).cues = s.cues ∧ (takeLocate g c p r st n t s).plan = s.plan ∧
    (takeLocate g c p r st n t s).onset = s.onset ∧ (takeLocate g c p r st n t s).log = s.log ∧ (takeLocate g c p r st n t s).marks = s.marks ∧
    (takeLocate g c p r st n t s).resetnLow = s.resetnLow ∧ (takeLocate g c p r st n t s).pending = s.pending := by
  simp only [takeLocate]
  (repeat' split) <;> simp

@[simp] theorem applyLocate_keeps (g : Nat) (c p : Bool) (r st n t : Nat) (s : State) :
    (applyLocate g c p r st n t s).conf = s.conf ∧ (applyLocate g c p r st n t s).ref = s.ref ∧ (applyLocate g c p r st n t s).marks = s.marks ∧
    (applyLocate g c p r st n t s).resetnLow = s.resetnLow ∧ (applyLocate g c p r st n t s).pending = s.pending ∧ (applyLocate g c p r st n t s).port.part = s.port.part ∧
    (applyLocate g c p r st n t s).port.stepRun = s.port.stepRun ∧ (applyLocate g c p r st n t s).port.response = s.port.response ∧ (applyLocate g c p r st n t s).port.sdo = s.port.sdo := by
  simp only [applyLocate]
  (repeat' split) <;> simp

@[simp] theorem applyHold_keeps (a l r : Nat) (s : State) :
    (applyHold a l r s).port = s.port ∧ (applyHold a l r s).conf = s.conf ∧ (applyHold a l r s).ref = s.ref ∧
    (applyHold a l r s).posn = s.posn ∧ (applyHold a l r s).bus = s.bus ∧ (applyHold a l r s).cues = s.cues ∧
    (applyHold a l r s).plan = s.plan ∧ (applyHold a l r s).pass = s.pass ∧ (applyHold a l r s).sched = s.sched ∧
    (applyHold a l r s).out = s.out ∧ (applyHold a l r s).onset = s.onset ∧ (applyHold a l r s).log = s.log ∧
    (applyHold a l r s).marks = s.marks ∧ (applyHold a l r s).resetnLow = s.resetnLow ∧ (applyHold a l r s).pending = s.pending := by
  simp [applyHold]

@[simp] theorem applyRelease_keeps (a : Nat) (s : State) :
    (applyRelease a s).port = s.port ∧ (applyRelease a s).conf = s.conf ∧ (applyRelease a s).ref = s.ref ∧
    (applyRelease a s).posn = s.posn ∧ (applyRelease a s).bus = s.bus ∧ (applyRelease a s).cues = s.cues ∧
    (applyRelease a s).plan = s.plan ∧ (applyRelease a s).pass = s.pass ∧ (applyRelease a s).sched = s.sched ∧
    (applyRelease a s).out = s.out ∧ (applyRelease a s).onset = s.onset ∧ (applyRelease a s).log = s.log ∧
    (applyRelease a s).marks = s.marks ∧ (applyRelease a s).resetnLow = s.resetnLow ∧ (applyRelease a s).pending = s.pending := by
  simp [applyRelease]

@[simp] theorem slipCheck_keeps (k : SlipRef) (a g p : Nat) (s : State) :
    (slipCheck k a g p s).conf = s.conf ∧ (slipCheck k a g p s).ref = s.ref ∧ (slipCheck k a g p s).posn = s.posn ∧
    (slipCheck k a g p s).bus = s.bus ∧ (slipCheck k a g p s).agr = s.agr ∧ (slipCheck k a g p s).cues = s.cues ∧
    (slipCheck k a g p s).plan = s.plan ∧ (slipCheck k a g p s).pass = s.pass ∧ (slipCheck k a g p s).sched = s.sched ∧
    (slipCheck k a g p s).out = s.out ∧ (slipCheck k a g p s).onset = s.onset ∧ (slipCheck k a g p s).marks = s.marks ∧
    (slipCheck k a g p s).resetnLow = s.resetnLow ∧ (slipCheck k a g p s).pending = s.pending ∧ (slipCheck k a g p s).port.part = s.port.part ∧
    (slipCheck k a g p s).port.stepRun = s.port.stepRun ∧ (slipCheck k a g p s).port.response = s.port.response ∧ (slipCheck k a g p s).port.sdo = s.port.sdo := by
  simp only [slipCheck]
  (repeat' split) <;> simp

@[simp] theorem adopt_keeps (t : Transport) (g n r p : Nat) (s : State) :
    (adopt t g n r p s).conf = s.conf ∧ (adopt t g n r p s).ref = s.ref ∧ (adopt t g n r p s).cues = s.cues ∧
    (adopt t g n r p s).plan = s.plan ∧ (adopt t g n r p s).out = s.out ∧ (adopt t g n r p s).onset = s.onset ∧
    (adopt t g n r p s).marks = s.marks ∧ (adopt t g n r p s).resetnLow = s.resetnLow ∧ (adopt t g n r p s).pending = s.pending ∧
    (adopt t g n r p s).port.part = s.port.part ∧ (adopt t g n r p s).port.stepRun = s.port.stepRun ∧ (adopt t g n r p s).port.response = s.port.response ∧
    (adopt t g n r p s).port.sdo = s.port.sdo := by
  simp only [adopt]
  (repeat' split) <;> simp

@[simp] theorem applyBeacon_keeps (k : SlipRef) (a rc : Nat) (t : Transport) (ps : PassState) (g n r p : Nat) (s : State) :
    (applyBeacon k a rc t ps g n r p s).conf = s.conf ∧ (applyBeacon k a rc t ps g n r p s).ref = s.ref ∧ (applyBeacon k a rc t ps g n r p s).cues = s.cues ∧
    (applyBeacon k a rc t ps g n r p s).plan = s.plan ∧ (applyBeacon k a rc t ps g n r p s).out = s.out ∧ (applyBeacon k a rc t ps g n r p s).onset = s.onset ∧
    (applyBeacon k a rc t ps g n r p s).marks = s.marks ∧ (applyBeacon k a rc t ps g n r p s).resetnLow = s.resetnLow ∧ (applyBeacon k a rc t ps g n r p s).pending = s.pending ∧
    (applyBeacon k a rc t ps g n r p s).port.part = s.port.part ∧ (applyBeacon k a rc t ps g n r p s).port.stepRun = s.port.stepRun ∧ (applyBeacon k a rc t ps g n r p s).port.response = s.port.response ∧
    (applyBeacon k a rc t ps g n r p s).port.sdo = s.port.sdo := by
  simp only [applyBeacon]
  (repeat' split) <;> simp

@[simp] theorem applyPayload_keeps (k : SlipRef) (a : Nat) (x : Payload) (s : State) :
    (applyPayload k a x s).conf = s.conf ∧ (applyPayload k a x s).ref = s.ref ∧ (applyPayload k a x s).marks = s.marks ∧
    (applyPayload k a x s).resetnLow = s.resetnLow ∧ (applyPayload k a x s).pending = s.pending ∧ (applyPayload k a x s).port.part = s.port.part ∧
    (applyPayload k a x s).port.stepRun = s.port.stepRun ∧ (applyPayload k a x s).port.response = s.port.response ∧ (applyPayload k a x s).port.sdo = s.port.sdo := by
  simp only [applyPayload]
  (repeat' split) <;> simp

@[simp] theorem applyFrame_keeps (k : SlipRef) (s : State) (h : HeardFrame) :
    (applyFrame k s h).conf = s.conf ∧ (applyFrame k s h).ref = s.ref ∧ (applyFrame k s h).marks = s.marks ∧
    (applyFrame k s h).resetnLow = s.resetnLow ∧ (applyFrame k s h).pending = s.pending ∧ (applyFrame k s h).port.part = s.port.part ∧
    (applyFrame k s h).port.stepRun = s.port.stepRun ∧ (applyFrame k s h).port.response = s.port.response ∧ (applyFrame k s h).port.sdo = s.port.sdo := by
  simp only [applyFrame]
  (repeat' split) <;> simp

@[simp] theorem applyFrames_keeps (b s : State) :
    (applyFrames b s).conf = s.conf ∧ (applyFrames b s).ref = s.ref ∧ (applyFrames b s).marks = s.marks ∧
    (applyFrames b s).resetnLow = s.resetnLow ∧ (applyFrames b s).pending = s.pending ∧ (applyFrames b s).port.part = s.port.part ∧
    (applyFrames b s).port.stepRun = s.port.stepRun ∧ (applyFrames b s).port.response = s.port.response ∧ (applyFrames b s).port.sdo = s.port.sdo := by
  exact ⟨(foldl_keeps (·.conf) _ (fun t h => by simp) _ _).trans (by simp),
    (foldl_keeps (·.ref) _ (fun t h => by simp) _ _).trans (by simp),
    (foldl_keeps (·.marks) _ (fun t h => by simp) _ _).trans (by simp),
    (foldl_keeps (·.resetnLow) _ (fun t h => by simp) _ _).trans (by simp),
    (foldl_keeps (·.pending) _ (fun t h => by simp) _ _).trans (by simp),
    (foldl_keeps (·.port.part) _ (fun t h => by simp) _ _).trans (by simp),
    (foldl_keeps (·.port.stepRun) _ (fun t h => by simp) _ _).trans (by simp),
    (foldl_keeps (·.port.response) _ (fun t h => by simp) _ _).trans (by simp),
    (foldl_keeps (·.port.sdo) _ (fun t h => by simp) _ _).trans (by simp)⟩

@[simp] theorem countLeases_keeps (s : State) :
    (countLeases s).conf = s.conf ∧ (countLeases s).ref = s.ref ∧ (countLeases s).posn = s.posn ∧
    (countLeases s).bus = s.bus ∧ (countLeases s).cues = s.cues ∧ (countLeases s).plan = s.plan ∧
    (countLeases s).pass = s.pass ∧ (countLeases s).sched = s.sched ∧ (countLeases s).out = s.out ∧
    (countLeases s).onset = s.onset ∧ (countLeases s).log = s.log ∧ (countLeases s).marks = s.marks ∧
    (countLeases s).resetnLow = s.resetnLow ∧ (countLeases s).pending = s.pending ∧ (countLeases s).port.part = s.port.part ∧
    (countLeases s).port.stepRun = s.port.stepRun ∧ (countLeases s).port.response = s.port.response ∧ (countLeases s).port.sdo = s.port.sdo := by
  simp only [countLeases]
  (repeat' split) <;> simp

@[simp] theorem ownHoldMaintenance_keeps (s : State) :
    (ownHoldMaintenance s).conf = s.conf ∧ (ownHoldMaintenance s).ref = s.ref ∧ (ownHoldMaintenance s).posn = s.posn ∧
    (ownHoldMaintenance s).agr = s.agr ∧ (ownHoldMaintenance s).cues = s.cues ∧ (ownHoldMaintenance s).plan = s.plan ∧
    (ownHoldMaintenance s).pass = s.pass ∧ (ownHoldMaintenance s).sched = s.sched ∧ (ownHoldMaintenance s).out = s.out ∧
    (ownHoldMaintenance s).onset = s.onset ∧ (ownHoldMaintenance s).log = s.log ∧ (ownHoldMaintenance s).marks = s.marks ∧
    (ownHoldMaintenance s).resetnLow = s.resetnLow ∧ (ownHoldMaintenance s).pending = s.pending ∧ (ownHoldMaintenance s).port.part = s.port.part ∧
    (ownHoldMaintenance s).port.stepRun = s.port.stepRun ∧ (ownHoldMaintenance s).port.response = s.port.response ∧ (ownHoldMaintenance s).port.sdo = s.port.sdo := by
  simp only [ownHoldMaintenance]
  (repeat' split) <;> simp

@[simp] theorem holdsStep_keeps (s : State) :
    (holdsStep s).conf = s.conf ∧ (holdsStep s).ref = s.ref ∧ (holdsStep s).posn = s.posn ∧
    (holdsStep s).cues = s.cues ∧ (holdsStep s).plan = s.plan ∧ (holdsStep s).pass = s.pass ∧
    (holdsStep s).sched = s.sched ∧ (holdsStep s).out = s.out ∧ (holdsStep s).onset = s.onset ∧
    (holdsStep s).log = s.log ∧ (holdsStep s).marks = s.marks ∧ (holdsStep s).resetnLow = s.resetnLow ∧
    (holdsStep s).pending = s.pending ∧ (holdsStep s).port.part = s.port.part ∧ (holdsStep s).port.stepRun = s.port.stepRun ∧
    (holdsStep s).port.response = s.port.response ∧ (holdsStep s).port.sdo = s.port.sdo := by
  simp [holdsStep]

@[simp] theorem losePeer_keeps (a : Nat) (s : State) :
    (losePeer a s).conf = s.conf ∧ (losePeer a s).ref = s.ref ∧ (losePeer a s).posn = s.posn ∧
    (losePeer a s).bus = s.bus ∧ (losePeer a s).cues = s.cues ∧ (losePeer a s).plan = s.plan ∧
    (losePeer a s).sched = s.sched ∧ (losePeer a s).out = s.out ∧ (losePeer a s).onset = s.onset ∧
    (losePeer a s).log = s.log ∧ (losePeer a s).marks = s.marks ∧ (losePeer a s).resetnLow = s.resetnLow ∧
    (losePeer a s).pending = s.pending ∧ (losePeer a s).port.part = s.port.part ∧ (losePeer a s).port.stepRun = s.port.stepRun ∧
    (losePeer a s).port.response = s.port.response ∧ (losePeer a s).port.sdo = s.port.sdo := by
  simp [losePeer]

@[simp] theorem agePeer_keeps (s : State) (a : Nat) :
    (agePeer s a).conf = s.conf ∧ (agePeer s a).ref = s.ref ∧ (agePeer s a).posn = s.posn ∧
    (agePeer s a).bus = s.bus ∧ (agePeer s a).cues = s.cues ∧ (agePeer s a).plan = s.plan ∧
    (agePeer s a).sched = s.sched ∧ (agePeer s a).out = s.out ∧ (agePeer s a).onset = s.onset ∧
    (agePeer s a).log = s.log ∧ (agePeer s a).marks = s.marks ∧ (agePeer s a).resetnLow = s.resetnLow ∧
    (agePeer s a).pending = s.pending ∧ (agePeer s a).port.part = s.port.part ∧ (agePeer s a).port.stepRun = s.port.stepRun ∧
    (agePeer s a).port.response = s.port.response ∧ (agePeer s a).port.sdo = s.port.sdo := by
  simp only [agePeer]
  (repeat' split) <;> simp

@[simp] theorem presenceStep_keeps (s : State) :
    (presenceStep s).conf = s.conf ∧ (presenceStep s).ref = s.ref ∧ (presenceStep s).posn = s.posn ∧
    (presenceStep s).bus = s.bus ∧ (presenceStep s).cues = s.cues ∧ (presenceStep s).plan = s.plan ∧
    (presenceStep s).sched = s.sched ∧ (presenceStep s).out = s.out ∧ (presenceStep s).onset = s.onset ∧
    (presenceStep s).log = s.log ∧ (presenceStep s).marks = s.marks ∧ (presenceStep s).resetnLow = s.resetnLow ∧
    (presenceStep s).pending = s.pending ∧ (presenceStep s).port.part = s.port.part ∧ (presenceStep s).port.stepRun = s.port.stepRun ∧
    (presenceStep s).port.response = s.port.response ∧ (presenceStep s).port.sdo = s.port.sdo := by
  unfold presenceStep
  generalize addresses = l
  exact ⟨foldl_keeps (·.conf) _ (fun t a => by simp) _ s,
    foldl_keeps (·.ref) _ (fun t a => by simp) _ s,
    foldl_keeps (·.posn) _ (fun t a => by simp) _ s,
    foldl_keeps (·.bus) _ (fun t a => by simp) _ s,
    foldl_keeps (·.cues) _ (fun t a => by simp) _ s,
    foldl_keeps (·.plan) _ (fun t a => by simp) _ s,
    foldl_keeps (·.sched) _ (fun t a => by simp) _ s,
    foldl_keeps (·.out) _ (fun t a => by simp) _ s,
    foldl_keeps (·.onset) _ (fun t a => by simp) _ s,
    foldl_keeps (·.log) _ (fun t a => by simp) _ s,
    foldl_keeps (·.marks) _ (fun t a => by simp) _ s,
    foldl_keeps (·.resetnLow) _ (fun t a => by simp) _ s,
    foldl_keeps (·.pending) _ (fun t a => by simp) _ s,
    foldl_keeps (·.port.part) _ (fun t a => by simp) _ s,
    foldl_keeps (·.port.stepRun) _ (fun t a => by simp) _ s,
    foldl_keeps (·.port.response) _ (fun t a => by simp) _ s,
    foldl_keeps (·.port.sdo) _ (fun t a => by simp) _ s⟩

@[simp] theorem settleStep_keeps (s : State) :
    (settleStep s).port = s.port ∧ (settleStep s).conf = s.conf ∧ (settleStep s).ref = s.ref ∧
    (settleStep s).posn = s.posn ∧ (settleStep s).bus = s.bus ∧ (settleStep s).cues = s.cues ∧
    (settleStep s).plan = s.plan ∧ (settleStep s).pass = s.pass ∧ (settleStep s).sched = s.sched ∧
    (settleStep s).out = s.out ∧ (settleStep s).onset = s.onset ∧ (settleStep s).log = s.log ∧
    (settleStep s).marks = s.marks ∧ (settleStep s).resetnLow = s.resetnLow ∧ (settleStep s).pending = s.pending := by
  simp only [settleStep]
  (repeat' split) <;> simp

@[simp] theorem rollStep_keeps (s : State) :
    (rollStep s).conf = s.conf ∧ (rollStep s).ref = s.ref ∧ (rollStep s).posn = s.posn ∧
    (rollStep s).cues = s.cues ∧ (rollStep s).plan = s.plan ∧ (rollStep s).out = s.out ∧
    (rollStep s).onset = s.onset ∧ (rollStep s).marks = s.marks ∧ (rollStep s).resetnLow = s.resetnLow ∧
    (rollStep s).pending = s.pending ∧ (rollStep s).port.part = s.port.part ∧ (rollStep s).port.stepRun = s.port.stepRun ∧
    (rollStep s).port.response = s.port.response ∧ (rollStep s).port.sdo = s.port.sdo := by
  simp only [rollStep]
  (repeat' split) <;> simp

@[simp] theorem offerBeacon_keeps (s : State) :
    (offerBeacon s).conf = s.conf ∧ (offerBeacon s).ref = s.ref ∧ (offerBeacon s).posn = s.posn ∧
    (offerBeacon s).cues = s.cues ∧ (offerBeacon s).plan = s.plan ∧ (offerBeacon s).pass = s.pass ∧
    (offerBeacon s).sched = s.sched ∧ (offerBeacon s).out = s.out ∧ (offerBeacon s).onset = s.onset ∧
    (offerBeacon s).log = s.log ∧ (offerBeacon s).marks = s.marks ∧ (offerBeacon s).resetnLow = s.resetnLow ∧
    (offerBeacon s).pending = s.pending ∧ (offerBeacon s).port.part = s.port.part ∧ (offerBeacon s).port.stepRun = s.port.stepRun ∧
    (offerBeacon s).port.response = s.port.response ∧ (offerBeacon s).port.sdo = s.port.sdo := by
  simp [offerBeacon]

@[simp] theorem beaconStep_keeps (s : State) :
    (beaconStep s).conf = s.conf ∧ (beaconStep s).ref = s.ref ∧ (beaconStep s).posn = s.posn ∧
    (beaconStep s).cues = s.cues ∧ (beaconStep s).plan = s.plan ∧ (beaconStep s).pass = s.pass ∧
    (beaconStep s).sched = s.sched ∧ (beaconStep s).out = s.out ∧ (beaconStep s).onset = s.onset ∧
    (beaconStep s).log = s.log ∧ (beaconStep s).marks = s.marks ∧ (beaconStep s).resetnLow = s.resetnLow ∧
    (beaconStep s).pending = s.pending ∧ (beaconStep s).port.part = s.port.part ∧ (beaconStep s).port.stepRun = s.port.stepRun ∧
    (beaconStep s).port.response = s.port.response ∧ (beaconStep s).port.sdo = s.port.sdo := by
  simp only [beaconStep]
  (repeat' split) <;> simp

@[simp] theorem linkUp_keeps (s : State) :
    (linkUp s).conf = s.conf ∧ (linkUp s).ref = s.ref ∧ (linkUp s).posn = s.posn ∧
    (linkUp s).cues = s.cues ∧ (linkUp s).plan = s.plan ∧ (linkUp s).pass = s.pass ∧
    (linkUp s).sched = s.sched ∧ (linkUp s).out = s.out ∧ (linkUp s).onset = s.onset ∧
    (linkUp s).log = s.log ∧ (linkUp s).marks = s.marks ∧ (linkUp s).resetnLow = s.resetnLow ∧
    (linkUp s).pending = s.pending ∧ (linkUp s).port.part = s.port.part ∧ (linkUp s).port.stepRun = s.port.stepRun ∧
    (linkUp s).port.response = s.port.response ∧ (linkUp s).port.sdo = s.port.sdo := by
  simp [linkUp]

@[simp] theorem listeningStep_keeps (s : State) :
    (listeningStep s).conf = s.conf ∧ (listeningStep s).ref = s.ref ∧ (listeningStep s).posn = s.posn ∧
    (listeningStep s).cues = s.cues ∧ (listeningStep s).plan = s.plan ∧ (listeningStep s).pass = s.pass ∧
    (listeningStep s).sched = s.sched ∧ (listeningStep s).out = s.out ∧ (listeningStep s).onset = s.onset ∧
    (listeningStep s).log = s.log ∧ (listeningStep s).marks = s.marks ∧ (listeningStep s).resetnLow = s.resetnLow ∧
    (listeningStep s).pending = s.pending ∧ (listeningStep s).port.part = s.port.part ∧ (listeningStep s).port.stepRun = s.port.stepRun ∧
    (listeningStep s).port.response = s.port.response ∧ (listeningStep s).port.sdo = s.port.sdo := by
  simp only [listeningStep]
  (repeat' split) <;> simp

@[simp] theorem agreementSteps_keeps (b s : State) :
    (agreementSteps b s).conf = s.conf ∧ (agreementSteps b s).ref = s.ref ∧ (agreementSteps b s).marks = s.marks ∧
    (agreementSteps b s).resetnLow = s.resetnLow ∧ (agreementSteps b s).pending = s.pending ∧ (agreementSteps b s).port.part = s.port.part ∧
    (agreementSteps b s).port.stepRun = s.port.stepRun ∧ (agreementSteps b s).port.response = s.port.response ∧ (agreementSteps b s).port.sdo = s.port.sdo := by
  simp [agreementSteps]

@[simp] theorem frameEdge_keeps (s : State) :
    (frameEdge s).conf = s.conf ∧ (frameEdge s).ref = s.ref ∧ (frameEdge s).resetnLow = s.resetnLow ∧
    (frameEdge s).pending = s.pending ∧ (frameEdge s).port.part = s.port.part ∧ (frameEdge s).port.stepRun = s.port.stepRun ∧
    (frameEdge s).port.response = s.port.response ∧ (frameEdge s).port.sdo = s.port.sdo := by
  simp [frameEdge]

@[simp] theorem handOn_keeps (f : BusFrame) (e : Bool) (s : State) :
    (handOn f e s).conf = s.conf ∧ (handOn f e s).ref = s.ref ∧ (handOn f e s).posn = s.posn ∧
    (handOn f e s).bus = s.bus ∧ (handOn f e s).cues = s.cues ∧ (handOn f e s).plan = s.plan ∧
    (handOn f e s).pass = s.pass ∧ (handOn f e s).sched = s.sched ∧ (handOn f e s).out = s.out ∧
    (handOn f e s).onset = s.onset ∧ (handOn f e s).marks = s.marks ∧ (handOn f e s).resetnLow = s.resetnLow ∧
    (handOn f e s).pending = s.pending ∧ (handOn f e s).port.part = s.port.part ∧ (handOn f e s).port.stepRun = s.port.stepRun ∧
    (handOn f e s).port.response = s.port.response ∧ (handOn f e s).port.sdo = s.port.sdo := by
  simp only [handOn]
  (repeat' split) <;> simp

@[simp] theorem addressClash_keeps (s : State) :
    (addressClash s).conf = s.conf ∧ (addressClash s).ref = s.ref ∧ (addressClash s).posn = s.posn ∧
    (addressClash s).cues = s.cues ∧ (addressClash s).plan = s.plan ∧ (addressClash s).pass = s.pass ∧
    (addressClash s).sched = s.sched ∧ (addressClash s).out = s.out ∧ (addressClash s).onset = s.onset ∧
    (addressClash s).log = s.log ∧ (addressClash s).marks = s.marks ∧ (addressClash s).resetnLow = s.resetnLow ∧
    (addressClash s).pending = s.pending ∧ (addressClash s).port.part = s.port.part ∧ (addressClash s).port.stepRun = s.port.stepRun ∧
    (addressClash s).port.response = s.port.response ∧ (addressClash s).port.sdo = s.port.sdo := by
  simp only [addressClash]
  (repeat' split) <;> simp

@[simp] theorem foreignFrame_keeps (f : BusFrame) (s : State) :
    (foreignFrame f s).conf = s.conf ∧ (foreignFrame f s).ref = s.ref ∧ (foreignFrame f s).posn = s.posn ∧
    (foreignFrame f s).cues = s.cues ∧ (foreignFrame f s).plan = s.plan ∧ (foreignFrame f s).pass = s.pass ∧
    (foreignFrame f s).sched = s.sched ∧ (foreignFrame f s).out = s.out ∧ (foreignFrame f s).onset = s.onset ∧
    (foreignFrame f s).marks = s.marks ∧ (foreignFrame f s).resetnLow = s.resetnLow ∧ (foreignFrame f s).pending = s.pending ∧
    (foreignFrame f s).port.part = s.port.part ∧ (foreignFrame f s).port.stepRun = s.port.stepRun ∧ (foreignFrame f s).port.response = s.port.response ∧
    (foreignFrame f s).port.sdo = s.port.sdo := by
  simp only [foreignFrame]
  (repeat' split) <;> simp

@[simp] theorem received_keeps (o : List RxOutcome) (s : State) :
    (received o s).conf = s.conf ∧ (received o s).ref = s.ref ∧ (received o s).posn = s.posn ∧
    (received o s).cues = s.cues ∧ (received o s).plan = s.plan ∧ (received o s).pass = s.pass ∧
    (received o s).sched = s.sched ∧ (received o s).out = s.out ∧ (received o s).onset = s.onset ∧
    (received o s).marks = s.marks ∧ (received o s).resetnLow = s.resetnLow ∧ (received o s).pending = s.pending ∧
    (received o s).port.part = s.port.part ∧ (received o s).port.stepRun = s.port.stepRun ∧ (received o s).port.response = s.port.response ∧
    (received o s).port.sdo = s.port.sdo := by
  unfold received
  exact ⟨foldl_keeps (·.conf) _ (fun t x => by cases x <;> simp) _ s,
    foldl_keeps (·.ref) _ (fun t x => by cases x <;> simp) _ s,
    foldl_keeps (·.posn) _ (fun t x => by cases x <;> simp) _ s,
    foldl_keeps (·.cues) _ (fun t x => by cases x <;> simp) _ s,
    foldl_keeps (·.plan) _ (fun t x => by cases x <;> simp) _ s,
    foldl_keeps (·.pass) _ (fun t x => by cases x <;> simp) _ s,
    foldl_keeps (·.sched) _ (fun t x => by cases x <;> simp) _ s,
    foldl_keeps (·.out) _ (fun t x => by cases x <;> simp) _ s,
    foldl_keeps (·.onset) _ (fun t x => by cases x <;> simp) _ s,
    foldl_keeps (·.marks) _ (fun t x => by cases x <;> simp) _ s,
    foldl_keeps (·.resetnLow) _ (fun t x => by cases x <;> simp) _ s,
    foldl_keeps (·.pending) _ (fun t x => by cases x <;> simp) _ s,
    foldl_keeps (·.port.part) _ (fun t x => by cases x <;> simp) _ s,
    foldl_keeps (·.port.stepRun) _ (fun t x => by cases x <;> simp) _ s,
    foldl_keeps (·.port.response) _ (fun t x => by cases x <;> simp) _ s,
    foldl_keeps (·.port.sdo) _ (fun t x => by cases x <;> simp) _ s⟩

@[simp] theorem endTest_keeps (r : TestResult) (s : State) :
    (endTest r s).port = s.port ∧ (endTest r s).conf = s.conf ∧ (endTest r s).ref = s.ref ∧
    (endTest r s).posn = s.posn ∧ (endTest r s).agr = s.agr ∧ (endTest r s).cues = s.cues ∧
    (endTest r s).plan = s.plan ∧ (endTest r s).pass = s.pass ∧ (endTest r s).sched = s.sched ∧
    (endTest r s).out = s.out ∧ (endTest r s).onset = s.onset ∧ (endTest r s).log = s.log ∧
    (endTest r s).marks = s.marks ∧ (endTest r s).resetnLow = s.resetnLow ∧ (endTest r s).pending = s.pending := by
  simp [endTest]

@[simp] theorem testGoesOn_keeps (t : LineTest) (rx : Receiver) (l : List Bool) (s : State) :
    (testGoesOn t rx l s).port = s.port ∧ (testGoesOn t rx l s).conf = s.conf ∧ (testGoesOn t rx l s).ref = s.ref ∧
    (testGoesOn t rx l s).posn = s.posn ∧ (testGoesOn t rx l s).agr = s.agr ∧ (testGoesOn t rx l s).cues = s.cues ∧
    (testGoesOn t rx l s).plan = s.plan ∧ (testGoesOn t rx l s).pass = s.pass ∧ (testGoesOn t rx l s).sched = s.sched ∧
    (testGoesOn t rx l s).out = s.out ∧ (testGoesOn t rx l s).onset = s.onset ∧ (testGoesOn t rx l s).log = s.log ∧
    (testGoesOn t rx l s).marks = s.marks ∧ (testGoesOn t rx l s).resetnLow = s.resetnLow ∧ (testGoesOn t rx l s).pending = s.pending := by
  simp only [testGoesOn]
  (repeat' split) <;> simp

@[simp] theorem hear_keeps (l : List Bool) (s : State) :
    (hear l s).port = s.port ∧ (hear l s).conf = s.conf ∧ (hear l s).ref = s.ref ∧
    (hear l s).posn = s.posn ∧ (hear l s).agr = s.agr ∧ (hear l s).cues = s.cues ∧
    (hear l s).plan = s.plan ∧ (hear l s).pass = s.pass ∧ (hear l s).sched = s.sched ∧
    (hear l s).out = s.out ∧ (hear l s).onset = s.onset ∧ (hear l s).log = s.log ∧
    (hear l s).marks = s.marks ∧ (hear l s).resetnLow = s.resetnLow ∧ (hear l s).pending = s.pending := by
  simp only [hear]
  (repeat' split) <;> simp

@[simp] theorem testFrameBits_keeps (l : List Bool) (t : LineTest) (s : State) :
    (testFrameBits l t s).port = s.port ∧ (testFrameBits l t s).conf = s.conf ∧ (testFrameBits l t s).ref = s.ref ∧
    (testFrameBits l t s).posn = s.posn ∧ (testFrameBits l t s).agr = s.agr ∧ (testFrameBits l t s).cues = s.cues ∧
    (testFrameBits l t s).plan = s.plan ∧ (testFrameBits l t s).pass = s.pass ∧ (testFrameBits l t s).sched = s.sched ∧
    (testFrameBits l t s).out = s.out ∧ (testFrameBits l t s).onset = s.onset ∧ (testFrameBits l t s).log = s.log ∧
    (testFrameBits l t s).marks = s.marks ∧ (testFrameBits l t s).resetnLow = s.resetnLow ∧ (testFrameBits l t s).pending = s.pending := by
  simp only [testFrameBits, judgeTestFrame, testFrameLost]
  (repeat' split) <;> simp

@[simp] theorem entryBitError_keeps (l : List Bool) (s : State) :
    (entryBitError l s).conf = s.conf ∧ (entryBitError l s).ref = s.ref ∧ (entryBitError l s).posn = s.posn ∧
    (entryBitError l s).cues = s.cues ∧ (entryBitError l s).plan = s.plan ∧ (entryBitError l s).pass = s.pass ∧
    (entryBitError l s).sched = s.sched ∧ (entryBitError l s).out = s.out ∧ (entryBitError l s).onset = s.onset ∧
    (entryBitError l s).marks = s.marks ∧ (entryBitError l s).resetnLow = s.resetnLow ∧ (entryBitError l s).pending = s.pending ∧
    (entryBitError l s).port.part = s.port.part ∧ (entryBitError l s).port.stepRun = s.port.stepRun ∧ (entryBitError l s).port.response = s.port.response ∧
    (entryBitError l s).port.sdo = s.port.sdo := by
  simp only [entryBitError]
  split <;> simp

@[simp] theorem echoComplete_keeps (f : BusFrame) (l : List Bool) (s : State) :
    (echoComplete f l s).conf = s.conf ∧ (echoComplete f l s).ref = s.ref ∧ (echoComplete f l s).posn = s.posn ∧
    (echoComplete f l s).cues = s.cues ∧ (echoComplete f l s).plan = s.plan ∧ (echoComplete f l s).pass = s.pass ∧
    (echoComplete f l s).sched = s.sched ∧ (echoComplete f l s).out = s.out ∧ (echoComplete f l s).onset = s.onset ∧
    (echoComplete f l s).marks = s.marks ∧ (echoComplete f l s).resetnLow = s.resetnLow ∧ (echoComplete f l s).pending = s.pending ∧
    (echoComplete f l s).port.part = s.port.part ∧ (echoComplete f l s).port.stepRun = s.port.stepRun ∧ (echoComplete f l s).port.response = s.port.response ∧
    (echoComplete f l s).port.sdo = s.port.sdo := by
  simp [echoComplete]

end Sys2Proof.Machine
end

