-- ==== Sys2Proof/Laws/Ops.lean ====
section
/-! SUPPORT. What the shared operations do, said once: the slots and marks, posting, the measured periods of the reference, the writes into the take in progress, admission to the transmit queue, the offers, the event list, and the views that one block decides. -/

namespace Sys2Proof.Machine

/-! ## Slots and marks -/

@[simp] theorem Agreement.slot_setSlot_self (g : Agreement) (a : Nat) (x : PeerSlot) (low : 1 ≤ a) (high : a ≤ 30) :
    (g.setSlot a x).slot a = x := by
  have ne : a ≠ 0 := by omega
  have lt : a - 1 < 30 := by omega
  simp [Agreement.slot, Agreement.setSlot, ne, Vector.getD, lt]

@[simp] theorem Agreement.slot_setSlot_ne (g : Agreement) (a b : Nat) (x : PeerSlot) (ne : b ≠ a) :
    (g.setSlot a x).slot b = g.slot b := by
  unfold Agreement.slot Agreement.setSlot
  by_cases hb : b = 0
  · simp [hb]
  · by_cases ha : a = 0
    · simp [ha]
    · have : a - 1 ≠ b - 1 := by omega
      simp [hb, ha, Vector.getD, this]

@[simp] theorem State.mark_setMark_self (s : State) (n : Nat) (m : Mark) (low : 1 ≤ n) (high : n ≤ 4) :
    (s.setMark n m).mark n = m := by
  have ne : n ≠ 0 := by omega
  have lt : n - 1 < 4 := by omega
  simp [State.mark, State.setMark, ne, Vector.getD, lt]

@[simp] theorem State.mark_setMark_ne (s : State) (n k : Nat) (m : Mark) (ne : k ≠ n) : (s.setMark n m).mark k = s.mark k := by
  unfold State.mark State.setMark
  by_cases hk : k = 0
  · simp [hk]
  · by_cases hn : n = 0
    · simp [hn]
    · have : n - 1 ≠ k - 1 := by omega
      simp [hk, hn, Vector.getD, this]

/-! ## Views of the configuration -/

theorem State.timing_of_conf {s t : State} (h : t.conf = s.conf) : t.timing = s.timing := by unfold State.timing; rw [h]

theorem State.station_of_conf {s t : State} (h : t.conf = s.conf) : t.station = s.station := by unfold State.station; rw [h]

theorem State.outputs_of_conf {s t : State} (h : t.conf = s.conf) : t.outputs = s.outputs := by unfold State.outputs; rw [h]

theorem State.pMax_of_conf {s t : State} (h : t.conf = s.conf) : t.pMax = s.pMax := by
  unfold State.pMax; rw [State.timing_of_conf h]

theorem State.address_of_conf {s t : State} (h : t.conf = s.conf) : t.address = s.address := by
  unfold State.address; rw [State.station_of_conf h]

/-! ## Posting (R191) -/

/-- Posting reads and writes the port alone. -/
theorem post_port_congr (k : NoticeKind) (d : Nat) {s t : State} (h : s.port = t.port) :
    (post k d s).port = (post k d t).port := by
  unfold post; rw [h]; split <;> simp

theorem post_notices_below (k : NoticeKind) (d : Nat) (s : State) (h : s.port.notices.length < 16) :
    (post k d s).port = { s.port with notices := s.port.notices ++ [⟨k, d⟩] } := by
  unfold post; rw [if_pos h]; rfl

theorem post_notices_full (k : NoticeKind) (d : Nat) (s : State) (h : 16 ≤ s.port.notices.length) :
    (post k d s).port = { s.port with overflow := true } := by
  unfold post; rw [if_neg (Nat.not_lt.2 h)]; rfl

/-- What waited before still waits, in front. -/
theorem post_notices_grow (k : NoticeKind) (d : Nat) (s : State) : s.port.notices <+: (post k d s).port.notices := by
  unfold post; split <;> simp

theorem post_notices_bounded (k : NoticeKind) (d : Nat) (s : State) (h : s.port.notices.length ≤ 16) :
    (post k d s).port.notices.length ≤ 16 := by
  unfold post; split
  · simpa using by assumption
  · simpa using h

/-- A posted queue is not empty, so the overflow flag may stand over it. -/
theorem post_notices_ne_nil (k : NoticeKind) (d : Nat) (s : State) : (post k d s).port.notices ≠ [] := by
  unfold post; split
  · simp
  · rename_i h; intro e; simp at e; simp [e] at h

/-- Posting does not see the plan. -/
theorem post_setPlan (k : NoticeKind) (d : Nat) (s : State) (x : PlanUnit) : post k d (s.setPlan x) = (post k d s).setPlan x := by
  unfold post
  split <;> rename_i h
  · rw [if_pos (show s.port.notices.length < _ from h)]; rfl
  · rw [if_neg (show ¬ s.port.notices.length < _ from h)]; rfl

/-! ## Measured periods (R3) -/

/-- Up to T + T div 2 counts the period is the distance. -/
theorem measuredPeriod_within (t o x : Nat) (near : x - o ≤ t + t / 2) :
    measuredPeriod (some t) o x = measuredPeriod none o x := by
  simp [measuredPeriod, Nat.min_eq_right near]

/-- From the moment of the watchdog's expiry on the period is T + T div 2. -/
theorem measuredPeriod_expired (t o x : Nat) (far : t + t / 2 < x - o) (pos : 1 ≤ t) (fits : t + t / 2 ≤ 16777215) :
    measuredPeriod (some t) o x = t + t / 2 := by
  simp only [measuredPeriod, Config.longestPeriod]; omega

/-- An edge agrees where it comes in time and its period differs by a 256th part at most. -/
theorem edgeAgrees_iff (t o x : Nat) : edgeAgrees t o x = true ↔
    x - o ≤ t + t / 2 ∧ measuredPeriod (some t) o x ≤ t + t / 256 ∧ t ≤ measuredPeriod (some t) o x + t / 256 := by
  simp [edgeAgrees, periodsAgree]

/-- An edge at the moment of the watchdog's expiry does not agree. -/
theorem edgeAgrees_at_expiry (t o : Nat) : edgeAgrees t o (watchdogMoment o t) = false := by
  rw [← Bool.not_eq_true, edgeAgrees_iff]; unfold watchdogMoment; omega

/-! ## The take in progress (R170) -/

theorem writeTake_log (f : TakeRec → TakeRec) (s : State) :
    (writeTake f s).log = ⟨s.log.records.map fun r => if r.outcome = .inProgress then f r else r, s.log.counter⟩ := rfl

theorem writeTake_of_none (f : TakeRec → TakeRec) (s : State) (h : ∀ r ∈ s.log.records, r.outcome ≠ .inProgress) :
    writeTake f s = s := by
  have e : (s.log.records.map fun r => if r.outcome = .inProgress then f r else r) = s.log.records := by
    conv => rhs; rw [← List.map_id s.log.records]
    exact List.map_congr_left fun r hr => by simp [h r hr]
  unfold writeTake; rw [e]; rfl

@[simp] theorem writeTake_length (f : TakeRec → TakeRec) (s : State) :
    (writeTake f s).log.records.length = s.log.records.length := by simp [writeTake]

@[simp] theorem writeTake_counter (f : TakeRec → TakeRec) (s : State) : (writeTake f s).log.counter = s.log.counter := rfl

/-! ## The transmit queue (R35, R36) -/

theorem dropNewest_split (test : TxEntry → Bool) (before after : List TxEntry) (e : TxEntry) (h : test e = true)
    (none : after.any test = false) : dropNewest test (before ++ e :: after) = before ++ after := by
  have n : ∀ x ∈ after.reverse, test x = false := by
    intro x hx
    have hx' : x ∈ after := by simpa using hx
    rw [List.any_eq_false] at none
    simpa using none x hx'
  unfold dropNewest
  rw [List.reverse_append, List.reverse_cons, List.append_assoc, List.eraseP_append_right _ (by simpa using n)]
  simp [h]

theorem dropNewest_length (test : TxEntry → Bool) (q : List TxEntry) (h : q.any test = true) :
    (dropNewest test q).length + 1 = q.length := by
  obtain ⟨x, hx, tx⟩ := List.any_eq_true.1 h
  have := List.length_eraseP_of_mem (l := q.reverse) (p := test) (by simpa using hx) tx
  have pos : 0 < q.length := List.length_pos_of_mem hx
  simp only [dropNewest, List.length_reverse] at this ⊢
  omega

/-- Admission never lets the queue grow past its capacity. -/
theorem admitTo_bounded (q : List TxEntry) (f : QueuedFrame) (m : Bool) (h : q.length ≤ 8) :
    (admitTo q f m).2.length ≤ 8 := by
  unfold admitTo
  split
  · rename_i c; have := dropNewest_length _ q c.2; simp; omega
  · split
    · rename_i c; have := dropNewest_length _ q c.2; simp; omega
    · split
      · rename_i c; simpa using c
      · split
        · simpa using h
        · split
          · rename_i c; have := dropNewest_length _ q c; simp; omega
          · simpa using h

/-- An offer reads and writes the bus controller alone. -/
theorem offer_bus_congr (f : QueuedFrame) (m : Bool) {s t : State} (h : s.bus = t.bus) :
    (offer f m s).2.bus = (offer f m t).2.bus ∧ (offer f m s).1 = (offer f m t).1 := by
  unfold offer; rw [h]; split <;> simp [h]

@[simp] theorem offerTagged_bus (f : QueuedFrame) (m : Bool) (s : State) : (offerTagged f m s).bus = (offer f m s).2.bus := by
  unfold offerTagged; split <;> simp

@[simp] theorem offerInternal_bus (f : QueuedFrame) (s : State) : (offerInternal f s).bus = (offer f false s).2.bus := by
  simp [offerInternal]

/-- An offer that is not refused posts nothing. -/
theorem offerInternal_port (f : QueuedFrame) (s : State) (h : (offer f false s).1 ≠ .full) :
    (offerInternal f s).port = s.port := by
  simp [offerInternal, offerTagged, h]

/-- A transport frame with room in the queue is appended. -/
theorem offer_transport (f : QueuedFrame) (m : Bool) (s : State) (k : f.kind = .anchor ∨ f.kind = .locate)
    (link : s.bus.link.admits = true) (room : s.bus.queue.length < 8) :
    offer f m s = (.admitted, s.setBus { s.bus with queue := s.bus.queue ++ [⟨f, 0, false, m⟩] }) := by
  unfold offer admitTo
  rcases k with k | k <;> simp [link, k, room, newEntry]

/-! ## The line and the abort (R23, R31, R37) -/

/-- Nothing ended in the bits read. -/
@[simp] theorem received_nil (s : State) : received [] s = s := rfl

/-- A discard is silent, and the outcomes after it are handled in their order (R27). -/
@[simp] theorem received_discard (o : List RxOutcome) (s : State) : received (.discard :: o) s = received o s := rfl

/-- A complete frame is handled before the outcomes after it (R28). -/
@[simp] theorem received_complete (f : BusFrame) (o : List RxOutcome) (s : State) :
    received (.complete f :: o) s = received o (foreignFrame f s) := rfl

/-- Without a line test, bits taken in move the receiver and the abort alone. -/
theorem hear_bus (line : List Bool) (s : State) (h : s.bus.lineTest = none) :
    hear line s = s.setBus { s.bus with rx := (runRx s.bus.rx line).1, abort := s.bus.abort - line.length } := by
  simp [hear, h]

/-- A wait with time left is lengthened by the bits read (R43). -/
theorem testGoesOn_waits (t : LineTest) (rx : Receiver) (line : List Bool) (s : State) (w : Nat)
    (open_ : t.allJudged = false) (h : t.waits rx line = some w) :
    testGoesOn t rx line s = s.setBus { s.bus with lineTest := some { t with waited := w } } := by
  simp [testGoesOn, open_, h]

/-- A wait that runs out ends the test at once (R43). -/
theorem testGoesOn_busy (t : LineTest) (rx : Receiver) (line : List Bool) (s : State)
    (open_ : t.allJudged = false) (h : t.waits rx line = none) : testGoesOn t rx line s = endTest .lineBusy s := by
  simp [testGoesOn, open_, h]

/-- A test whose frames are judged ends when no abort is left (R42, R43). -/
theorem testGoesOn_judged (t : LineTest) (rx : Receiver) (line : List Bool) (s : State) (h : t.allJudged = true) :
    testGoesOn t rx line s =
      if s.bus.abort = 0 then endTest (judgedResult t.bad) s else s.setBus { s.bus with lineTest := some t } := by
  simp [testGoesOn, h]

@[simp] theorem beginAbort_sending (after : List Bool) (b : BusCtl) : (beginAbort after b).sending = none := rfl

@[simp] theorem beginAbort_abort (after : List Bool) (b : BusCtl) : (beginAbort after b).abort = 8 - after.length := rfl

@[simp] theorem beginAbort_rx (after : List Bool) (b : BusCtl) : (beginAbort after b).rx = (runRx Receiver.reset after).1 := rfl

@[simp] theorem beginAbort_queue (after : List Bool) (b : BusCtl) : (beginAbort after b).queue = b.queue := rfl

@[simp] theorem beginAbort_link (after : List Bool) (b : BusCtl) : (beginAbort after b).link = b.link := rfl

@[simp] theorem beginAbort_lineTest (after : List Bool) (b : BusCtl) : (beginAbort after b).lineTest = b.lineTest := rfl

/-- A controller that does not drive the line leaves it released. -/
theorem driven_of_not_drives (s : State) (h : s.drives = false) : s.driven = [] ∧ s.txd = true := by
  simp [State.driven, State.txd, h]

theorem driven_of_frame (s : State) (f : BusFrame) (h : s.drives = true) (on : s.bus.sending = some f) :
    s.driven = f.lineBits := by
  simp [State.driven, BusCtl.output, h, on]

/-- Without a frame the line carries what is left of an abort. -/
theorem driven_of_abort (s : State) (h : s.drives = true) (off : s.bus.sending = none) :
    s.driven = List.replicate s.bus.abort false := by
  simp [State.driven, BusCtl.output, h, off]

/-! ## The slip of step 2 (R66, R170) -/

theorem flagTakeSync_log (n : Nat) (s : State) : (flagTakeSync n s).log = ⟨s.log.records.map fun r =>
    if r.number = n then { r with flags := { r.flags with syncSuspect := true } } else r, s.log.counter⟩ := rfl

theorem landSlip_some (n c : Nat) (s : State) : landSlip (some n) c s = flagTakeSync n s := rfl

theorem landSlip_none_kept (c : Nat) (s : State) (h : s.log.counter = c) : landSlip none c s = flagSyncSuspect s := by
  simp [landSlip, h]

theorem landSlip_none_begun (c : Nat) (s : State) (h : s.log.counter ≠ c) :
    landSlip none c s = flagTakeSync s.log.counter s := by
  simp [landSlip, h]

/-! ## The event list (R132, R134) -/

/-- A set that is not armed has an empty list. -/
theorem requestBuild_of_not_armed (s : State) (h : armed s = false) :
    requestBuild s = s.setSched { s.sched with events := [] } := by
  unfold requestBuild; split <;> simp [h]

theorem requestBuild_of_armed (s : State) (h : HeldSet) (held : s.sched.held = some h) (a : armed s = true) :
    requestBuild s = build h s := by
  simp [requestBuild, held, a]

theorem build_events (h : HeldSet) (s : State) :
    (build h s).sched = { s.sched with events := keptEvents (heldEvents s h) s.sched.fired s.posn.p } := by
  simp only [build]; split <;> simp

/-- A pin mark does not enter the events of a cue (R126). -/
theorem cueEvents_pinned (c : Scheduler) (d : DefaultsRec) (o : OutputsRec) (pMax order : Nat) (cue : CueRec)
    (pinned : Bool) (mode : PassMode) :
    cueEvents c d o pMax order { cue with pinned := pinned } mode = cueEvents c d o pMax order cue mode := by
  have pairs : pipPair c o pMax order { cue with pinned := pinned } = pipPair c o pMax order cue := rfl
  simp only [cueEvents, pipEvents, pairs]; rfl

/-- The events of a set depend on the cues but for their pins, on the advances and on the configuration (R126, R130). -/
theorem heldEvents_pinSet (s : State) (set : List Nat) (h : HeldSet) : heldEvents (pinSet set s) h = heldEvents s h := by
  have found : ∀ id, findCue (pinSet set s).cues id =
      (findCue s.cues id).map fun c => { c with pinned := set.contains c.id } := by
    intro id; simp only [pinSet, State.setCues_cues, findCue]
    induction s.cues with
    | nil => rfl
    | cons c rest ih => simp only [List.map_cons, List.find?_cons]; split <;> simp_all
  unfold heldEvents; congr 1; funext x
  simp only [found]
  cases findCue s.cues x.1 with
  | none => rfl
  | some c => exact cueEvents_pinned _ _ _ _ _ c _ _

/-- A preparation with pass state STANDBY at the scheduler (R104 step 5, R134, R137): the new set, an empty fired record, and a list built against the present position while the transport is STOPPED or CUEING, an empty one while it is ROLLING. -/
theorem prepare_standby_sched (a : PlanAnswer) (s : State) :
    (prepare a .standby s).sched = { s.sched with held := some ⟨a.set, a.mode⟩, fired := [], events :=
      if s.agr.transport = .rolling then [] else keptEvents (heldEvents s ⟨a.set, a.mode⟩) [] s.posn.p } := by
  rw [← heldEvents_pinSet s a.set ⟨a.set, a.mode⟩]
  by_cases rolling : s.agr.transport = .rolling
  · unfold prepare handHeld
    rw [requestBuild_of_not_armed _ (by simp [armed, pinSet, rolling])]; simp [pinSet, rolling]
  · unfold prepare handHeld
    rw [requestBuild_of_armed _ ⟨a.set, a.mode⟩ rfl (by simp [armed, pinSet, rolling, ownWindowOf, labelNow]), build_events]
    simp only [rolling, if_false]; rfl

theorem mem_insertEvent (e x : Event) (l : List Event) : x ∈ insertEvent e l ↔ x = e ∨ x ∈ l := by
  induction l with
  | nil => simp [insertEvent]
  | cons y rest ih =>
    simp only [insertEvent]; split
    · simp
    · simp only [List.mem_cons, ih]; tauto

theorem mem_sortEvents (x : Event) (l : List Event) : x ∈ sortEvents l ↔ x ∈ l := by
  induction l with
  | nil => simp [sortEvents]
  | cons y rest ih => simp [sortEvents, mem_insertEvent, ih]

/-! ## The frame edge -/

/-- The position of an edge is decided by its first two steps (R17, R48). -/
theorem frameEdge_posn (s : State) : (frameEdge s).posn = (applyFrames s (edgeAdvance s)).posn := by
  simp [frameEdge, agreementSteps]

/-- With nothing to apply, step 2 changes nothing. -/
theorem applyFrames_nil (b s : State) (h : s.agr.frames = []) : applyFrames b s = s := by
  have e : { s.agr with frames := [] } = s.agr := by cases hs : s.agr; simp_all
  unfold applyFrames; rw [h, e]; rfl

/-- The word depends on what a composition does not write. -/
theorem overlayWord_compose (s : State) : overlayWord (compose s) = overlayWord s := rfl

end Sys2Proof.Machine
end

