-- ==== Sys2Proof/Laws/PerInstr.lean ====
section
/-! SUPPORT. The per-instruction family `Message`: what the message of a console command looks like on the wire (R187, R188, R203), one lemma per constructor. -/

namespace Sys2Proof.Laws

/-- Statement of the family: the message of the command that an instruction sends fits the 32 bytes that the port keeps (R187), its length byte says how many parameter bytes follow (R203), and its code is one of the catalogue (R189). -/
def Message.Statement (i : Instr) : Prop :=
  ∀ c : Command, i.command = some c → (encodeMessage c).length ≤ Config.messageCapacity ∧
    (BitVec.ofNat 8 c.params.length).toNat = c.params.length ∧ (catalogue c.code.toNat).isSome = true

/-- No command carries more than 30 parameter bytes. -/
theorem params_length_le (c : Command) : c.params.length ≤ 30 := by
  cases c with
  | configure r => cases r <;> simp [Command.params, ConfigRecord.bytes, halfBytes]
  | readCue sel => cases sel <;> simp [Command.params, halfBytes]
  | planStep st => cases st <;> simp [Command.params, halfBytes]
  | _ => simp [Command.params, CueArgs.bytes, halfBytes, quadBytes]

/-- Every command's code stands in the catalogue. -/
theorem catalogue_code (c : Command) : (catalogue c.code.toNat).isSome = true := by cases c <;> rfl

/-- The message of any instruction that sends a command. -/
theorem Message.of_command (i : Instr) : Message.Statement i := by
  intro c _
  have len := params_length_le c
  refine ⟨?_, ?_, catalogue_code c⟩
  · simp only [encodeMessage, List.length_cons, Config.messageCapacity]; omega
  · rw [BitVec.toNat_ofNat]; omega

theorem Message.transfer (message : List Byte) : Message.Statement (.transfer message) := Message.of_command _

theorem Message.configure (r : ConfigRecord) : Message.Statement (.configure r) := Message.of_command _

theorem Message.start : Message.Statement .start := Message.of_command _

theorem Message.resetFull : Message.Statement .resetFull := Message.of_command _

theorem Message.resetRejoin : Message.Statement .resetRejoin := Message.of_command _

theorem Message.readStatus (section_ index : Byte) : Message.Statement (.readStatus section_ index) := Message.of_command _

theorem Message.readNotice : Message.Statement .readNotice := Message.of_command _

theorem Message.lineTest (mode count : Byte) : Message.Statement (.lineTest mode count) := Message.of_command _

theorem Message.loadCue (a : CueArgs) : Message.Statement (.loadCue a) := Message.of_command _

theorem Message.deleteCue (id : Half) : Message.Statement (.deleteCue id) := Message.of_command _

theorem Message.clearCues : Message.Statement .clearCues := Message.of_command _

theorem Message.readCue (sel : CueSelector) : Message.Statement (.readCue sel) := Message.of_command _

theorem Message.planClear : Message.Statement .planClear := Message.of_command _

theorem Message.planStep (st : StepArgs) : Message.Statement (.planStep st) := Message.of_command _

theorem Message.planRun : Message.Statement .planRun := Message.of_command _

theorem Message.planSkip : Message.Statement .planSkip := Message.of_command _

theorem Message.planAbort : Message.Statement .planAbort := Message.of_command _

theorem Message.go : Message.Statement .go := Message.of_command _

theorem Message.transportLocate (target : Quad) (rate thenPlay : Byte) : Message.Statement (.transportLocate target rate thenPlay) := Message.of_command _

theorem Message.transportPlay (rate : Byte) : Message.Statement (.transportPlay rate) := Message.of_command _

theorem Message.transportStop : Message.Statement .transportStop := Message.of_command _

theorem Message.hold : Message.Statement .hold := Message.of_command _

theorem Message.release : Message.Statement .release := Message.of_command _

theorem Message.readPeers (address : Byte) : Message.Statement (.readPeers address) := Message.of_command _

theorem Message.readTake (part remove : Byte) : Message.Statement (.readTake part remove) := Message.of_command _

theorem Message.setMark (a : MarkArgs) : Message.Statement (.setMark a) := Message.of_command _

theorem Message.clearMark (number : Byte) : Message.Statement (.clearMark number) := Message.of_command _

theorem Message.step (count : Byte) : Message.Statement (.step count) := Message.of_command _

theorem Message.steppedEdge : Message.Statement .steppedEdge := Message.of_command _

theorem Message.powerOn : Message.Statement .powerOn := Message.of_command _

theorem Message.resetn : Message.Statement .resetn := Message.of_command _

theorem Message.resetnRelease : Message.Statement .resetnRelease := Message.of_command _

theorem Message.refPulse (transition : RefTransition) (heldNs : Nat) (instant : Nat) : Message.Statement (.refPulse transition heldNs instant) := Message.of_command _

theorem Message.watchdogExpiry : Message.Statement .watchdogExpiry := Message.of_command _

theorem Message.synthesisedEdge : Message.Statement .synthesisedEdge := Message.of_command _

theorem Message.tick : Message.Statement .tick := Message.of_command _

theorem Message.holdExpired (address : Nat) : Message.Statement (.holdExpired address) := Message.of_command _

theorem Message.peerLost (address : Nat) : Message.Statement (.peerLost address) := Message.of_command _

theorem Message.settleEnd : Message.Statement .settleEnd := Message.of_command _

theorem Message.beaconDue : Message.Statement .beaconDue := Message.of_command _

theorem Message.linkActive : Message.Statement .linkActive := Message.of_command _

theorem Message.transmitStart (line : List Bool) : Message.Statement (.transmitStart line) := Message.of_command _

theorem Message.arbitrationLoss (line : List Bool) : Message.Statement (.arbitrationLoss line) := Message.of_command _

theorem Message.bitError (line : List Bool) : Message.Statement (.bitError line) := Message.of_command _

theorem Message.frameComplete (line : List Bool) : Message.Statement (.frameComplete line) := Message.of_command _

theorem Message.frameDiscard (line : List Bool) : Message.Statement (.frameDiscard line) := Message.of_command _

theorem Message.lineTestFrame (line : List Bool) : Message.Statement (.lineTestFrame line) := Message.of_command _

theorem Message.lineBusy (line : List Bool) : Message.Statement (.lineBusy line) := Message.of_command _

theorem Message.closureOffer : Message.Statement .closureOffer := Message.of_command _

theorem Message.ovsync : Message.Statement .ovsync := Message.of_command _

theorem Message.levelSample (pulses : List LevelPulse) : Message.Statement (.levelSample pulses) := Message.of_command _

theorem Message.markFired (number : Nat) : Message.Statement (.markFired number) := Message.of_command _

theorem Message.ovclk : Message.Statement .ovclk := Message.of_command _

end Sys2Proof.Laws
end

