-- ==== Sys2Proof/Tests/Slice0.lean ====
section
/-! SUPPORT. Small tests: ill-formed commands refused, messages written out from the catalogue of the spec, one witness theorem for the hypotheses of each statement, and a few worked examples of the spec's chapters. -/

namespace Sys2Proof.Tests

open Sys2Proof Sys2Proof.Machine

/-! ## Small states -/

/-- A TIMING record at 24 frames/s. -/
def timing (src : RefSource) (refDiv : Nat) : TimingRec := ⟨.f24, refDiv, src, .k1000⟩

/-- All five records held: station 12, beacon interval 5, hold lease 25, closure grace 2, settle 1, slip tolerance 10. -/
def conf (src : RefSource) (refDiv : Nat) : Conf :=
  ⟨some (timing src refDiv), some ⟨12, 5, 25, 2, 1, 10⟩, some ⟨240, 30, 12, 0, 1920, 240, 2, true⟩,
    some ⟨8, 2, 6, 1, 1, 1, 1⟩, some ⟨20, 80, 90, 1⟩⟩

/-- CONFIG with all records held. -/
def held5 : State := State.reset.setConf (conf .inputRise 1)

/-- CONFIG with a number of records held, TIMING first. -/
def heldFirst (n : Nat) : State :=
  State.reset.setConf ⟨if 0 < n then (conf .inputRise 1).timing else none, if 1 < n then (conf .inputRise 1).station else none,
    if 2 < n then (conf .inputRise 1).outputs else none, if 3 < n then (conf .inputRise 1).defaults else none, none⟩

/-- RUNNING with the link ACTIVE. -/
def stage : State :=
  (held5.setPort { State.reset.port with part := .running }).setBus { State.reset.bus with link := .active }

/-- RUNNING under the STEP source. -/
def bench : State := stage.setConf (conf .step 1)

/-- RUNNING with the divider at 2. -/
def divided : State := stage.setConf (conf .inputFall 2)

/-- RUNNING with the link LISTENING. -/
def listening : State := stage.setBus { State.reset.bus with link := .listening, listeningCount := 1 }

/-- A line test running in CONFIG, its first frame to come on an idle line. -/
def testing (next waited : Nat) : State :=
  held5.setBus ⟨.lineTest, 0, [], none, ⟨10, none⟩, some ⟨.busEcho, 2, next, 0, waited⟩, .running, 0⟩

/-- A line test of two frames in a mode, with a frame on the line or an abort to be sent. -/
def testRun (mode : TestMode) (next abort : Nat) (sending : Option BusFrame) : State :=
  held5.setBus ⟨.lineTest, 0, [], sending, ⟨10, none⟩, some ⟨mode, 2, next, 0, 0⟩, .running, abort⟩

/-- A cue of two seconds. -/
def cue (id s : Nat) (pinned : Bool) : CueRec :=
  ⟨id, s, s + 5760, none, none, none, none, none, none, none, 0, false, false, false, pinned⟩

/-- A stage with two cues, the first pinned or not. -/
def withCues (pinned : Bool) : State := stage.setCues [cue 7 6000 pinned, cue 9 18000 false]

/-- The parameters of a LOAD CUE with every cueing field absent. -/
def args (id : Half) (options : Byte) : CueArgs := ⟨id, 30000, 36000, 0, 0, 0, 0, 0, 0, 0, 0, 0, options⟩

/-- A stage with a plan of one RECORD step over the two cues. -/
def planned : State := (withCues false).setPlan ⟨[.cue 7 2 2 .record], none, 0, []⟩

/-- The state after PLAN RUN. -/
def prepared : State :=
  match exec .planRun planned with
  | .next t => t
  | _ => planned

/-- The own window of the prepared pass. -/
def window : OwnWindow := ⟨0, 0, .record, [7, 9], 7, 5880, 23880⟩

/-- A take in progress. -/
def takeOpen : TakeRec := ⟨1, 0, 0, .record, .inProgress, none, none, ⟨false, false, false, false⟩, [⟨7, none, false, false⟩]⟩

/-- A take that is closed. -/
def takeClosed : TakeRec := { takeOpen with outcome := .complete }

/-- A stage rolling in a pass. -/
def inPass : State :=
  (((prepared.setPass { prepared.pass with state := .inPass }).setLog ⟨[takeOpen], 1⟩).setAgr
    { prepared.agr with transport := .rolling }).setSched { prepared.sched with events := [] }

/-- A rolling stage. -/
def rolling : State := stage.setAgr { stage.agr with transport := .rolling }

/-- A rolling stage with the reference LOCKED at a period of 40,000 counts. -/
def lockedRoll : State := rolling.setRef ⟨.locked, 0, some 0, some 40000, 8, 0⟩

/-- The reference in a lock state on a stage. -/
def withRef (lock : LockState) (origin period : Option Nat) (count : Nat) : State :=
  stage.setRef ⟨lock, 0, origin, period, count, 0⟩

/-- A stage that settles a locate. -/
def cueing (play : Bool) : State :=
  stage.setAgr { stage.agr with transport := .cueing, settle := 1, locate := some ⟨120, false, play⟩ }

/-- A window entry of the own station or of station 3. -/
def entry (a n pIn : Nat) (st : WindowStatus) (more : Option Bool) : WindowEntry := ⟨a, n, 7, pIn, 24000, st, more⟩

/-- A hold entry. -/
def holdAt (a lease : Nat) (fresh : Bool) : HoldEntry := ⟨a, lease, 1, fresh⟩

/-- An entry of the transmit queue. -/
def queued (f : QueuedFrame) (retries : Nat) (onLine : Bool) : TxEntry := ⟨f, retries, onLine, false⟩

/-- A full transmit queue without a BEACON. -/
def fullQueue : List TxEntry := List.replicate 8 (queued (.window 0 7 0 10) 0 false)

/-- A RELEASE of station 12 on the line. -/
def release12 : BusFrame := Payload.release.frame 12

/-- A stage with a RELEASE on the line. -/
def sendingRelease (retries : Nat) : State :=
  stage.setBus { stage.bus with
    queue := [queued .beacon 0 false, queued .release retries true], sending := some release12, rx := ⟨10, none⟩ }

/-- A stage whose receiver stands at idle. -/
def idleLine (link : LinkState) : State := stage.setBus { stage.bus with link := link, rx := ⟨10, none⟩ }

/-- A mark that acts at its next occurrence. -/
def markOnce (act : MarkAction) : Mark := ⟨100, 200, .enter, 1, 3, act, .once, true⟩

/-- A word in the shifter. -/
def word : OverlayWord := ⟨100, 4095, true, false, true, 7, 300, 3, .rolling, 5⟩

/-- An event of cue 7. -/
def event (k : EventKind) (pip : Option Nat) (fire : Nat) : Event := ⟨7, 0, k, pip, fire, fire⟩

/-- A stage with one event due at position 0. -/
def oneEvent (k : EventKind) (pip : Option Nat) : State :=
  (withCues false).setSched { stage.sched with held := some ⟨[7], .record⟩, events := [event k pip 0, event .lineEnd none 50] }

/-- A detector in a state on a stage with the window of cue 7 open and a take in progress. -/
def detecting (d : DetectorState) : State :=
  ((withCues false).setOnset ⟨d, [7], none⟩).setLog ⟨[takeOpen], 1⟩

/-- Eight equal bits. -/
def bits8 (b : Bool) : List Bool := List.replicate 8 b

/-- The fields of one answer. -/
def response (o : Host.Outcome State Fault Refusal) : Option Response :=
  match o with
  | .next t => t.port.response
  | _ => none

/-! ## Ill-formed commands are refused -/

theorem test_wf_record_code : (ConfigRecord.other 4).wf = false ∧ (ConfigRecord.other 5).wf = true := by decide

theorem test_wf_selector : (CueSelector.other 1).wf = false ∧ (CueSelector.other 2).wf = true := by decide

theorem test_wf_step_kind : (StepArgs.other 1).wf = false ∧ (StepArgs.other 2).wf = true := by decide

theorem test_wf_command : (Instr.configure (.other 0)).wf = false ∧ (Instr.readCue (.other 0)).wf = false ∧
    (Instr.planStep (.other 0)).wf = false ∧ (Instr.go).wf = true := by decide

theorem test_wf_addresses : (Instr.holdExpired 0).wf = false ∧ (Instr.holdExpired 30).wf = true ∧
    (Instr.peerLost 31).wf = false ∧ (Instr.peerLost 1).wf = true := by decide

theorem test_wf_mark_number : (Instr.markFired 0).wf = false ∧ (Instr.markFired 5).wf = false ∧
    (Instr.markFired 4).wf = true := by decide

/-! ## Messages written out from 11.3 and 11.8.3 -/

theorem test_message_start : decodeMessage [0x02, 0x00] = .command .start := by decide

theorem test_message_configure_station :
    decodeMessage [0x01, 0x07, 0x01, 0x0C, 0x05, 0x19, 0x02, 0x01, 0x0A] = .command (.configure (.station 12 5 25 2 1 10)) := by
  decide

theorem test_message_delete_cue : decodeMessage [0x11, 0x02, 0x01, 0x2C] = .command (.deleteCue 300) := by decide

theorem test_message_plan_step : decodeMessage [0x21, 0x06, 0x00, 0x00, 0x07, 0x02, 0x03, 0x01] =
    .command (.planStep (.cue 7 2 3 1)) := by decide

theorem test_message_locate : decodeMessage [0x30, 0x06, 0x00, 0x01, 0x51, 0x80, 0x78, 0x01] =
    .command (.transportLocate 86400 120 1) := by decide

theorem test_message_set_mark : decodeMessage [0x50, 0x0D, 0x02, 0, 0, 0, 100, 0, 0, 1, 0, 1, 3, 2, 0] =
    .command (.setMark ⟨2, 100, 256, 1, 3, 2, 0⟩) := by decide

theorem test_message_unknown_and_short : decodeMessage [0x07, 0x00] = .unknown ∧ decodeMessage [0x05, 0x01, 0x00] = .badLength ∧
    decodeMessage [0x35, 0x01] = .badLength := by decide

theorem test_table_spells_nothing : decodeTableWord 8 5 = none ∧ State.reset.withFetchWord 8 5 = State.reset := by decide

/-! ## Worked examples of the spec -/

/-- The table of P_MAX (00_scope.md): 24 and 60 frames/s. -/
theorem test_p_max : FrameRate.pMax .f24 = 248831999 ∧ FrameRate.pMax .f60 = 622079999 := by decide

/-- R129: the greatest effective advance, and sound speed. -/
theorem test_effective_advance : effectiveAdvance 1200 240 = 2400 ∧ effectiveAdvance 240 120 = 240 := by decide

/-- R202 and R201: the code of a header and a known CRC-16 with initial value FFFF of the bytes "123456789", 29B1. -/
theorem test_crc : crc (([0x31, 0x32, 0x33, 0x34, 0x35, 0x36, 0x37, 0x38, 0x39] : List Byte).flatMap byteBits) = 0x29B1 := by
  decide +kernel

/-- R201: precedence byte class × 32 + source, then kind and length. -/
theorem test_header : ((Payload.anchor 1 true 120 0).frame 5).header = [0x05, 0x07] ∧
    ((Payload.release).frame 5).header = [0x25, 0x30] := by decide

/-- R43: the precedence byte of a test frame is 96. -/
theorem test_line_test_precedence : (testFrame 1).header.head? = some 96 := by decide

/-- R90: a block that ends with its plan, and one that reaches beyond it. -/
theorem test_plan_valid : planValid [.block 1 2, .cue 7 1 1 .record] = true ∧ planValid [.block 2 2, .cue 7 1 1 .record] = false ∧
    planValid [] = false := by decide

/-- R179: a range narrower than the rate is passed over between two edges. -/
theorem test_mark_passed_over : (markOnce .notice).occurs 90 210 = false ∧ (markOnce .notice).occurs 90 150 = true := by decide

/-- R120: rank 1 of 2 with grace 3 offers at 3, 9, 15. -/
theorem test_duty_slots : (List.range 16).filter (dutySlot 1 2 3) = [3, 9, 15] := by decide

/-- R3: with a period of 40,000 the tolerance is 156. -/
theorem test_periods_agree : periodsAgree 40156 40000 = true ∧ periodsAgree 40157 40000 = false ∧
    periodsAgree 39843 40000 = false := by decide

/-- R163, R202: a sample is taken most significant bit first. -/
theorem test_sample_order : bitsNum [true, false, false, false, false, false, false, true] = 129 := by decide

/-- R104: pre-roll and post-roll of one frame around two cues. -/
theorem test_plan_run_window : prepared.pass.own = some window ∧ prepared.pass.state = .standby := by decide +kernel

/-! ## Witnesses: the hypotheses of each statement hold somewhere, clause by clause -/

theorem test_witness_ResetLineAndPowerOn : (State.reset.setResetnLow true).resetnLow = true ∧
    (∀ m : List Byte, Instr.tick ≠ .transfer m) ∧ Instr.tick ≠ .powerOn ∧ Instr.tick ≠ .resetn ∧ Instr.tick ≠ .resetnRelease :=
  ⟨rfl, fun _ => Instr.noConfusion, by decide, by decide, by decide⟩

theorem test_witness_ResetFullCommand : PortFree State.reset ∧ PortFree stage ∧ PortFree (testing 1 0) := by decide

theorem test_witness_ResetRejoinCommand : OnStage stage ∧ PortFree (testing 1 0) ∧ (testing 1 0).port.part = .config := by decide

theorem test_witness_StartCommand : OnStage stage ∧ (Configurable State.reset ∧ State.reset.conf.held < 5) ∧
    (Configurable (heldFirst 4) ∧ (heldFirst 4).conf.held = 4) ∧ Configurable held5 ∧ held5.conf.held = 5 := by decide

theorem test_witness_PhaseRefusals : (Instr.go.command = some .go ∧ judgedInConfig .go = false ∧ Configurable held5) ∧
    Instr.start.command = some .start ∧ servedInTest .start = false ∧ PortFree (testing 1 0) ∧
    (testing 1 0).bus.lineTest.isSome = true := by decide

theorem test_witness_MessageRoundTrip : (Command.configure (.other 5)).wf = true ∧ (Command.loadCue (args 7 15)).wf = true := by
  decide

theorem test_witness_TransferRunsItsCommand : Instr.hold.command = some .hold ∧ Command.hold.wf = true ∧ PortFree stage := by decide

theorem test_witness_TransferDiscardsAndPolls : (State.reset.setResetnLow true).resetnLow = true ∧
    (bench.setPort { bench.port with stepRun := some ⟨2, 1⟩ }).port.stepRun.isSome = true ∧ bench.resetnLow = false ∧
    PortFree stage ∧ ([0x02] : List Byte).length < 2 ∧ ([0x00, 0x00] : List Byte).head? = some 0 := by decide

/-- R200: 300 is 1, 44 in two bytes. -/
theorem test_witness_ResponseBytes : 300 < 256 ^ 2 ∧ numBytes 2 300 = [1, 44] ∧ bytesNum [1, 44] = 300 := by decide

theorem test_witness_BadMessagesAnswered : PortFree stage ∧ (0x07 : Byte) ≠ 0 ∧ catalogue (0x07 : Byte).toNat = none ∧
    (List.replicate 30 (0 : Byte)).length ≤ 30 ∧ (catalogue 5).isSome = true ∧ (30 < (31 : Byte).toNat) ∧
    ([] : List Byte).length < (1 : Byte).toNat ∧ decodeNone .readNotice [0] = none := by decide

theorem test_witness_LongMessage : 32 ≤ (List.replicate 33 (0 : Byte)).length ∧ stage.port.stepRun = none ∧
    (bench.setPort { bench.port with stepRun := some ⟨2, 1⟩ }).port.stepRun.isSome = true := by decide

/-- R198, R200: a RESET of kind 2 resets nothing and answers RANGE. -/
theorem test_reset_of_another_kind : PortFree (withCues false) ∧ (2 : Byte) ≠ 0 ∧ (2 : Byte) ≠ 1 ∧
    (match exec (.transfer [3, 1, 2]) (withCues false) with
     | .next t => (t.port.response, t.cues.length)
     | _ => (none, 0)) = (some ⟨.range, .empty⟩, 2) := by decide +kernel

theorem test_witness_ConfigureWritesRecord : Configurable (heldFirst 4) ∧ recordPlace (.onset 255 3 2000 49) = some 5 ∧
    5 ≤ (heldFirst 4).conf.held + 1 ∧ ((writeRecord (heldFirst 4).conf (.onset 255 3 2000 49)).map Prod.snd) = some true ∧
    Configurable held5 ∧ recordPlace (.timing 5 2 2 2) = some 1 ∧ (writeRecord held5.conf (.timing 5 2 2 2)).isSome = true ∧
    ((5 : Byte).toNat ≤ 5 ∧ ((1 : Byte) = 1 ∨ (1 : Byte) = 2) ∧ (2 : Byte).toNat ≤ 2) ∧
    (1 ≤ (1 : Byte).toNat ∧ (30 : Byte).toNat ≤ 30) ∧ (1 : Byte).toNat ≤ 1 ∧ (⟨255, 255, 2000, 49⟩ : OnsetRec).triggerLevel ≤ 255 := by
  decide

theorem test_witness_ConfigureRefusals : OnStage stage ∧ Configurable held5 ∧
    (Configurable (heldFirst 1) ∧ recordPlace (.outputs 0 0 0 0 64 60 1 0) = some 3 ∧ (heldFirst 1).conf.held + 1 < 3) ∧
    5 < (6 : Byte).toNat ∧ ((3 : Byte) ≠ 1 ∧ (3 : Byte) ≠ 2) ∧ 2 < (3 : Byte).toNat ∧ 1 ≤ (heldFirst 1).conf.held ∧
    30 < (31 : Byte).toNat ∧ Configurable (heldFirst 2) ∧ 2 ≤ (heldFirst 2).conf.held ∧ 1 < (2 : Byte).toNat := by decide

theorem test_witness_LineTestRuns : (Configurable (heldFirst 1) ∧ (heldFirst 1).conf.timing.isSome = true ∧
      testModeOfCode (1 : Byte).toNat = some .busEcho ∧ (16 : Byte).toNat ≤ 16) ∧
    OnStage stage ∧ (Configurable State.reset ∧ State.reset.conf.timing = none) ∧
    (1 < (2 : Byte).toNat ∧ 16 < (17 : Byte).toNat) ∧
    ((testing 1 1000).resetnLow = false ∧ (testing 1 1000).bus.link = .lineTest ∧ (testing 1 1000).bus.sending = none ∧
      (testing 1 1000).bus.lineTest = some ⟨.busEcho, 2, 1, 0, 1000⟩ ∧ (testing 1 1000).bus.rx = ⟨10, none⟩) ∧
    (testing 2 0).bus.lineTest = some ⟨.busEcho, 2, 2, 0, 0⟩ ∧ (testing 1 1000).bus.abort = 0 ∧
    (testRun .internal 1 8 none).bus.lineTest = some ⟨.internal, 2, 1, 0, 0⟩ := by decide

theorem test_witness_LineTestJudges :
    (let s := testRun .busEcho 1 0 (some (testFrame 1))
     s.resetnLow = false ∧ s.bus.link = .lineTest ∧ s.bus.sending.isSome = true ∧ s.bus.lineTest = some ⟨.busEcho, 2, 1, 0, 0⟩) ∧
    (testRun .internal 2 0 (some (testFrame 2))).bus.lineTest = some ⟨.internal, 2, 2, 0, 0⟩ ∧
    (testFrame 1).txBits = [] ++ ⟨false, false⟩ :: (testFrame 1).txBits.drop 1 ∧
    (testFrame 1).txBits = (testFrame 1).txBits.take 2 ++ ⟨true, true⟩ :: (testFrame 1).txBits.drop 3 ∧
    ([] : List Bool).length < 8 ∧ 8 ≤ (bits8 true).length ∧
    ((testRun .busEcho 3 8 none).bus.lineTest = some ⟨.busEcho, 2, 3, 0, 0⟩ ∧ (testRun .busEcho 3 8 none).bus.sending = none ∧
      (testRun .busEcho 3 8 none).bus.abort ≤ (bits8 true).length ∧
      ([true] : List Bool).length < (testRun .busEcho 3 8 none).bus.abort) := by decide +kernel

/-- R42, R31: a bit error in the first of two test frames brings the abort, and the second frame follows in the loop. -/
theorem test_line_test_abort : (match exec (.bitError [true]) (testRun .internal 1 0 (some (testFrame 1))) with
    | .next t => (t.bus.abort, t.bus.lineTest)
    | _ => (0, none)) = (8, some ⟨.internal, 2, 2, 1, 0⟩) := by decide +kernel

theorem test_witness_LineBusy : ((testing 1 1000).setRx ⟨9, none⟩).bus.lineTest = some ⟨.busEcho, 2, 1, 0, 1000⟩ ∧
    1000 ≤ 1000 + ([false] : List Bool).length ∧
    bitsToIdle ((testing 1 1000).setRx ⟨9, none⟩).bus.rx (([false] : List Bool).take (1000 - 1000)) = none := by decide

theorem test_witness_LineTestWaits : (1 < 2 ∧ idleWait ⟨8, none⟩ 0 [] = some 0 ∧
      idleWait ⟨8, none⟩ 0 (List.replicate 1000 false) = none) ∧
    LineTest.waits ⟨.busEcho, 2, 1, 0, 0⟩ ⟨0, none⟩ [] = some 0 ∧
    LineTest.waits ⟨.busEcho, 2, 1, 0, 0⟩ ⟨0, none⟩ (List.replicate 1000 false) = none ∧
    (let lost := (runRx ⟨10, none⟩ ([false, false] ++ [false])).1
     idleWait lost 0 [] = some 0 ∧ idleWait lost 0 (List.replicate 1000 false) = none) ∧
    idleWait ((testing 1 1000).setRx ⟨9, none⟩).bus.rx 1000 [false] = none ∧
    idleWait (testing 1 1000).bus.rx 1000 [] ≠ none ∧
    (bitsToIdle ⟨9, none⟩ [] = none ∧ 999 + ([] : List Bool).length < 1000) ∧
    (999 + 1 ≤ 1000 ∧ bitsToIdle ⟨9, none⟩ [true] = some (1, ⟨10, none⟩, []) ∧
      bitsToIdle ⟨9, none⟩ [true, false] = some (1, ⟨10, none⟩, false :: [])) := by decide +kernel

/-- The first frame of a BUS_ECHO test comes after ten recessive bits; a wait too long, an abort still on the line, and no idle line. -/
theorem test_witness_LineTestFrames :
    (let s := (testing 1 0).setRx ⟨0, none⟩
     s.resetnLow = false ∧ s.bus.link = .lineTest ∧ s.bus.sending = none ∧ s.bus.abort ≤ 10 ∧ 0 + 10 ≤ 1000 ∧
       bitsToIdle s.bus.rx (List.replicate 10 true) = some (10, ⟨10, none⟩, []) ∧
       bitsToIdle s.bus.rx (List.replicate 10 true ++ [true]) = some (10, ⟨10, none⟩, [true]) ∧
       bitsToIdle s.bus.rx [true] = none) ∧
    (testFrame 1).txBits = ((testFrame 1).txBits.take 1) ++ ⟨false, true⟩ :: (testFrame 1).txBits.drop 2 ∧
    (testFrame 1).txBits.take 1 ≠ [] ∧ 1000 < 995 + 10 ∧
    (0 < (testRun .busEcho 1 8 none).bus.abort ∧ bitsToIdle (testRun .busEcho 1 8 none).bus.rx [] = some (0, ⟨10, none⟩, [])) ∧
    ((testRun .internal 1 0 none).bus.lineTest = some ⟨.internal, 2, 1, 0, 0⟩ ∧ [true] ≠ []) ∧
    LineTest.judge ⟨.busEcho, 2, 1, 0, 0⟩ [] ≠ .bitError ∧ LineTest.judge ⟨.busEcho, 2, 1, 0, 0⟩ [] ≠ .lost ∧
    (Receiver.reset.idle ≠ 10 ∧ (⟨10, none⟩ : Receiver).frame = none) := by decide +kernel

/-- R43: the first frame after ten recessive bits with a bit error, and with a lost contention, in one LINE_TEST_FRAME. -/
theorem test_line_test_frame_judged :
    (match exec (.lineTestFrame (List.replicate 10 true ++ [true])) ((testing 1 0).setRx ⟨0, none⟩) with
     | .next t => (t.bus.abort, t.bus.lineTest)
     | _ => (0, none)) = (8, some ⟨.busEcho, 2, 2, 1, 0⟩) ∧
    (match exec (.lineTestFrame (List.replicate 10 true ++ [false, false, false])) ((testing 1 0).setRx ⟨0, none⟩) with
     | .next t => (t.bus.abort, t.bus.lineTest)
     | _ => (0, none)) = (0, some ⟨.busEcho, 2, 1, 0, 0⟩) := by decide +kernel

/-- R43: the wait runs out within the bits of a frame that is discarded, although the line is idle after them. -/
theorem test_wait_runs_out_in_a_discard :
    (match exec (.frameDiscard (List.replicate 6 false ++ List.replicate 10 true))
        ((testing 1 995).setRx (runRx ⟨10, none⟩ [false]).1) with
    | .next t => (t.bus.link, t.bus.testResult)
    | _ => (.lineTest, .running)) = (.off, .lineBusy) := by decide +kernel

theorem test_witness_ReadStatusReports : PortFree stage ∧ ((9 : Byte).toNat < 10 ∧ (9 : Byte) ≠ 5) ∧ (1 : Byte) ≠ 0 ∧
    (stage.setPass { stage.pass with windows := [entry 3 0 0 .announced none] }).pass.windows[(0 : Byte).toNat]? =
      some (entry 3 0 0 .announced none) ∧
    stage.pass.windows.length ≤ (0 : Byte).toNat ∧ (1 ≤ (4 : Byte).toNat ∧ (4 : Byte).toNat ≤ 4) ∧ 4 < (5 : Byte).toNat ∧
    10 < (11 : Byte).toNat := by decide

theorem test_witness_StatusSections : stage.pass.own = none ∧ prepared.pass.own = some window ∧ stage.out.lastWord = none ∧
    (stage.setOut { stage.out with lastWord := some word }).out.lastWord = some word := by decide +kernel

theorem test_witness_ReadNoticeTakesOldest : (PortFree stage ∧ stage.port.notices = []) ∧
    (stage.setPort { stage.port with notices := [⟨.slip, 3⟩, ⟨.refLost, 0⟩] }).port.notices = [⟨.slip, 3⟩, ⟨.refLost, 0⟩] ∧
    (testing 1 0).port.notices = [] ∧ PortFree (testing 1 0) ∧
    (stage.setPort { stage.port with notices := [⟨.slip, 3⟩], overflow := true }).port.notices = [⟨.slip, 3⟩] := by decide

theorem test_witness_NoticePosting : stage.port.notices.length < 16 ∧
    16 ≤ (stage.setPort { stage.port with notices := List.replicate 16 ⟨.slip, 3⟩ }).port.notices.length := by decide

theorem test_witness_LoadCueJudged : Configurable held5 ∧ OnStage stage ∧
    cueFits stage.timing.frameRate (rawCue ⟨7, 36000, 36000, 0, 0, 0, 0, 0, 0, 0, 0, 0, 0⟩) = false ∧
    (cueFits (withCues false).timing.frameRate (rawCue (args 7 0)) = true ∧
      findCue (withCues false).cues (args 7 0).id.toNat = some (cue 7 6000 false) ∧ replaceFlag (args 7 0) = false) ∧
    (findCue (withCues true).cues (args 7 0).id.toNat = some (cue 7 6000 true)) ∧
    (findCue (withCues false).cues (args 8 0).id.toNat = none ∧ (withCues false).cues.length < 256) ∧
    (testing 1 0).bus.lineTest.isSome = true ∧ beepsReduced { cue 7 0 false with beeps := some 4 } = true ∧
    beepsReduced (cue 7 0 false) = false := by decide

theorem test_witness_LoadCueReplaces : (args 7 1).options = 1 ∧
    ([1, 2, 4, 8, 16, 32, 64, 128] : List Byte).any (fun o => replaceFlag (args 7 o)) = true := by decide

theorem test_witness_LoadCueFull :
    256 ≤ (stage.setCues (List.replicate 256 (cue 9 0 false))).cues.length ∧
      findCue (stage.setCues (List.replicate 256 (cue 9 0 false))).cues 7 = none := by decide +kernel

theorem test_witness_ClearCuesJudged : Configurable held5 ∧ OnStage stage ∧ (∃ c ∈ (withCues true).cues, c.pinned = true) ∧
    (∀ c ∈ (withCues false).cues, c.pinned = false) ∧ stage.cues = [] := by decide

theorem test_witness_CuesOrdered : CuesOrdered (withCues false).cues ∧ CuesOrdered (withCues true).cues :=
  ⟨⟨by decide, by decide⟩, ⟨by decide, by decide⟩⟩

theorem test_witness_DeleteCueJudged : Configurable held5 ∧ OnStage stage ∧ (8 : Half) ≠ 0 ∧
    (∀ c ∈ (withCues false).cues, c.id ≠ (8 : Half).toNat) ∧
    findCue (withCues true).cues (7 : Half).toNat = some (cue 7 6000 true) ∧
    findCue (withCues false).cues (9 : Half).toNat = some (cue 9 18000 false) := by decide

theorem test_witness_ReadCueReports : OnStage (withCues false) ∧
    (withCues false).cues[(1 : Byte).toNat]? = some (cue 9 18000 false) ∧ (withCues false).cues.length ≤ (2 : Byte).toNat ∧
    (∀ c ∈ (withCues false).cues, c.id ≠ (8 : Half).toNat) ∧ (cue 9 18000 false).id = (9 : Half).toNat := by decide

/-- R81, R200: a selector outside its table. -/
theorem test_read_cue_selector : OnStage (withCues false) ∧
    response (exec (.readCue (.other 0)) (withCues false)) = some ⟨.range, .empty⟩ := by decide

theorem test_witness_PlanEdited : Configurable held5 ∧ OnStage stage ∧ stage.pass.state = .idle ∧ OnStage prepared ∧
    prepared.pass.state ≠ .idle ∧ 8 < (9 : Byte).toNat ∧ 99 < (100 : Byte).toNat ∧ 2 < (3 : Byte).toNat ∧
    63 < (64 : Byte).toNat ∧ planStepOf (.block 63 99) = some (.block 63 99) ∧
    64 ≤ (stage.setPlan ⟨List.replicate 64 (.block 1 1), none, 0, []⟩).plan.steps.length ∧
    stepModeOfCode (2 : Byte).toNat = some .firstRehearse ∧ stage.plan.steps.length < 64 ∧
    (testing 1 0).bus.lineTest.isSome = true := by decide +kernel

theorem test_witness_PlanRunPrepares : (OnStage prepared ∧ prepared.pass.state ≠ .idle) ∧
    (OnStage stage ∧ stage.pass.state = .idle ∧ planValid stage.plan.steps = false) ∧
    (OnStage planned ∧ planned.pass.state = .idle ∧ planValid planned.plan.steps = true) ∧
    (planStart ((planned.setCues []).setResponse none)).2 = none ∧
    (planStart (planned.setResponse none)).2 = some ⟨[7, 9], .record, 0⟩ ∧
    (search planned.plan.steps planned.cues 4096 [] (.enter 0)).found = some 0 ∧
    planned.plan.steps[0]? = some (.cue 7 2 2 .record) ∧ (search planned.plan.steps [] 4096 [] (.enter 0)).found = none ∧
    ([.block 1 2, .cue 7 1 1 .record] : List PlanStep)[0]? = some (.block 1 2) ∧
    (∃ id ∈ [7], (findCue planned.cues id).isSome = true) := by decide +kernel

/-- R104, R134: a PLAN RUN builds the list while STOPPED and leaves it empty while ROLLING. -/
theorem test_preparation_builds :
    (prepared.sched.events ≠ [] ∧ planned.agr.transport ≠ .rolling ∧
      ∀ e ∈ keptEvents (heldEvents planned ⟨[7, 9], .record⟩) [] planned.posn.p, planned.posn.p ≤ e.fire) ∧
    (match exec .planRun (planned.setAgr { planned.agr with transport := .rolling }) with
     | .next t => (t.pass.state, t.sched.events)
     | _ => (.idle, [])) = (.standby, []) ∧
    (let s := (planned.setPosn ⟨5800, 5800, 0, 0, 120⟩).setSched { planned.sched with advOverlay := 240 }
     ∃ e ∈ keptEvents (heldEvents s ⟨[7, 9], .record⟩) [] s.posn.p, e.fire < s.posn.p) := by decide +kernel

theorem test_witness_PlanSkipPrepares : (OnStage stage ∧ stage.pass.state ≠ .standby) ∧
    (OnStage prepared ∧ prepared.pass.state = .standby ∧ prepared.pass.own = some window) ∧
    (planGiveUp (prepared.setResponse none)).2 = none ∧
    (planGiveUp ((prepared.setPlan { prepared.plan with
      steps := [.cue 7 2 2 .record, .cue 9 1 1 .rehearse] }).setResponse none)).2 = some ⟨[9], .rehearse, 1⟩ ∧
    prepared.plan.cursor = some 0 ∧ (prepared.search (.leave 0)).found = none ∧ stage.plan.cursor = none ∧
    ((prepared.setPlan { prepared.plan with
      steps := [.cue 7 2 2 .record, .cue 9 1 1 .rehearse] }).search (.leave 0)).found = some 1 := by decide +kernel

theorem test_witness_PlanAbortEndsRun : (OnStage stage ∧ stage.pass.state = .idle) ∧
    (OnStage prepared ∧ prepared.pass.own = some window ∧ prepared.pass.state = .standby) ∧
    (OnStage inPass ∧ inPass.pass.state = .inPass ∧ inPass.log.records = [] ++ [takeOpen] ∧
      takeOpen.outcome = .inProgress ∧ inPass.onset.openWindows = [] ∧ inPass.port.notices.length < 16) ∧
    OnStage (stage.setPass { stage.pass with state := .cleared, outcome := some .none }) ∧
    OnStage (prepared.setPass { prepared.pass with state := .cleared, outcome := some .more }) := by decide +kernel

theorem test_witness_SearchFindsActiveSet : (planned.search (.enter 0)).found = some 0 ∧
    cue 9 18000 false ∈ (withCues false).cues ∧ (cue 9 18000 false).id = 9 ∧
    (let steps : List PlanStep := [.block 1 2, .cue 7 1 1 .record]
     steps[0]? = some (.block 1 2) ∧ steps[1]? = some (.cue 7 1 1 .record) ∧ (∀ c ∈ stage.cues, c.id ≠ 7) ∧
      steps.length ≤ 2 ∧ 1 = (⟨1, 1, 2⟩ : StackEntry).last ∧ 1 < (⟨1, 1, 2⟩ : StackEntry).remaining ∧
      (⟨1, 1, 1⟩ : StackEntry).remaining ≤ 1) := by decide +kernel

/-- R92, R96: a block of two runs over one cue step leaves one run on the stack, and the second end removes it. -/
theorem test_block_repeats :
    (search [.block 1 2, .cue 7 1 1 .record] (withCues false).cues 4096 [] (.enter 0)).stack = [⟨1, 1, 2⟩] ∧
    (search [.block 1 2, .cue 7 1 1 .record] (withCues false).cues 4096 [(⟨1, 1, 2⟩, false)] (.leave 1)).stack = [⟨1, 1, 1⟩] ∧
    (search [.block 1 2, .cue 7 1 1 .record] (withCues false).cues 4096 [(⟨1, 1, 1⟩, false)] (.leave 1)).found = none := by
  decide +kernel

theorem test_witness_GoOffersLocate : (OnStage rolling ∧ rolling.agr.transport = .rolling) ∧
    (OnStage stage ∧ ∀ w ∈ stage.pass.windows, w.status = .announced →
      w.passNumber ≠ stage.agr.passNumber ∧ w.passNumber ≠ nextPass stage.agr.passNumber) ∧
    (let s := stage.setPass { stage.pass with windows := [entry 3 0 5000 .announced none, entry 12 1 4000 .announced none] }
     OnStage s ∧ s.agr.transport ≠ .rolling ∧ entry 12 1 4000 .announced none ∈ s.pass.windows ∧
      (∀ x ∈ s.pass.windows, x.status = .announced →
        (x.passNumber = s.agr.passNumber ∨ x.passNumber = nextPass s.agr.passNumber) → 4000 ≤ x.pIn) ∧
      s.bus.link.admits = true ∧ s.bus.queue.length < 8) ∧
    (idleLine .listenOnly).bus.link.admits = false ∧
    (stage.setBus { stage.bus with queue := fullQueue }).bus.queue.any TxEntry.waitingBeacon = false ∧
    8 ≤ fullQueue.length := by decide

/-- A full queue in which the fourth entry is a BEACON that waits. -/
def beaconQueue : List TxEntry := fullQueue.take 3 ++ queued .beacon 0 false :: fullQueue.take 4

theorem test_witness_GoDisplaces :
    (let s := (stage.setPass { stage.pass with windows := [entry 12 1 4000 .announced none] }).setBus
       { stage.bus with queue := beaconQueue }
     OnStage s ∧ s.agr.transport ≠ .rolling ∧ s.bus.link.admits = true ∧ 8 ≤ s.bus.queue.length) ∧
    (queued .beacon 0 false).waitingBeacon = true ∧ (fullQueue.take 4).any TxEntry.waitingBeacon = false := by decide

theorem test_witness_TransportFramesOffered : OnStage stage ∧ stage.bus.link.admits = true ∧ stage.bus.queue.length < 8 ∧
    (1 : Byte).toNat ≤ 1 ∧ 1 < (2 : Byte).toNat ∧ (cueing true).agr.transport = .cueing ∧
    (cueing true).agr.locate = some ⟨120, false, true⟩ ∧ stage.agr.transport ≠ .cueing := by decide

theorem test_witness_ConsoleAdmission : (OnStage (idleLine .listenOnly) ∧ (idleLine .listenOnly).bus.link.admits = false) ∧
    (OnStage (stage.setBus { stage.bus with queue := fullQueue }) ∧ 8 ≤ fullQueue.length ∧
      fullQueue.any TxEntry.waitingBeacon = false) ∧
    (OnStage (stage.setBus { stage.bus with queue := beaconQueue }) ∧ 8 ≤ beaconQueue.length ∧
      (queued .beacon 0 false).waitingBeacon = true ∧ (fullQueue.take 4).any TxEntry.waitingBeacon = false) ∧
    (0 : Byte).toNat ≤ 1 ∧ (1 : Byte).toNat ≤ 1 ∧ (59 : Byte).toNat < 60 ∧ 240 < (241 : Byte).toNat ∧
    stage.pMax < (4294967295 : Quad).toNat := by decide

theorem test_witness_HoldAndReleaseCommands :
    OnStage (stage.setReasons ⟨true, false, false⟩) ∧ OnStage (stage.setReasons ⟨false, true, false⟩) ∧
    (OnStage stage ∧ stage.agr.reasons = ⟨false, false, false⟩ ∧
      (offer (.hold stage.station.holdLease 1) false stage).1 = .admitted) ∧
    (offer (.hold 25 1) false (idleLine .listenOnly)).1 = .closed ∧
    (offer (.hold 25 1) false (stage.setBus { stage.bus with queue := fullQueue })).1 = .full ∧
    (stage.setReasons ⟨true, false, true⟩).agr.reasons.console = true ∧
    (offer .release false (stage.setReasons ⟨true, false, true⟩)).1 = .admitted ∧
    (stage.setReasons ⟨true, true, false⟩).agr.reasons.logFull = true := by decide

theorem test_witness_HoldReplaces : (QueuedFrame.hold 25 1).kind = .hold ∧ QueuedFrame.release.kind = .release ∧
    (queued .release 0 false).waitingHold = true ∧ fullQueue.any TxEntry.waitingHold = false ∧ 8 ≤ fullQueue.length ∧
    fullQueue.any TxEntry.waitingBeacon = false ∧ beaconQueue.any TxEntry.waitingHold = false ∧ 8 ≤ beaconQueue.length ∧
    (idleLine .listenOnly).bus.link.admits = false ∧ stage.bus.link.admits = true := by decide

/-- R35, 2.4, log 44: on a held line a HOLD and then a RELEASE of the console stand as the RELEASE alone, which goes out at the next idle. -/
theorem test_release_replaces_hold :
    (match exec .hold (idleLine .active) with
     | .next s => match exec .release s with
       | .next t => match exec (.transmitStart []) t with
         | .next u => (s.bus.queue.map (·.frame.kind), t.bus.queue.map (·.frame.kind), u.bus.sending.map (·.kind))
         | _ => ([], [], none)
       | _ => ([], [], none)
     | _ => ([], [], none)) = ([.hold], [.release], some .release) := by decide +kernel

theorem test_witness_ReadPeersReports : OnStage stage ∧ (30 : Byte).toNat ≤ 30 ∧ (30 : Byte).toNat ≠ stage.address ∧
    (12 : Byte).toNat = stage.address ∧ 30 < (31 : Byte).toNat := by decide

theorem test_witness_ReadTakeReports : OnStage stage ∧ 2 < (3 : Byte).toNat ∧ ((2 : Byte).toNat ≤ 2 ∧ (1 : Byte).toNat ≤ 1) ∧
    (∀ r ∈ (stage.setLog ⟨[takeOpen], 1⟩).log.records, r.outcome = .inProgress) ∧
    (stage.setLog ⟨[takeClosed, takeOpen], 2⟩).log.records = [] ++ takeClosed :: [takeOpen] ∧
    takeClosed.outcome ≠ .inProgress ∧ OnStage (stage.setLog ⟨[takeClosed, takeOpen], 2⟩) ∧
    ((stage.setLog ⟨[takeClosed], 1⟩).setReasons ⟨false, true, false⟩).agr.reasons = ⟨false, true, false⟩ ∧
    (stage.setLog ⟨List.replicate 16 takeClosed, 16⟩).log.records.length ≤ 16 ∧
    16 < (stage.setLog ⟨List.replicate 17 takeClosed, 17⟩).log.records.length ∧
    stage.agr.reasons ≠ ⟨false, true, false⟩ := by decide

/-- R204: the head of take 1 with a first punch-in at 300 and LATE_EVENTS, and an entry with an onset of -1 and OVERLAP, where a closed record of each outcome may stand. -/
theorem test_witness_TakeBytes :
    (let r : TakeRec := { takeClosed with punchIn := some 300, flags := ⟨false, false, false, true⟩ }
     (Reply.takeHead 2 r).bytes = [2, 0, 1, 0, 0, 0, 1, 1, 129, 0, 0, 1, 44, 0, 0, 0, 0, 1] ∧ r.outcome = .complete ∧
       r.punchIn = some 300 ∧ r.punchOut = none ∧ r.number < 65536 ∧ r.passNumber < 65536 ∧ r.stepIndex < 256 ∧
       r.cues.length < 256 ∧ (Reply.takeCues 2 1 r.cues).bytes = [2, 0, 1, 1, 0, 7, 0, 0, 0, 0] ∧
       r.cues[0]? = some ⟨7, none, false, false⟩) ∧
    (let r : TakeRec := { takeOpen with outcome := .abandoned, punchOut := some 400 }
     r.outcome = .abandoned ∧ r.punchIn = none ∧ r.punchOut = some 400) ∧
    (⟨7, some (-1), true, false⟩ : TakeCue).bytes = [0, 7, 130, 255, 255, 255] ∧ (-8388608 : Int) ≤ -1 ∧ (-1 : Int) < 0 ∧
    (⟨7, some 300, false, false⟩ : TakeCue).bytes = [0, 7, 128, 0, 1, 44] ∧ (300 : Int) < 8388608 := by decide

/-- R174, R200: a remove flag above 1, and a part above 2 with the remove flag set. -/
theorem test_read_take_range : OnStage (stage.setLog ⟨[takeClosed], 1⟩) ∧
    (response (exec (.readTake 0 2) (stage.setLog ⟨[takeClosed], 1⟩)) = some ⟨.range, .empty⟩) ∧
    response (exec (.readTake 3 1) (stage.setLog ⟨[takeClosed], 1⟩)) = some ⟨.range, .empty⟩ := by decide

theorem test_witness_MarksSetAndCleared : Configurable held5 ∧ (testing 1 0).bus.lineTest.isSome = true ∧ OnStage stage ∧
    4 < (5 : Byte).toNat ∧ min (100 : Quad).toNat stage.pMax < min (101 : Quad).toNat stage.pMax ∧
    markConditionOfCode (1 : Byte).toNat = some .leave ∧ markActionOfCode (2 : Byte).toNat = some .stop ∧
    markRearmOfCode (1 : Byte).toNat = some .repeating ∧ (markOnce .stop).condition = .enter ∧
    (markOnce .stop).occurs 99 100 = true := by decide

theorem test_witness_MarkActs : (let s := stage.setMark 4 (markOnce .hold)
     Live s ∧ (s.mark 4).armed = true ∧ (s.mark 4).count = 1 ∧ (s.mark 4).rearm = .once ∧ (s.mark 4).action = .hold ∧
      s.agr.reasons = ⟨false, false, false⟩ ∧ s.port.notices.length < 16) ∧
    ((stage.setMark 1 (markOnce .stop)).mark 1).action = .stop ∧ (stage.setMark 1 (markOnce .stop)).markStopFlag = false ∧
    (stage.setBus { stage.bus with queue := [⟨.anchor false 120 0, 0, false, true⟩] }).markStopFlag = true ∧
    (stage.mark 1).armed = false := by decide

theorem test_witness_MarkStops :
    (let s := (stage.setMark 1 (markOnce .stop)).setBus { stage.bus with queue := fullQueue }
     Live s ∧ (s.mark 1).armed = true ∧ (s.mark 1).count = 1 ∧ s.markStopFlag = false ∧ s.bus.link.admits = true ∧
      8 ≤ s.bus.queue.length ∧ s.bus.queue.any TxEntry.waitingBeacon = false) ∧
    (let s := (stage.setMark 1 (markOnce .stop)).setBus { stage.bus with queue := beaconQueue }
     s.markStopFlag = false ∧ 8 ≤ s.bus.queue.length ∧
      s.bus.queue = fullQueue.take 3 ++ queued .beacon 0 false :: fullQueue.take 4 ∧
      (queued .beacon 0 false).waitingBeacon = true ∧ (fullQueue.take 4).any TxEntry.waitingBeacon = false) ∧
    ((idleLine .listenOnly).setMark 1 (markOnce .stop)).bus.link.admits = false ∧
    (stage.setMark 1 (markOnce .stop)).bus.queue.length < 8 ∧
    (stage.setReasons ⟨true, false, false⟩).agr.reasons.any = true := by decide

theorem test_witness_MarksJudged :
    (let s := stage.setMark 4 { markOnce .hold with count := 2, condition := .leave }
     (s.mark 4).armed = true ∧ (s.mark 4).occurs 200 201 = true ∧ 1 < (s.mark 4).count ∧ (s.mark 4).occurs 100 200 = false) ∧
    (let s := stage.setMark 1 (markOnce .notice)
     Live s ∧ (s.mark 1).armed = true ∧ (s.mark 1).occurs 99 100 = true ∧ (s.mark 1).count = 1) := by decide

/-- Two STOP marks that fire at one edge, and a transmit queue full of frames that none displaces. -/
def twoStops : State := ((stage.setMark 1 (markOnce .stop)).setMark 2 (markOnce .stop)).setBus
  { stage.bus with queue := List.replicate 8 ⟨.anchor false 120 0, 0, false, false⟩ }

theorem test_witness_StopsAtOneEdge : stopBefore 99 100 twoStops 2 = true ∧ (twoStops.mark 2).action = .stop ∧
    (twoStops.mark 2).count ≤ 1 ∧ (twoStops.mark 2).occurs 99 100 = true ∧ (twoStops.mark 2).armed = true ∧
    (markOnce .hold).action ≠ .stop := by decide +kernel

/-- R181: several marks that act with STOP at one edge offer one frame, so that one TX_OVERFLOW is posted. -/
theorem test_stops_offer_once : (judgeMarks (some (99, 100)) twoStops).port.notices.map Notice.kind =
    [.markFired, .txOverflow, .markFired] := by decide +kernel

theorem test_witness_StepDeliversEdges : Configurable held5 ∧ (OnStage stage ∧ stage.timing.refSource ≠ .step) ∧
    (OnStage bench ∧ bench.timing.refSource = .step) ∧ 250 < (251 : Byte).toNat ∧ (250 : Byte).toNat ≤ 250 ∧
    (let s := bench.setPort { bench.port with stepRun := some ⟨3, 2⟩ }
     Live s ∧ s.port.stepRun = some ⟨3, 2⟩) ∧
    Live (bench.setPort { bench.port with stepRun := some ⟨3, 1⟩ }) := by decide

theorem test_witness_RefPulseCandidates : Candidate .rise 2000 stage ∧ Candidate .fall 2000 divided ∧
    Candidate .rise 2000 (withRef .noRef none none 0) ∧ Candidate .rise 2000 (withRef .acquiring none none 0) ∧
    Candidate .rise 2000 (withRef .acquiring (some 0) none 0) ∧ Candidate .rise 2000 (withRef .acquiring (some 0) (some 40000) 7) ∧
    Candidate .rise 2000 (withRef .locked (some 0) (some 40000) 8) ∧
    Candidate .rise 2000 (withRef .holdover (some 0) (some 40000) 8) := by
  (repeat' apply And.intro) <;> (constructor <;> decide)

theorem test_witness_RefPulseJudged : ¬ Live held5 ∧ 1999 < 2000 ∧ bench.timing.refSource = .step ∧
    stage.timing.refSource = .inputRise ∧ divided.timing.refSource = .inputFall ∧
    (let s := divided.setRef { divided.ref with dividerPhase := 1 }
     Live s ∧ s.timing.refDiv = 2 ∧ s.ref.dividerPhase = 1) ∧
    (EdgeAgrees 40000 0 40156 ∧ ¬ EdgeAgrees 40000 0 40157 ∧ EdgeAgrees 1 0 1 ∧ ¬ EdgeAgrees 1 0 2) ∧
    (1 ≤ 11184810 ∧ 11184810 + 11184810 / 2 ≤ 16777215) ∧ 60000 - 0 ≤ 40000 + 40000 / 2 ∧
    (withRef .acquiring (some 0) (some 40000) 6).ref.lockCount < 7 ∧
    (withRef .acquiring (some 0) (some 40000) 7).ref.lockCount = 7 ∧ (20000 - 0 ≤ 40000 / 2) ∧ 40000 / 2 < 20001 - 0 := by decide

/-- R3, R7: with a period of 40,000 counts the expiry falls at 60,001; an edge taken first at that moment has the period 60,000 and does not agree. -/
theorem test_edge_at_expiry : watchdogMoment 0 40000 = 60001 ∧
    (match exec (.refPulse .rise 2000 60001) (withRef .locked (some 0) (some 40000) 8) with
     | .next t => t.ref
     | _ => State.reset.ref) = ⟨.acquiring, 0, some 60001, some 60000, 1, 0⟩ := by decide +kernel

/-- R3, log 45: an edge 20,000,000 counts after the origin, the period held being the greatest. -/
theorem test_witness_CappedPeriod : EdgeAgrees 16777215 0 20000000 ∧ periodWithin 16777215 0 20000000 = 16777215 ∧
    ((11184810 : Nat) ≤ 11184810 ∧ 16777215 - 0 ≤ 11184810 + 11184810 / 2) := by decide

theorem test_witness_WatchdogAndHoldover : Live (withRef .acquiring (some 0) (some 40000) 3) ∧
    (withRef .acquiring (some 0) (some 40000) 3).ref.lock = .acquiring ∧
    (withRef .locked (some 0) (some 40000) 8).ref.lock = .locked ∧
    (withRef .holdover (some 60001) (some 40000) 8).ref.lock = .holdover ∧ stage.ref.timingOrigin = none ∧
    stage.ref.lock ≠ .holdover := by decide

theorem test_witness_TickInterpolates : (Live lockedRoll ∧ lockedRoll.ref.lock = .locked ∧ lockedRoll.agr.transport = .rolling ∧
      lockedRoll.posn.acc = 0 ∧ lockedRoll.posn.p = lockedRoll.posn.pEdge ∧ lockedRoll.posn.pEdge ≤ lockedRoll.pMax ∧
      60 ≤ lockedRoll.posn.rate ∧ lockedRoll.agr.rollFresh = false) ∧
    (match exec .tick lockedRoll with | .next t => t.posn.p | _ => 0) = 1 ∧
    (match exec .tick (lockedRoll.setPosn ⟨119, 0, 0, 0, 120⟩) with | .next t => t.posn.p | _ => 0) = 119 ∧
    (lockedRoll.setAgr { lockedRoll.agr with rollFresh := true }).agr.rollFresh = true ∧
    (Live (withRef .holdover (some 0) (some 40000) 8) ∧
      (withRef .holdover (some 0) (some 40000) 8).agr.transport ≠ .rolling) ∧ stage.ref.lock = .noRef := by decide

theorem test_witness_EdgeMovesPosition : (rolling.agr.frames = [] ∧ rolling.agr.transport = .rolling ∧
      rolling.posn.pEdge + rolling.posn.rate ≤ rolling.pMax) ∧
    (let s := rolling.setPosn ⟨rolling.pMax - 119, rolling.pMax - 119, 0, 0, 120⟩
     s.pMax < s.posn.pEdge + s.posn.rate ∧ s.posn.p ≠ min (s.posn.pEdge + s.posn.rate) s.pMax) ∧
    rolling.posn.p ≠ min (rolling.posn.pEdge + rolling.posn.rate) rolling.pMax ∧
    (let s := rolling.setPosn ⟨rolling.pMax, rolling.pMax, 0, 0, 120⟩
     s.posn.p = min (s.posn.pEdge + s.posn.rate) s.pMax ∧ s.pMax < s.posn.pEdge + s.posn.rate) ∧
    (let s := rolling.setPosn ⟨120, 0, 0, 0, 120⟩
     s.posn.p = min (s.posn.pEdge + s.posn.rate) s.pMax) ∧ stage.agr.transport ≠ .rolling := by decide

theorem test_witness_FramesApplied :
    (let h : HeardFrame := ⟨Payload.release.frame 12, true⟩
     h.echo = true ∧ parsePayload h.frame.kind h.frame.payload = some .release) ∧
    (let h : HeardFrame := ⟨(Payload.hold 5 1).frame 3, false⟩
     h.echo = false ∧ h.frame.kind ≠ .beacon ∧
      ((presenceUpdate h.frame (stage.setSlot 3 ⟨.mismatched, 4, none⟩)).agr.slot h.frame.source).presence = .mismatched ∧
      ((presenceUpdate h.frame stage).agr.slot h.frame.source).presence ≠ .mismatched ∧
      parsePayload h.frame.kind h.frame.payload = some (.hold 5 1)) ∧
    parsePayload .anchor [1, 2, 120, 0, 0, 0, 0] = none ∧ 1 < (2 : Byte).toNat ∧ 192 ≤ (192 : Byte).toNat ∧
    (24 : Byte).toNat / 8 % 4 = 3 ∧ parsePayload .beacon [24, 0, 0, 0, 120, 0, 0, 0, 0] = none := by decide

/-- R20, R46: the edge at which a settle count ends enters the roll, a tick of that frame leaves the position, and the next edge is the first advance. -/
theorem test_first_frame_rests :
    (match runCommands [.settleEnd, .tick] ((cueing true).setRef ⟨.locked, 0, some 0, some 40000, 8, 0⟩) with
     | .next t => (t.agr.transport, t.posn.p, (frameEdge t).posn.p)
     | _ => (.stopped, 0, 0)) = (.rolling, 0, 120) := by decide +kernel

theorem test_witness_LeaseAndPresenceEnd :
    (let s := stage.setAgr { stage.agr with holds := [holdAt 3 1 false, holdAt 12 1 false] }
     Live s ∧ holdOf s.agr.holds 12 = some (holdAt 12 1 false) ∧ 12 = s.address ∧
      holdOf s.agr.holds 3 = some (holdAt 3 1 false) ∧ holdOf s.agr.holds 4 = none) ∧
    (holdAt 3 1 true).fresh = true ∧ 1 < (holdAt 3 2 false).lease ∧
    (let s := stage.setSlot 30 ⟨.present, 15, none⟩
     Live s ∧ (s.agr.slot 30).presence ≠ .absent ∧ 3 * s.station.beaconInterval < (s.agr.slot 30).age + 1) ∧
    (stage.agr.slot 1).presence = .absent ∧
    ((stage.setSlot 1 ⟨.mismatched, 14, none⟩).agr.slot 1).age + 1 ≤ 3 * stage.station.beaconInterval := by decide

theorem test_witness_AgesCounted :
    ((stage.setSlot 30 ⟨.mismatched, 14, none⟩).agr.slot 30).presence ≠ .absent ∧
    ((stage.setSlot 30 ⟨.mismatched, 14, none⟩).agr.slot 30).age + 1 ≤ 3 * stage.station.beaconInterval ∧
    Live (stage.setSlot 1 ⟨.present, 15, none⟩) ∧
    3 * stage.station.beaconInterval < ((stage.setSlot 1 ⟨.present, 15, none⟩).agr.slot 1).age + 1 := by decide

theorem test_witness_SettleEnds : (Live (cueing true) ∧ (cueing true).agr.transport = .cueing ∧ (cueing true).agr.settle = 1 ∧
      (cueing true).agr.locate = some ⟨120, false, true⟩ ∧ (cueing true).agr.holds = [] ∧ (cueing true).pass.state = .idle) ∧
    (cueing false).agr.locate = some ⟨120, false, false⟩ ∧
    ((cueing true).setAgr { (cueing true).agr with holds := [holdAt 3 5 false] }).agr.holds ≠ [] ∧
    stage.agr.transport ≠ .cueing := by decide

theorem test_witness_SettleCounted : (cueing true).agr.settleFresh = false ∧ 0 < (cueing true).agr.settle ∧
    ((cueing true).setAgr { (cueing true).agr with settleFresh := true }).agr.settleFresh = true ∧
    (let s := (cueing true).setAgr { (cueing true).agr with settle := 0 }
     s.agr.transport = .cueing ∧ s.agr.settle = 0 ∧ s.agr.locate = some ⟨120, false, true⟩ ∧ s.agr.holds = []) := by decide

theorem test_witness_CountdownsCounted : 1 < (stage.setAgr { stage.agr with beaconCountdown := 2 }).agr.beaconCountdown ∧
    (let s := listening.setBus { listening.bus with listeningCount := 2 }
     s.bus.link = .listening ∧ 1 < s.bus.listeningCount) := by decide

theorem test_witness_BeaconAndLinkEvents :
    (let s := stage.setAgr { stage.agr with beaconCountdown := 1 }
     Live s ∧ s.agr.beaconCountdown = 1) ∧
    (Live listening ∧ listening.bus.link = .listening ∧ listening.bus.listeningCount = 1) ∧ stage.agr.beaconCountdown ≠ 1 ∧
    stage.bus.link ≠ .listening ∧ ([] : List TxEntry).any TxEntry.waitingBeacon = false ∧ 8 ≤ fullQueue.length ∧
    fullQueue.any TxEntry.waitingBeacon = false ∧ (queued .beacon 0 false).waitingBeacon = true := by decide

theorem test_witness_ClosureOffered :
    (let s := rolling.setPass { rolling.pass with
       windows := [entry 3 0 0 .cleared (some false), entry 12 1 5000 .announced none], closureCount := some 1 }
     Live s ∧ s.agr.transport = .rolling ∧ s.pass.state ≠ .inPass ∧ entry 12 1 5000 .announced none ∈ s.pass.windows ∧
      (entry 12 1 5000 .announced none).address = s.address ∧
      (∀ w ∈ s.pass.windows, w.passNumber = s.agr.passNumber → w.status ≠ .announced ∧ w.more ≠ some true) ∧
      2 = (s.pass.windows.filter fun w =>
        decide (w.passNumber = s.agr.passNumber ∨ w.passNumber = (s.agr.passNumber + 1) % 65536)).length ∧
      1 = (s.pass.windows.filter fun w =>
        decide ((w.passNumber = s.agr.passNumber ∨ w.passNumber = (s.agr.passNumber + 1) % 65536) ∧
          w.address < s.address)).length ∧
      2 = 1 * s.station.closureGrace + 0 * (2 * s.station.closureGrace)) ∧
    (let s := rolling.setPass { rolling.pass with windows := [entry 12 0 0 .cleared (some false)] }
     ∀ w ∈ s.pass.windows, w.passNumber ≠ (s.agr.passNumber + 1) % 65536) ∧
    stage.agr.transport ≠ .rolling ∧
    (let s := rolling.setPass { rolling.pass with windows := [entry 3 0 0 .cleared (some false), entry 12 2 0 .announced none] }
     s.agr.transport = .rolling ∧ ∀ w ∈ s.pass.windows, w.address = s.address →
       w.passNumber ≠ s.agr.passNumber ∧ w.passNumber ≠ (s.agr.passNumber + 1) % 65536) ∧
    ((QueuedFrame.anchor false 120 0).kind = .anchor ∧ stage.bus.link.admits = true ∧ stage.bus.queue.length < 8) := by decide

theorem test_witness_OutsideDuty :
    (let s := rolling.setPass { rolling.pass with
       windows := [entry 3 0 0 .cleared (some false), entry 12 1 5000 .announced none], closureCount := some 0 }
     (1 : Nat) = (match s.pass.closureCount with | none => 0 | some x => min 65535 (x + 1)) ∧ s.station.closureGrace = 2) ∧
    ∀ j : Nat, 1 ≠ 1 * 2 + j * (2 * 2) := by
  refine ⟨by decide, ?_⟩
  intro j; omega

theorem test_witness_OverflowPosted : (QueuedFrame.anchor false 120 0).kind ≠ .beacon ∧
    ((QueuedFrame.release).kind = .hold ∨ (QueuedFrame.release).kind = .release → fullQueue.any TxEntry.waitingHold = false) ∧
    (idleLine .listenOnly).bus.link.admits = false ∧ (stage.setBus { stage.bus with queue := fullQueue }).bus.link.admits = true ∧
    8 ≤ fullQueue.length ∧ fullQueue.any TxEntry.waitingBeacon = false ∧
    beaconQueue = fullQueue.take 3 ++ queued .beacon 0 false :: fullQueue.take 4 := by decide

theorem test_witness_TransportFramesApplied : stage.agr.transport ≠ .rolling ∧ stage.pass.state = .idle ∧
    rolling.agr.transport = .rolling ∧ (cueing true).agr.transport = .cueing ∧ 0 = (cueing true).agr.passNumber ∧
    (cueing true).agr.locate = some ⟨120, false, true⟩ ∧ 120 ≤ min 120 (cueing true).pMax ∧
    (∀ l : LocateRec, (cueing true).agr.locate = some l → min 119 (cueing true).pMax < l.target) ∧
    (prepared.pass.state = .standby ∧ prepared.pass.own = some window ∧ prepared.agr.transport ≠ .cueing ∧
      window.pIn < min 6000 prepared.pMax ∧ min 5880 prepared.pMax ≤ window.pIn) :=
  have record : ∀ l : LocateRec, (cueing true).agr.locate = some l → min 119 (cueing true).pMax < l.target :=
    fun l h => by cases h; decide
  by and_intros <;> first | exact record | decide +kernel

theorem test_witness_LocateAtThePass : stage.agr.transport ≠ .cueing ∧ inPass.pass.state = .inPass ∧
    (stage.setPass { stage.pass with state := .cleared, outcome := some .none }).pass.state = .cleared ∧
    (prepared.pass.state = .standby ∧ prepared.pass.own = some window ∧ window.label = prepared.agr.passNumber ∧
      window.pIn < 6000 ∧ 5880 ≤ window.pIn) ∧ stage.pass.own = none ∧
    clamp 60 240 120 = rolling.posn.rate ∧ clamp 60 240 90 ≠ rolling.posn.rate := by decide +kernel

/-- R108, R113, R114: a LOCATE of pass 1 takes a CLEARED station with MORE to STANDBY, its record labelled 1. -/
theorem test_locate_leaves_cleared :
    (let s := applyLocate 1 true true 120 3 1 6000 (prepared.setPass { prepared.pass with state := .cleared, outcome := some .more })
     (s.pass.state, s.pass.own.map OwnWindow.label, s.pass.outcome)) = (.standby, some 1, none) := by decide +kernel

/-- R122, R51, R68: a STOP that the console offers once a closing LOCATE is applied stops the stage at the target. -/
theorem test_stop_after_locate :
    (let s := applyLocate 1 true true 120 3 1 6000 rolling
     match exec .transportStop s with
     | .next t => (t.bus.queue.map fun e => attemptPayload t e.frame,
         (applyAnchor 2 false 120 6000 t).agr.transport, (applyAnchor 2 false 120 6000 t).posn.p)
     | _ => ([], .rolling, 0)) = ([.anchor 2 false 120 6000], .stopped, 6000) := by decide +kernel

/-- R122, R49: a closing LOCATE after the STOP cues the stage again. -/
theorem test_locate_after_stop :
    (let s := applyLocate 2 true true 120 3 1 6000 (applyAnchor 1 false 120 500 rolling)
     (s.agr.transport, s.posn.p)) = (.cueing, 6000) := by decide +kernel

theorem test_witness_HoldSetKept :
    (let s := stage.setAgr { stage.agr with holds := [holdAt 3 2 false, holdAt 12 1 false, holdAt 20 9 true] }
     holdOf s.agr.holds 3 = some (holdAt 3 2 false) ∧ holdOf s.agr.holds 12 = some (holdAt 12 1 false) ∧
      holdOf s.agr.holds 20 = some (holdAt 20 9 true) ∧ (s.setReasons ⟨false, false, true⟩).agr.reasons.any = true ∧
      (∃ h ∈ s.agr.holds, h.address = s.address ∧ h.fresh = false ∧ h.lease ≤ 1) ∧ s.queued .hold = false ∧
      s.queued .release = false ∧ s.agr.reasons.any = false) ∧
    (∀ h ∈ stage.agr.holds, h.address = stage.address → h.fresh = true ∨ 1 < h.lease) ∧
    holdOf stage.agr.holds stage.address = none ∧ (sendingRelease 0).queued .release = true ∧
    stage.station.holdLease / 2 < (holdAt 12 13 false).lease := by decide

theorem test_witness_WindowTableKept :
    (let s := stage.setPass { stage.pass with windows := [entry 3 1 0 .announced none, entry 12 0 0 .announced none] }
     TablesOrdered s ∧ windowOf s.pass.windows 3 = some (entry 3 1 0 .announced none) ∧ windowOf s.pass.windows 4 = none ∧
      (entry 3 1 0 .announced none).passNumber ≠ 0 ∧ windowOf s.pass.windows s.address = some (entry 12 0 0 .announced none) ∧
      s.pass.own = none ∧ s.queued .done = false ∧ s.pass.state = .idle ∧ s.agr.passNumber = 0) ∧
    (prepared.pass.own = some window ∧ prepared.queued .window = true ∧
      (windowOf prepared.pass.windows prepared.address).map WindowEntry.passNumber ≠ some window.label ∧
      (prepared.setBus stage.bus).queued .window = false) ∧
    (stage.setPass { stage.pass with state := .cleared, outcome := some .none }).pass.state = .cleared ∧
    ((entry 12 1 0 .announced none).passNumber ≠ 0 ∧ (entry 12 0 0 .skipped (some true)).status ≠ .announced) ∧
    ((entry 12 0 0 .cleared (some false)).status ≠ .announced ∧ (entry 12 0 0 .cleared (some false)).more ≠ some true) ∧
    (stage.setBus { stage.bus with queue := [queued (.done 0 .abandoned false) 0 false] }).queued .done = true :=
  have tables : TablesOrdered (stage.setPass { stage.pass with
      windows := [entry 3 1 0 .announced none, entry 12 0 0 .announced none] }) := by constructor <;> decide
  ⟨⟨tables, by decide⟩, by decide +kernel⟩

theorem test_witness_TablesOrdered :
    TablesOrdered (stage.setAgr { stage.agr with holds := [holdAt 3 2 false, holdAt 12 1 false] }) :=
  ⟨by decide, by decide⟩

theorem test_witness_PresenceAndBeacons : (release12.kind ≠ .beacon ∧ 1 ≤ release12.source ∧ release12.source ≤ 30) ∧
    (let f := (Payload.beacon 0 .rolling .idle 1 0 120 500).frame 30
     f.source ≤ 30 ∧ f.kind = .beacon ∧ f.rateCode = stage.timing.frameRate.code) ∧
    ((Payload.beacon 3 .rolling .idle 1 0 120 500).frame 1).rateCode ≠ stage.timing.frameRate.code ∧
    (let s := listening.setSlot 1 ⟨.present, 0, none⟩
     (s.agr.slot 1).presence = .present ∧ s.bus.link = .listening ∧ s.agr.join = .waiting) ∧
    (let s := (stage.setSlot 3 ⟨.present, 0, none⟩).setAgr { (stage.setSlot 3 ⟨.present, 0, none⟩).agr with join := .settled }
     (s.agr.slot 3).presence = .present ∧ s.agr.join = .settled) ∧
    ((stage.setSlot 3 ⟨.mismatched, 0, none⟩).agr.slot 3).presence = .mismatched ∧ stage.station.slipTolerance = 10 ∧
    (slipRef stage stage).take = none ∧ (slipRef (stage.setLog ⟨[takeOpen], 1⟩) stage).take = some 1 ∧
    (slipRef stage stage).counter = stage.log.counter ∧ (slipRef stage stage).counter ≠ (stage.setLog ⟨[takeOpen], 1⟩).log.counter ∧
    (let s := stage.setPass { stage.pass with windows := [entry 3 1 0 .announced none, entry 4 1 0 .skipped (some true)] }
     windowOf s.pass.windows 3 = some (entry 3 1 0 .announced none) ∧ (entry 3 1 0 .announced none).status = .announced ∧
      windowOf s.pass.windows 4 = some (entry 4 1 0 .skipped (some true)) ∧
      (entry 4 1 0 .skipped (some true)).status ≠ .announced ∧ windowOf s.pass.windows 5 = none) := by decide

theorem test_witness_WaitingStation :
    (let s := listening.setSlot 3 ⟨.present, 0, none⟩
     (s.agr.slot 3).presence = .present ∧ s.agr.join = .waiting ∧ s.bus.link = .listening) ∧
    (let s := (idleLine .listenOnly).setSlot 3 ⟨.present, 0, none⟩
     s.agr.join = .waiting ∧ s.bus.link ≠ .listening) ∧ (stage.agr.slot 3).presence = .absent := by decide

/-- R170, R171: a slip found at the edge of the local stop stands in the take that the stop abandons. -/
theorem test_slip_before_local_stop :
    ((frameEdge (((inPass.setPosn ⟨inPass.pMax, inPass.pMax, 0, 0, 120⟩).setAgr { inPass.agr with
        join := .settled, frames := [⟨(Payload.beacon 0 .rolling .inPass 9 0 120 500).frame 3, false⟩] }))).log.records.map
      fun r => (r.outcome, r.flags.syncSuspect)) = [(.abandoned, true)] := by decide +kernel

/-- R170: a take begun and abandoned by the frames of one edge carries the slip of a later one. -/
theorem test_slip_of_a_short_take :
    ((frameEdge (prepared.setAgr { prepared.agr with
        join := .settled, frames := [⟨(Payload.anchor 1 true 120 0).frame 3, false⟩,
          ⟨(Payload.anchor 2 false 120 0).frame 3, false⟩,
          ⟨(Payload.beacon 0 .stopped .idle 9 0 120 500).frame 3, false⟩] })).log.records.map
      fun r => (r.outcome, r.flags.syncSuspect)) = [(.abandoned, true)] := by decide +kernel

theorem test_witness_PassBegins : (prepared.pass.state = .standby ∧ prepared.pass.own = some window ∧
      window.label = prepared.agr.passNumber ∧ prepared.bus.link = .active ∧ prepared.log.records.length < 15 ∧
      prepared.log.openCount = 0) ∧
    (prepared.setLog ⟨List.replicate 15 takeClosed, 15⟩).log.records.length = 15 ∧
    16 ≤ (prepared.setLog ⟨List.replicate 16 takeClosed, 16⟩).log.records.length ∧ prepared.bus.queue.length ≤ 6 ∧
    (prepared.setBus { prepared.bus with link := .listening }).bus.link ≠ .active ∧ stage.pass.state ≠ .standby := by
  decide +kernel

/-- R136, R173: the begin that fills the log, without and with another reason standing, and one with an event behind its fire position. -/
theorem test_witness_LastSlot :
    (let s := prepared.setLog ⟨List.replicate 15 takeClosed, 15⟩
     s.agr.reasons = ⟨false, false, false⟩ ∧ ((rollEntry s).bus.queue.map (·.frame)).getLast? = some (.hold 25 2) ∧
       (s.setReasons ⟨true, false, false⟩).agr.reasons ≠ ⟨false, false, false⟩) ∧
    prepared.sched.held = some ⟨[7, 9], .record⟩ ∧
    (let s := (prepared.setPosn ⟨5800, 5800, 0, 0, 120⟩).setSched { prepared.sched with advOverlay := 240 }
     ((rollEntry s).log.records.map (·.flags.lateEvents), (rollEntry prepared).log.records.map (·.flags.lateEvents)) =
       ([true], [false])) ∧
    (prepared.setSched { prepared.sched with held := none }).sched.held = none := by decide +kernel

theorem test_witness_PassClears : stage.pass.state ≠ .inPass ∧
    (let s := inPass.setPosn ⟨23880, 23880, 23760, 0, 120⟩
     s.pass.state = .inPass ∧ s.sched.events = [] ∧ s.pass.own = some window ∧ window.pOut ≤ s.posn.p ∧
      s.onset.openWindows = [] ∧ s.log.records = [] ++ [takeOpen] ∧ takeOpen.outcome = .inProgress ∧
      s.port.notices.length < 15 ∧ s.plan.cursor = some 0 ∧ 1 < s.plan.passesRemaining ∧ stepCuePresent s 0 = true) ∧
    inPass.plan.steps[0]? = some (.cue 7 2 2 .record) ∧ (∃ c ∈ inPass.cues, c.id = 7) ∧
    7 ∈ (inPass.setOnset ⟨.armed, [7], none⟩).onset.openWindows ∧ (∀ x ∈ takeOpen.cues, x.cue = 7 → x.onset = none) := by
  decide +kernel

theorem test_witness_PlanAnswers : stage.plan.cursor = none ∧
    (prepared.plan.cursor = some 0 ∧ 1 < prepared.plan.passesRemaining ∧
      (prepared.setPlan { prepared.plan with passesRemaining := 1 }).plan.passesRemaining ≤ 1) ∧
    (prepared.plan.steps[0]? = some (.cue 7 2 2 .record) ∧ (∃ c ∈ prepared.cues, c.id = 7) ∧
      ∀ c ∈ (prepared.setCues [cue 9 18000 false]).cues, c.id ≠ 7) ∧
    (prepared.setPass { prepared.pass with state := .cleared, outcome := some .more }).pass.outcome = some .more ∧
    stage.pass.outcome ≠ some .more := by decide +kernel

/-- R99, R116, R118: the cue of the only step has gone, so that the abandonment skips the step and ends the run. -/
theorem test_abandonment_ends_run :
    (let s := abandonPass (inPass.setCues [cue 9 18000 false])
     (s.pass.state, s.plan.cursor, s.port.notices)) =
      (.idle, none, [⟨.passAbandoned, 1⟩, ⟨.planSkip, 7⟩, ⟨.planEnd, 0⟩]) := by decide +kernel

/-- R98, R112: the last pass of the only step clears, and the run ends. -/
theorem test_clearing_ends_run :
    (let s := clearingTest ((inPass.setPosn ⟨23880, 23880, 23760, 0, 120⟩).setPlan { inPass.plan with passesRemaining := 1 })
     (s.pass.state, s.pass.outcome, s.plan.cursor, s.port.notices)) =
      (.cleared, some .none, none, [⟨.passCleared, 1⟩, ⟨.takeReady, 1⟩, ⟨.planEnd, 0⟩]) := by decide +kernel

theorem test_witness_CueEventsBuilt :
    CueInRange (cue 7 6000 false) stage.defaults stage.outputs stage.pMax ∧
      CueInRange (cue 7 0 false) stage.defaults stage.outputs stage.pMax := by
  refine ⟨?_, ?_⟩ <;> constructor <;> decide

theorem test_witness_EventListBuilt : (prepared.sched.held = some ⟨[7, 9], .record⟩ ∧ armed prepared = true) ∧
    armed stage = false ∧
    (let s := (prepared.setPosn ⟨5800, 5800, 0, 0, 120⟩).setSched { prepared.sched with advOverlay := 240 }
     ∃ e ∈ keptEvents (heldEvents s ⟨[7, 9], .record⟩) s.sched.fired s.posn.p, e.fire < s.posn.p) ∧
    ∀ e ∈ keptEvents (heldEvents prepared ⟨[7, 9], .record⟩) prepared.sched.fired prepared.posn.p,
      prepared.posn.p ≤ e.fire := by decide +kernel

theorem test_witness_HeldEvents : (⟨[7, 9], .record⟩ : HeldSet).cues = [7] ++ 9 :: [] ∧
    findCue prepared.cues 9 = some (cue 9 18000 true) ∧ (⟨[7, 9], .record⟩ : HeldSet).cues[1]? = some 9 := by decide +kernel

theorem test_witness_GroupFires : (EventsOrdered (oneEvent .pipOn (some 1)) ∧
      (oneEvent .pipOn (some 1)).sched.events = event .pipOn (some 1) 0 :: [event .lineEnd none 50] ∧
      (event .pipOn (some 1) 0).fire ≤ (oneEvent .pipOn (some 1)).posn.p ∧
      (∀ x ∈ [event .lineEnd none 50], (oneEvent .pipOn (some 1)).posn.p < x.fire) ∧
      findCue (oneEvent .pipOn (some 1)).cues 7 = some (cue 7 6000 false)) ∧
    (oneEvent .streamerBegin none).out.laneA = none ∧
    (∀ e ∈ (stage.setSched { stage.sched with events := [event .lineEnd none 1] }).sched.events, stage.posn.p < e.fire) := by
  decide

/-- Two events due at one advance: the pip of cue 7 ends as its flash begins. -/
def twoEvents : State := ((withCues false).setOut { stage.out with pipCount := 1, pipg := true }).setSched
  { stage.sched with events := [event .pipOff (some 1) 0, event .flashOn none 0, event .lineEnd none 50] }

theorem test_witness_GroupOfTwo : EventsOrdered twoEvents ∧
    twoEvents.sched.events.filter (fun e => decide (e.fire ≤ twoEvents.posn.p)) ≠ [] ∧
    twoEvents.out.laneA.isSome = false ∧
    ({ twoEvents.out with laneA := some ⟨7, 0, 6000⟩, laneB := some ⟨9, 0, 18000⟩ } : OutputUnits).laneB.isSome = true := by
  decide

/-- R142, R154: both take effect, and the lines are settled after them. -/
theorem test_group_of_two : (let o := (fireGroup twoEvents).out
     (o.pipCount, o.pipg, o.flashCount)) = (0, false, 1) := by decide +kernel

theorem test_witness_WriteTake : [takeClosed, takeOpen] = [takeClosed] ++ takeOpen :: [] ∧ takeOpen.outcome = .inProgress ∧
    (∀ x ∈ [takeClosed] ++ [], x.outcome ≠ .inProgress) ∧ ∀ r ∈ stage.log.records, r.outcome ≠ .inProgress := by decide

/-- R13, R170: the flag stands in the take in progress alone. -/
theorem test_flag_in_progress : ((flagRefUnstable (stage.setLog ⟨[takeClosed, takeOpen], 2⟩)).log.records.map fun r =>
    r.flags.refUnstable) = [false, true] := by decide

theorem test_witness_LinesSettled : LinesSettled stage.out ∧
    LinesSettled { stage.out with pipCount := 2, pipg := true, pitch := .accent, pipp := true, punchCount := 1, punch := true } :=
  ⟨by constructor <;> decide, by constructor <;> decide⟩

theorem test_witness_OverlayShiftsWord :
    (let s := stage.setOut { stage.out with buffer := some word }
     s.resetnLow = false ∧ s.out.shifter = .idle ∧ s.out.buffer = some word) ∧ stage.out.buffer = none ∧
    (stage.setOut { stage.out with shifter := .shifting word 0 }).out.shifter = .shifting word 0 ∧
    word.laneB < 4096 ∧ word.countdown < 256 ∧ word.label < 65536 ∧ word.tag < 16 ∧ word.take < 128 := by decide

theorem test_witness_WordComposed :
    (let s := (withCues false).setSched { stage.sched with events := [event .flashOn none 6000, event .lineEnd none 11760] }
     event .lineEnd none 11760 ∈ s.sched.events ∧
      (∀ x ∈ s.sched.events, x.kind = .lineEnd → x = event .lineEnd none 11760 ∨ (event .lineEnd none 11760).order < x.order) ∧
      findCue s.cues 7 = some (cue 7 6000 false)) ∧ (∀ e ∈ stage.sched.events, e.kind ≠ .lineEnd) ∧
    (⟨7, 5040, 6000⟩ : Lane).b < (⟨7, 5040, 6000⟩ : Lane).s ∧ stage.out.laneA = none ∧
    (stage.setOut { stage.out with laneB := some ⟨7, 5040, 6000⟩ }).out.laneB = some ⟨7, 5040, 6000⟩ := by decide

/-- R150, R152: half way through a lead of 960 the column is half the width, and 480 subframes ahead of the line the countdown is 4. -/
theorem test_column_and_countdown : laneColumn 1920 5520 ⟨7, 5040, 6000⟩ = 960 ∧ laneColumn 1920 6000 ⟨7, 5040, 6000⟩ = 1919 ∧
    countdownTo 5520 6000 = 4 ∧ countdownTo 5519 6000 = 5 := by decide

theorem test_witness_WindowsOpenAndClose :
    (let s := (inPass.setOnset ⟨.idle, [], none⟩).setSched { inPass.sched with held := some ⟨[7, 9], .record⟩ }
     s.pass.state = .inPass ∧ s.sched.held = some ⟨[7, 9], .record⟩ ∧ s.onset.openWindows.Sublist [7, 9]) ∧
    stage.pass.state ≠ .inPass ∧ 9 ∉ (detecting .armed).onset.openWindows ∧ 7 ∈ (detecting .armed).onset.openWindows ∧
    [] = (detecting .armed).onset.openWindows.filter (fun x => decide (x ≠ 7)) := by decide +kernel

/-- R163: a sample begun in one command and ended in another, and an LVSYNC within a sample. -/
theorem test_sample_in_two_commands :
    (let s := (detecting .waitingQuiet).setOnset { (detecting .waitingQuiet).onset with sample := some [true, false].reverse }
     s.onset.sample = some [true, false].reverse ∧ [true, false].length < 8 ∧
     (match exec (.levelSample (List.replicate 6 (.clock false))) s with
      | .next t => (t.onset.sample, t.onset.detector)
      | _ => (none, .idle)) = (none, .waitingQuiet) ∧
     (match exec (.levelSample (.sync :: List.replicate 8 (.clock false))) s with
      | .next t => (t.onset.sample, t.onset.detector)
      | _ => (none, .idle)) = (none, .armed)) := by decide +kernel

theorem test_witness_LevelSampleJudged : (stage.resetnLow = false ∧ ([] : List Bool).length < 8 ∧ stage.onset.sample = none) ∧
    ((bits8 true).length = 8 ∧ held5.port.part = .config ∧ stage.onset.detector = .idle) ∧
    ((detecting .waitingQuiet).onset.detector = .waitingQuiet ∧
      (detecting .waitingQuiet).onsetRec.armLevel < bitsNum (bits8 true) ∧
      bitsNum (bits8 false) ≤ (detecting .waitingQuiet).onsetRec.armLevel) ∧
    (Live (detecting .armed) ∧ (detecting .armed).onset.detector = .armed ∧
      bitsNum (bits8 false) < (detecting .armed).onsetRec.triggerLevel ∧
      (detecting .armed).onsetRec.triggerLevel ≤ bitsNum (bits8 true) ∧
      (detecting .armed).onset.openWindows = [] ++ 7 :: [] ∧ credited (detecting .armed) 7 = false ∧
      findCue (detecting .armed).cues 7 = some (cue 7 6000 false)) := by decide

theorem test_witness_AttemptsStart :
    (let s := (idleLine .active).setBus { (idleLine .active).bus with queue := [queued .beacon 0 false, queued .release 0 false] }
     s.resetnLow = false ∧ s.bus.link = .active ∧ s.bus.sending = none ∧ runRx s.bus.rx [] = (⟨10, none⟩, []) ∧
      s.bus.queue = [queued .beacon 0 false] ++ queued .release 0 false :: [] ∧
      s.bus.abort ≤ ([] : List Bool).length ∧
      (∀ x ∈ [queued .beacon 0 false], (queued .release 0 false).frame.kind.cls < x.frame.kind.cls)) ∧
    (bits8 true).length < ((idleLine .active).setBus { (idleLine .active).bus with abort := 8 }).bus.abort + 1 ∧
    ([] : List Bool).length < ((idleLine .active).setBus { (idleLine .active).bus with abort := 8 }).bus.abort ∧
    stage.bus.queue = [] ∧ listening.bus.link ≠ .active ∧ (sendingRelease 0).bus.sending.isSome = true ∧
    (runRx stage.bus.rx []).1.lineIdle = false := by decide

/-- R25: a stuff bit after five equal bits, with the mark of the bit after it; a shorter run and a change of level without one. -/
theorem test_witness_Stuffing :
    stuff false 4 [⟨false, true⟩, ⟨true, true⟩] = [⟨false, true⟩, ⟨true, true⟩, ⟨true, true⟩] ∧
    stuff false 4 [⟨false, true⟩] = [⟨false, true⟩, ⟨true, false⟩] ∧
    stuff false 3 [⟨false, true⟩] = [⟨false, true⟩] ∧ stuff false 4 [⟨true, true⟩] = [⟨true, true⟩] := by decide

theorem test_witness_AttemptsEnd : (sendingRelease 2).resetnLow = false ∧ (sendingRelease 2).bus.sending = some release12 ∧
    (sendingRelease 2).bus.lineTest = none ∧ judgeTx release12.txBits [true] = .bitError ∧
    judgeTx release12.txBits [false, false, false, false] = .lost ∧
    (sendingRelease 2).bus.queue = [queued .beacon 0 false] ++ queued .release 2 true :: [] ∧
    (queued .release 1 true).retries < 2 ∧ 2 ≤ (queued .release 2 true).retries ∧
    (∀ x ∈ [queued .beacon 0 false] ++ [], x.onLine = false) ∧ stage.bus.sending = none ∧
    release12.txBits = [] ++ ⟨false, false⟩ :: release12.txBits.tail ∧ afterDifference release12.txBits [true] = [] ∧
    ((sendingRelease 2).bus.link = .active ∧ stage.bus.link = .active ∧ stage.bus.sending = none) ∧
    listening.bus.link ≠ .active ∧ listening.bus.link ≠ .lineTest := by
  decide +kernel

theorem test_witness_EchoTestDrivesTxd : (testing 1 0).bus.link = .lineTest ∧
    ∃ t : LineTest, (testing 1 0).bus.lineTest = some t ∧ t.mode = .busEcho := ⟨rfl, ⟨.busEcho, 2, 1, 0, 0⟩, rfl, rfl⟩

/-- R31, R37: after a bit error TXD is dominant for 8 bit times. -/
theorem test_abort_on_txd : (match exec (.bitError [true]) (sendingRelease 0) with
    | .next t => (t.driven, t.txd)
    | _ => ([], true)) = (List.replicate 8 false, false) := by decide +kernel

theorem test_witness_FramesHandedOn : (sendingRelease 0).bus.sending = some release12 ∧ stage.agr.frames.length < 32 ∧
    32 ≤ (stage.setAgr { stage.agr with frames := List.replicate 32 ⟨release12, false⟩ }).agr.frames.length ∧
    ((idleLine .listening).resetnLow = false ∧ (idleLine .listening).bus.sending = none ∧
      (idleLine .listening).bus.lineTest = none ∧ (idleLine .listening).bus.rx = ⟨10, none⟩ ∧
      (idleLine .listening).bus.link.handsOn = true ∧ (idleLine .listenOnly).bus.link.handsOn = true) ∧
    (release12.payload.length = release12.kind.payloadBytes ∧ sourceFits release12.kind release12.source = true ∧
      release12.source = stage.address ∧ (Payload.release.frame 30).source ≠ stage.address) ∧
    ((testFrame 16).kind = .test ∧ sourceFits (testFrame 16).kind (testFrame 16).source = true) ∧
    runRx (idleLine .active).bus.rx (List.replicate 6 false) = (⟨0, none⟩, [.discard]) ∧ State.reset.bus.link = .off ∧
    ((testing 1 0).bus.sending = none ∧ (testing 1 0).bus.link = .lineTest ∧
      (testing 1 0).bus.lineTest = some ⟨.busEcho, 2, 1, 0, 0⟩ ∧
      runRx (testing 1 0).bus.rx release12.lineBits = (⟨8, none⟩, [.complete release12]) ∧
      runRx (testing 1 0).bus.rx (List.replicate 6 false) = (⟨0, none⟩, [.discard])) ∧
    (runRx stage.bus.rx []).2 = [] := by
  decide +kernel

theorem test_witness_FramesInTests :
    (idleWait (testing 1 0).bus.rx 0 release12.lineBits = some release12.lineBits.length ∧
      idleWait (runRx ⟨10, none⟩ [false]).1 995 (List.replicate 6 false) = none) ∧
    ((testRun .busEcho 3 8 none).bus.abort = 8 ∧ (List.replicate 6 false).length < 8 ∧
      8 ≤ release12.lineBits.length) ∧ stage.bus.link.handsOn = true ∧ State.reset.bus.link.handsOn = false := by
  decide +kernel

/-- R28, R32: a frame that wins the contention and completes in the bits after the lost one is handed on. -/
theorem test_winner_is_handed_on :
    (match exec (.arbitrationLoss (Payload.release.frame 3).lineBits) (sendingRelease 0) with
    | .next t => t.agr.frames
    | _ => []) = [⟨Payload.release.frame 3, false⟩] := by decide +kernel

/-- R39, R65: a clash heard in LISTENING leaves the link LISTEN_ONLY and the join state SETTLED. -/
theorem test_clash_settles : (match exec (.frameComplete release12.lineBits) (idleLine .listening) with
    | .next t => (t.bus.link, t.agr.join)
    | _ => (.off, .waiting)) = (.listenOnly, .settled) := by decide +kernel

theorem test_witness_ReceiverReadsBackFrames :
    (release12.payload.length = release12.kind.payloadBytes ∧ sourceFits release12.kind release12.source = true) ∧
    (Payload.beacon 7 .cueing .cleared 255 65535 255 4294967295).fits = true ∧ (Payload.hold 255 15).fits = true := by decide

/-- R27: the RELEASE of station 12 with a sixth equal bit, a wrong CRC, a dominant bit in the end field, and two bytes of no header. -/
theorem test_witness_Discards :
    (release12.lineBits.length - 8 + 7 < release12.lineBits.length ∧
      runRx ⟨10, none⟩ (release12.lineBits.take (release12.lineBits.length - 8 + 7) ++ [false]) = (⟨0, none⟩, [.discard])) ∧
    (let tail : BusFrame := Payload.frame 1 (.hold 0 0)
     ∃ n ∈ List.range 40, (tail.lineBits.drop n).take 5 = List.replicate 5 false ∧ 8 ≤ (tail.lineBits.drop (n + 5)).length ∧
       runRx ⟨10, none⟩ (tail.lineBits.take (n + 5) ++ [false]) = (⟨0, none⟩, [.discard])) ∧
    (0 : BitVec 16) ≠ crc ((release12.header ++ release12.payload).flatMap byteBits) ∧
    (runRx ⟨10, none⟩ (false :: (stuff false 1 ((byteBits 44 ++ byteBits 129).map (⟨·, false⟩))).map TxBit.level)).2 =
      [.discard] ∧ (⟨true, 5, [], 0⟩ : RxFrame).run ≤ 5 := by decide +kernel

/-- R201: no frame has the header bytes 44 and 129, since kind code 8 is unknown. -/
theorem test_no_header (f : BusFrame) : f.header ≠ [44, 129] := by
  rcases f with ⟨a, k, p⟩; cases k <;> simp [BusFrame.header, FrameKind.code, FrameKind.payloadBytes]

theorem test_witness_StepsKeepCapacities :
    (let s := stage.setPending [.tick]
     QueuesBounded s ∧ OverflowGuarded s ∧ OneMarkStop s ∧ StoresBounded s ∧ CuesOrdered s.cues ∧ ∃ t : State, step s = .next t) :=
  have queues : QueuesBounded (stage.setPending [.tick]) := by constructor <;> decide
  have stores : StoresBounded (stage.setPending [.tick]) := by constructor <;> decide
  have cues : CuesOrdered (stage.setPending [.tick]).cues := by constructor <;> decide
  ⟨queues, nofun, by decide, stores, cues, _, rfl⟩

theorem test_witness_StepsKeepRanges :
    (let s := rolling.setPending [.tick]
     PositionSound s ∧ LocateSound s ∧ TablesOrdered s ∧ EventsOrdered s ∧ LinesSettled s.out ∧ ∃ t : State, step s = .next t) :=
  have position : PositionSound (rolling.setPending [.tick]) := by constructor <;> decide
  have tables : TablesOrdered (rolling.setPending [.tick]) := by constructor <;> decide
  have lines : LinesSettled (rolling.setPending [.tick]).out := by constructor <;> decide
  ⟨position, by decide, tables, by decide, lines, _, rfl⟩

theorem test_witness_StepsKeepRun :
    (let s := stage.setPending [.go]
     RecordsHeld s ∧ PassSound s ∧ RunSound s ∧ ∃ t : State, step s = .next t) :=
  have held : RecordsHeld (stage.setPending [.go]) := by constructor <;> decide
  have pass : PassSound (stage.setPending [.go]) := by constructor <;> decide
  have run : RunSound (stage.setPending [.go]) := by constructor <;> decide
  ⟨held, pass, run, _, rfl⟩

end Sys2Proof.Tests
end

/-! PROOF. CLEAR CUES (R80): how a ready port answers a command, the three judgements of the command, and the search over an empty table. -/

namespace Sys2Proof.Machine

/-! ## A command taken by a ready port (R187, R188) -/

@[simp] theorem State.setResponse_testing (s : State) (r : Option Response) : (s.setResponse r).testing = s.testing := rfl

theorem State.setCues_setResponse (s : State) (cues : List CueRec) (r : Option Response) :
    (s.setResponse r).setCues cues = (s.setCues cues).setResponse r := rfl

theorem running_of_onStage {s : State} (h : OnStage s) : s.running = true := decide_eq_true h.2

theorem running_of_configurable {s : State} (h : Configurable s) : s.running = false := by
  simp [State.running, h.2]

/-- A ready port runs the body on an emptied response buffer, whether or not a line test would serve the command. -/
theorem take_of_portReady {s : State} (served : Bool) (body : State → Body) (ready : PortReady s) :
    take served body s = (body (s.setResponse none)).1.setResponse (body (s.setResponse none)).2 := by
  obtain ⟨⟨high, free⟩, noTest⟩ := ready
  have idle : s.testing = false := by simp [State.testing, noTest]
  simp [take, process, Port.ready, high, free, idle]

/-- What the body answers on the emptied buffer is the answer that the port holds afterwards. -/
theorem take_eq_answered {s t : State} {served : Bool} {body : State → Body} {st : Status} {d : Reply}
    (ready : PortReady s) (judged : body (s.setResponse none) = answer st d (t.setResponse none)) :
    take served body s = t.answered st d := by
  rw [take_of_portReady served body ready, judged]; rfl

/-! ## The judgement of CLEAR CUES (R80) -/

theorem exec_clearCues (s : State) : exec .clearCues s = .next (take false clearCuesBody s) := rfl

theorem clearCuesBody_config {s : State} (config : s.running = false) : clearCuesBody s = answerPlain .state s := by
  simp [clearCuesBody, config]

theorem clearCuesBody_pinned {s : State} (running : s.running = true) (pinned : ∃ c ∈ s.cues, c.pinned = true) :
    clearCuesBody s = answerPlain .busy s := by
  have somePin : s.cues.any CueRec.pinned = true := List.any_eq_true.mpr pinned
  simp [clearCuesBody, running, somePin]

theorem clearCuesBody_unpinned {s : State} (running : s.running = true) (unpinned : ∀ c ∈ s.cues, c.pinned = false) :
    clearCuesBody s = answerPlain .ok (s.setCues []) := by
  have noPin : s.cues.any CueRec.pinned = false := List.any_eq_false.mpr fun c mem => by simp [unpinned c mem]
  simp [clearCuesBody, running, noPin]

/-! ## The search over an empty table (R93, R96) -/

@[simp] theorem SearchResult.skip_found (id : Nat) (r : SearchResult) : (r.skip id).found = r.found := rfl

@[simp] theorem findCue_nil (id : Nat) : findCue [] id = none := rfl

/-- No CUE step finds its first cue in an empty table, so every way the walk goes on ends without a step. -/
theorem search_nil_found (steps : List PlanStep) (fuel : Nat) (stack : List (StackEntry × Bool)) (pos : SearchPos) :
    (search steps [] fuel stack pos).found = none := by
  induction fuel generalizing stack pos with
  | zero => rfl
  | succ fuel ih =>
    match pos, stack with
    | .enter i, stack =>
      rw [search]
      split
      · rfl
      · exact ih _ _
      · simp [ih]
    | .leave x, [] => exact ih _ _
    | .leave x, (top, whole) :: rest =>
      rw [search]
      split
      · exact ih _ _
      · split <;> exact ih _ _

/-! ## The obligation -/

/-- Settles O20: the three judgements of the body carried through the port, and the search by induction on its fuel. -/
theorem clearCuesJudged : Obligations.ClearCuesJudged := by
  refine ⟨fun s config => ?state, fun s stage pinned => ?busy, fun s stage unpinned => ?ok, fun s pos empty => ?search⟩
  case state =>
    have judged := clearCuesBody_config (s := s.setResponse none) (running_of_configurable config)
    rw [exec_clearCues, take_eq_answered config.1 judged]
  case busy =>
    have judged := clearCuesBody_pinned (s := s.setResponse none) (running_of_onStage stage) pinned
    rw [exec_clearCues, take_eq_answered stage.1 judged]
  case ok =>
    have judged := clearCuesBody_unpinned (s := s.setResponse none) (running_of_onStage stage) unpinned
    rw [State.setCues_setResponse] at judged
    rw [exec_clearCues, take_eq_answered stage.1 judged]
  case search =>
    rw [State.search, empty]
    exact search_nil_found _ _ _ _

end Sys2Proof.Machine

/-! PROOF. PLAN STEP and PLAN CLEAR (R88, R89): a command refused by a line test, the ranges of a step, the judgements of the two bodies, and their way through the port. -/

namespace Sys2Proof.Machine

/-! ## A command refused by a line test (R188) -/

/-- A free port answers BUSY for a command that a line test does not serve, and its body never runs. -/
theorem take_of_lineTest {s : State} (body : State → Body) (free : PortFree s) (test : s.bus.lineTest.isSome = true) :
    take false body s = s.answered .busy .empty := by
  obtain ⟨high, noStep⟩ := free
  have testing : s.testing = true := test
  calc take false body s = process false body s := by simp [take, Port.ready, high, noStep]
    _ = (s.setResponse none).setResponse (some ⟨.busy, .empty⟩) := by simp [process, testing, answerPlain, answer]
    _ = s.answered .busy .empty := rfl

@[simp] theorem State.setResponse_plan (s : State) (r : Option Response) : (s.setResponse r).plan = s.plan := rfl

theorem State.setPlan_setResponse (s : State) (plan : PlanUnit) (r : Option Response) :
    (s.setResponse r).setPlan plan = (s.setPlan plan).setResponse r := rfl

/-! ## The ranges of a step (R88, R204) -/

theorem stepModeOfCode_eq_ite (code : Nat) : stepModeOfCode code = if code = 0 then some .rehearse
    else if code = 1 then some .record else if code = 2 then some .firstRehearse else none := by
  match code with
  | 0 | 1 | 2 => rfl
  | n + 3 => simp [stepModeOfCode]

theorem stepModeOfCode_of_two_lt {code : Nat} (large : 2 < code) : stepModeOfCode code = none := by
  rw [stepModeOfCode_eq_ite, if_neg (by omega), if_neg (by omega), if_neg (by omega)]

theorem planStepOf_cue {first : Half} {run passes mode : Byte} {m : StepMode} (firstSet : first ≠ 0)
    (runSet : run ≠ 0) (runFits : run.toNat ≤ 8) (passesSet : passes ≠ 0) (passesFit : passes.toNat ≤ 99)
    (known : stepModeOfCode mode.toNat = some m) :
    planStepOf (.cue first run passes mode) = some (.cue first.toNat run.toNat passes.toNat m) := by
  have runPos : 1 ≤ run.toNat := by bv_omega
  have passesPos : 1 ≤ passes.toNat := by bv_omega
  simp only [planStepOf, known]
  exact if_pos ⟨firstSet, runPos, runFits, passesPos, passesFit⟩

/-- One field outside its range is enough, an unknown mode code among them. -/
theorem planStepOf_cue_eq_none {first : Half} {run passes mode : Byte}
    (outside : first = 0 ∨ run = 0 ∨ 8 < run.toNat ∨ passes = 0 ∨ 99 < passes.toNat ∨ 2 < mode.toNat) :
    planStepOf (.cue first run passes mode) = none := by
  rw [planStepOf]
  split
  case h_1 m known =>
    have small : ¬ 2 < mode.toNat := fun large => by simp [stepModeOfCode_of_two_lt large] at known
    exact if_neg fun ⟨firstSet, runPos, runFits, passesPos, passesFit⟩ => by bv_omega
  case h_2 => rfl

theorem planStepOf_block {span repeats : Byte} (spanSet : span ≠ 0) (spanFits : span.toNat ≤ 63)
    (repeatsSet : repeats ≠ 0) (repeatsFit : repeats.toNat ≤ 99) :
    planStepOf (.block span repeats) = some (.block span.toNat repeats.toNat) := by
  have spanPos : 1 ≤ span.toNat := by bv_omega
  have repeatsPos : 1 ≤ repeats.toNat := by bv_omega
  exact if_pos ⟨spanPos, spanFits, repeatsPos, repeatsFit⟩

theorem planStepOf_block_eq_none {span repeats : Byte}
    (outside : span = 0 ∨ 63 < span.toNat ∨ repeats = 0 ∨ 99 < repeats.toNat) :
    planStepOf (.block span repeats) = none :=
  if_neg fun ⟨spanPos, spanFits, repeatsPos, repeatsFit⟩ => by bv_omega

/-! ## The judgement of PLAN STEP (R88) -/

theorem exec_planStep (st : StepArgs) (s : State) : exec (.planStep st) s = .next (take false (planStepBody st) s) := rfl

/-- Outside RUNNING and outside IDLE the step is not looked at: STATE comes before RANGE and FULL. -/
theorem planStepBody_state {s : State} (st : StepArgs) (barred : s.running = false ∨ s.pass.state ≠ .idle) :
    planStepBody st s = answerPlain .state s :=
  if_pos (by simpa using barred)

theorem planStepBody_range {s : State} {st : StepArgs} (running : s.running = true) (idle : s.pass.state = .idle)
    (outside : planStepOf st = none) : planStepBody st s = answerPlain .range s := by
  simp [planStepBody, running, idle, outside]

theorem planStepBody_full {s : State} {st : StepArgs} {x : PlanStep} (running : s.running = true)
    (idle : s.pass.state = .idle) (fits : planStepOf st = some x) (full : 64 ≤ s.plan.steps.length) :
    planStepBody st s = answerPlain .full s := by
  simp [planStepBody, running, idle, fits, full]

theorem planStepBody_append {s : State} {st : StepArgs} {x : PlanStep} (running : s.running = true)
    (idle : s.pass.state = .idle) (fits : planStepOf st = some x) (room : s.plan.steps.length < 64) :
    planStepBody st s =
      answer .ok (.stepIndex s.plan.steps.length) (s.setPlan { s.plan with steps := s.plan.steps ++ [x] }) := by
  simp [planStepBody, running, idle, fits, room.not_ge]

/-! ## PLAN STEP through the port (R88) -/

theorem exec_planStep_state {s : State} (st : StepArgs) (ready : PortReady s)
    (barred : s.running = false ∨ s.pass.state ≠ .idle) :
    exec (.planStep st) s = .next (s.answered .state .empty) := by
  have judged := planStepBody_state (s := s.setResponse none) st barred
  rw [exec_planStep, take_eq_answered ready judged]

theorem exec_planStep_range {s : State} {st : StepArgs} (stage : OnStage s) (idle : s.pass.state = .idle)
    (outside : planStepOf st = none) : exec (.planStep st) s = .next (s.answered .range .empty) := by
  have judged := planStepBody_range (s := s.setResponse none) (running_of_onStage stage) idle outside
  rw [exec_planStep, take_eq_answered stage.1 judged]

theorem exec_planStep_full {s : State} {st : StepArgs} {x : PlanStep} (stage : OnStage s) (idle : s.pass.state = .idle)
    (fits : planStepOf st = some x) (full : 64 ≤ s.plan.steps.length) :
    exec (.planStep st) s = .next (s.answered .full .empty) := by
  have judged := planStepBody_full (s := s.setResponse none) (running_of_onStage stage) idle fits full
  rw [exec_planStep, take_eq_answered stage.1 judged]

theorem exec_planStep_append {s : State} {st : StepArgs} {x : PlanStep} (stage : OnStage s)
    (idle : s.pass.state = .idle) (fits : planStepOf st = some x) (room : s.plan.steps.length < 64) :
    exec (.planStep st) s = .next ((s.setPlan { s.plan with
      steps := s.plan.steps ++ [x] }).answered .ok (.stepIndex s.plan.steps.length)) := by
  have judged := planStepBody_append (s := s.setResponse none) (running_of_onStage stage) idle fits room
  rw [State.setPlan_setResponse, State.setResponse_plan] at judged
  rw [exec_planStep, take_eq_answered stage.1 judged]

/-! ## The judgement of PLAN CLEAR (R89) -/

theorem exec_planClear (s : State) : exec .planClear s = .next (take false planClearBody s) := rfl

theorem planClearBody_state {s : State} (barred : s.running = false ∨ s.pass.state ≠ .idle) :
    planClearBody s = answerPlain .state s :=
  if_pos (by simpa using barred)

theorem planClearBody_idle {s : State} (running : s.running = true) (idle : s.pass.state = .idle) :
    planClearBody s = answerPlain .ok (s.setPlan { s.plan with steps := [] }) :=
  if_neg (by simp [running, idle])

theorem exec_planClear_state {s : State} (ready : PortReady s) (barred : s.running = false ∨ s.pass.state ≠ .idle) :
    exec .planClear s = .next (s.answered .state .empty) := by
  have judged := planClearBody_state (s := s.setResponse none) barred
  rw [exec_planClear, take_eq_answered ready judged]

theorem exec_planClear_empty {s : State} (stage : OnStage s) (idle : s.pass.state = .idle) :
    exec .planClear s = .next ((s.setPlan { s.plan with steps := [] }).answered .ok .empty) := by
  have judged := planClearBody_idle (s := s.setResponse none) (running_of_onStage stage) idle
  rw [State.setPlan_setResponse, State.setResponse_plan] at judged
  rw [exec_planClear, take_eq_answered stage.1 judged]

/-! ## The obligation -/

/-- Settles O23: each clause is one judgement of a body carried through the port, with the ranges of the step decided by `planStepOf`. -/
theorem planEdited : Obligations.PlanEdited := by
  refine ⟨?stepBusy, ?stepConfig, ?stepPass, ?cueRange, ?blockRange, ?otherRange, ?stepFull, ?cueOk, ?blockOk,
    ?clearConfig, ?clearPass, ?clearOk, stepModeOfCode_eq_ite⟩
  case stepBusy =>
    intro s st free test
    rw [exec_planStep, take_of_lineTest _ free test]
  case stepConfig => exact fun s st config => exec_planStep_state st config.1 (.inl (running_of_configurable config))
  case stepPass => exact fun s st stage inPass => exec_planStep_state st stage.1 (.inr inPass)
  case cueRange =>
    exact fun s first run passes mode stage idle outside => exec_planStep_range stage idle (planStepOf_cue_eq_none outside)
  case blockRange =>
    exact fun s span repeats stage idle outside => exec_planStep_range stage idle (planStepOf_block_eq_none outside)
  case otherRange => exact fun s kind stage idle => exec_planStep_range stage idle rfl
  case stepFull => exact fun s st x stage idle fits full => exec_planStep_full stage idle fits full
  case cueOk =>
    intro s first run passes mode m stage idle firstSet runSet runFits passesSet passesFit known room
    exact exec_planStep_append stage idle (planStepOf_cue firstSet runSet runFits passesSet passesFit known) room
  case blockOk =>
    intro s span repeats stage idle spanSet spanFits repeatsSet repeatsFit room
    exact exec_planStep_append stage idle (planStepOf_block spanSet spanFits repeatsSet repeatsFit) room
  case clearConfig => exact fun s config => exec_planClear_state config.1 (.inl (running_of_configurable config))
  case clearPass => exact fun s stage inPass => exec_planClear_state stage.1 (.inr inPass)
  case clearOk => exact fun s stage idle => exec_planClear_empty stage idle

end Sys2Proof.Machine

/-! PROOF. SET MARK and CLEAR MARK (R182): the codes, the mark that a SET MARK gives, the judgements of the two bodies, and their way through the port. -/

namespace Sys2Proof.Machine

/-! ## What a state with an answer or with a mark written reads -/

@[simp] theorem State.setResponse_mark (s : State) (r : Option Response) (n : Nat) : (s.setResponse r).mark n = s.mark n := rfl

@[simp] theorem State.setResponse_pMax (s : State) (r : Option Response) : (s.setResponse r).pMax = s.pMax := rfl

@[simp] theorem markOf_setResponse (a : MarkArgs) (s : State) (r : Option Response) :
    markOf a (s.setResponse r) = markOf a s := rfl

/-- Writing one mark changes the marks alone. -/
theorem State.setMarks_marks_setMark (s : State) (n : Nat) (m : Mark) : s.setMarks (s.setMark n m).marks = s.setMark n m := by
  unfold State.setMark
  split <;> rfl

theorem State.setMark_setResponse (s : State) (n : Nat) (m : Mark) (r : Option Response) :
    (s.setResponse r).setMark n m = (s.setMark n m).setResponse r := by
  unfold State.setMark
  split <;> rfl

/-! ## The codes and the number of a mark (R182) -/

theorem markInRange_iff {n : Nat} : markInRange n = true ↔ 1 ≤ n ∧ n ≤ 4 := by simp [markInRange]

theorem markConditionOfCode_eq_ite (code : Nat) : markConditionOfCode code =
    if code = 0 then some .enter else if code = 1 then some .leave else none := by
  match code with
  | 0 | 1 => rfl
  | n + 2 => simp [markConditionOfCode]

theorem markActionOfCode_eq_ite (code : Nat) : markActionOfCode code =
    if code = 0 then some .notice else if code = 1 then some .hold else if code = 2 then some .stop else none := by
  match code with
  | 0 | 1 | 2 => rfl
  | n + 3 => simp [markActionOfCode]

theorem markRearmOfCode_eq_ite (code : Nat) : markRearmOfCode code =
    if code = 0 then some .once else if code = 1 then some .repeating else none := by
  match code with
  | 0 | 1 => rfl
  | n + 2 => simp [markRearmOfCode]

theorem code_le_of_markCondition {code : Nat} {c : MarkCondition} (known : markConditionOfCode code = some c) : code ≤ 1 := by
  by_contra large
  rw [markConditionOfCode_eq_ite, if_neg (by omega), if_neg (by omega)] at known
  cases known

theorem code_le_of_markAction {code : Nat} {act : MarkAction} (known : markActionOfCode code = some act) : code ≤ 2 := by
  by_contra large
  rw [markActionOfCode_eq_ite, if_neg (by omega), if_neg (by omega), if_neg (by omega)] at known
  cases known

theorem code_le_of_markRearm {code : Nat} {re : MarkRearm} (known : markRearmOfCode code = some re) : code ≤ 1 := by
  by_contra large
  rw [markRearmOfCode_eq_ite, if_neg (by omega), if_neg (by omega)] at known
  cases known

/-! ## The mark of a SET MARK (R182) -/

/-- The mark that an accepted SET MARK gives: the positions clamped, count and reload both at the given count, armed. -/
def armedMark (a : MarkArgs) (c : MarkCondition) (act : MarkAction) (re : MarkRearm) (s : State) : Mark :=
  ⟨min a.low.toNat s.pMax, min a.high.toNat s.pMax, c, a.count.toNat, a.count.toNat, act, re, true⟩

/-- A SET MARK gives a mark exactly when its codes are known and its number and count are in range. -/
theorem markOf_eq_some_iff {a : MarkArgs} {s : State} {m : Mark} : markOf a s = some m ↔
    ∃ c act re, markConditionOfCode a.condition.toNat = some c ∧ markActionOfCode a.action.toNat = some act ∧
      markRearmOfCode a.rearm.toNat = some re ∧ (1 ≤ a.number.toNat ∧ a.number.toNat ≤ 4) ∧ a.count ≠ 0 ∧
      armedMark a c act re s = m := by
  rw [markOf]
  split
  case h_1 c act re condition action rearm =>
    simp [condition, action, rearm, markInRange_iff, armedMark, State.clampPos, and_assoc]
  case h_2 unknown =>
    refine ⟨nofun, ?_⟩
    rintro ⟨c, act, re, condition, action, rearm, -⟩
    exact (unknown c act re condition action rearm).elim

/-- One field outside its values is enough. -/
theorem markOf_eq_none {a : MarkArgs} (s : State) (outside : a.number = 0 ∨ 4 < a.number.toNat ∨ a.count = 0 ∨
    1 < a.condition.toNat ∨ 2 < a.action.toNat ∨ 1 < a.rearm.toNat) : markOf a s = none := by
  rw [Option.eq_none_iff_forall_ne_some]
  intro m given
  obtain ⟨c, act, re, condition, action, rearm, ⟨numberPos, numberFits⟩, counted, -⟩ := markOf_eq_some_iff.mp given
  have conditionFits := code_le_of_markCondition condition
  have actionFits := code_le_of_markAction action
  have rearmFits := code_le_of_markRearm rearm
  bv_omega

/-- ENTER is the way in: the previous position lies outside the range and the new one inside (R179). -/
theorem Mark.occurs_enter_iff {m : Mark} {prev edge : Nat} (enter : m.condition = .enter) :
    m.occurs prev edge = true ↔ (prev < m.low ∨ m.high < prev) ∧ m.low ≤ edge ∧ edge ≤ m.high := by
  simp only [Mark.occurs, enter, Mark.inside, Bool.and_eq_true, Bool.not_eq_true', Bool.and_eq_false_iff,
    decide_eq_true_eq, decide_eq_false_iff_not, not_le]

/-! ## The judgements of SET MARK and CLEAR MARK (R182) -/

theorem setMarkBody_config {s : State} (a : MarkArgs) (config : s.running = false) :
    setMarkBody a s = answerPlain .state s := by
  simp [setMarkBody, config]

/-- RANGE where the arguments give no mark, and where the mark they give has its range turned round. -/
theorem setMarkBody_range {s : State} {a : MarkArgs} (running : s.running = true)
    (refused : ∀ m, markOf a s = some m → m.high < m.low) : setMarkBody a s = answerPlain .range s := by
  cases given : markOf a s with
  | none => simp [setMarkBody, running, given]
  | some m => simp [setMarkBody, running, given, refused m given]

theorem setMarkBody_set {s : State} {a : MarkArgs} {m : Mark} (running : s.running = true) (given : markOf a s = some m)
    (upright : m.low ≤ m.high) : setMarkBody a s =
      answerPlain (if s.pMax < a.low.toNat ∨ s.pMax < a.high.toNat then .okClamped else .ok) (s.setMark a.number.toNat m) := by
  simp [setMarkBody, running, given, upright.not_gt, okStatus]

theorem clearMarkBody_config {s : State} (number : Byte) (config : s.running = false) :
    clearMarkBody number s = answerPlain .state s := by
  simp [clearMarkBody, config]

theorem clearMarkBody_range {s : State} {number : Byte} (running : s.running = true)
    (outside : ¬ (1 ≤ number.toNat ∧ number.toNat ≤ 4)) : clearMarkBody number s = answerPlain .range s := by
  simp [clearMarkBody, running, Bool.eq_false_iff.mpr (mt markInRange_iff.mp outside)]

theorem clearMarkBody_disarm {s : State} {number : Byte} (running : s.running = true)
    (inRange : 1 ≤ number.toNat ∧ number.toNat ≤ 4) : clearMarkBody number s =
      answerPlain .ok (s.setMark number.toNat { s.mark number.toNat with armed := false }) := by
  simp [clearMarkBody, running, markInRange_iff.mpr inRange]

/-! ## SET MARK and CLEAR MARK through the port (R182) -/

theorem exec_setMark (a : MarkArgs) (s : State) : exec (.setMark a) s = .next (take false (setMarkBody a) s) := rfl

theorem exec_clearMark (number : Byte) (s : State) :
    exec (.clearMark number) s = .next (take false (clearMarkBody number) s) := rfl

theorem exec_setMark_state {s : State} (a : MarkArgs) (config : Configurable s) :
    exec (.setMark a) s = .next (s.answered .state .empty) := by
  have judged := setMarkBody_config (s := s.setResponse none) a (running_of_configurable config)
  rw [exec_setMark, take_eq_answered config.1 judged]

theorem exec_setMark_range {s : State} {a : MarkArgs} (stage : OnStage s)
    (refused : ∀ m, markOf a s = some m → m.high < m.low) : exec (.setMark a) s = .next (s.answered .range .empty) := by
  have judged := setMarkBody_range (s := s.setResponse none) (running_of_onStage stage) refused
  rw [exec_setMark, take_eq_answered stage.1 judged]

theorem exec_setMark_set {s : State} {a : MarkArgs} {m : Mark} (stage : OnStage s) (given : markOf a s = some m)
    (upright : m.low ≤ m.high) : exec (.setMark a) s = .next ((s.setMark a.number.toNat m).answered
      (if s.pMax < a.low.toNat ∨ s.pMax < a.high.toNat then .okClamped else .ok) .empty) := by
  have judged := setMarkBody_set (s := s.setResponse none) (running_of_onStage stage) given upright
  rw [State.setMark_setResponse, State.setResponse_pMax] at judged
  rw [exec_setMark, take_eq_answered stage.1 judged]

theorem exec_clearMark_state {s : State} (number : Byte) (config : Configurable s) :
    exec (.clearMark number) s = .next (s.answered .state .empty) := by
  have judged := clearMarkBody_config (s := s.setResponse none) number (running_of_configurable config)
  rw [exec_clearMark, take_eq_answered config.1 judged]

theorem exec_clearMark_range {s : State} {number : Byte} (stage : OnStage s)
    (outside : ¬ (1 ≤ number.toNat ∧ number.toNat ≤ 4)) :
    exec (.clearMark number) s = .next (s.answered .range .empty) := by
  have judged := clearMarkBody_range (s := s.setResponse none) (running_of_onStage stage) outside
  rw [exec_clearMark, take_eq_answered stage.1 judged]

theorem exec_clearMark_disarm {s : State} {number : Byte} (stage : OnStage s)
    (inRange : 1 ≤ number.toNat ∧ number.toNat ≤ 4) : exec (.clearMark number) s =
      .next ((s.setMark number.toNat { s.mark number.toNat with armed := false }).answered .ok .empty) := by
  have judged := clearMarkBody_disarm (s := s.setResponse none) (running_of_onStage stage) inRange
  rw [State.setMark_setResponse, State.setResponse_mark] at judged
  rw [exec_clearMark, take_eq_answered stage.1 judged]

/-- An answer after one mark written, put in terms of the whole vector: the written mark reads back and the others are untouched. -/
theorem exec_answered_writes_one_mark {s : State} {i : Instr} {n : Nat} {m : Mark} {st : Status} {d : Reply}
    (low : 1 ≤ n) (high : n ≤ 4) (ran : exec i s = .next ((s.setMark n m).answered st d)) :
    ∃ marks : Vector Mark 4, exec i s = .next ((s.setMarks marks).answered st d) ∧
      (s.setMarks marks).mark n = m ∧ ∀ k : Nat, k ≠ n → (s.setMarks marks).mark k = s.mark k := by
  refine ⟨(s.setMark n m).marks, ?_⟩
  rw [State.setMarks_marks_setMark]
  exact ⟨ran, State.mark_setMark_self s n m low high, fun k ne => State.mark_setMark_ne s n k m ne⟩

/-! ## The obligation -/

/-- Settles O34: each clause is one judgement of a body carried through the port, with the refusals of SET MARK read off the mark that its arguments give. -/
theorem marksSetAndCleared : Obligations.MarksSetAndCleared := by
  refine ⟨?config, ?busy, ?enter, ?setOutside, ?setTurned, ?setOk, ?clearOutside, ?clearOk, ?codes⟩
  case config => exact fun s a number config => ⟨exec_setMark_state a config, exec_clearMark_state number config⟩
  case busy =>
    intro s a number free test
    rw [exec_setMark, exec_clearMark, take_of_lineTest _ free test, take_of_lineTest _ free test]
    exact ⟨rfl, rfl⟩
  case enter => exact fun m prev edge enter occurred => (Mark.occurs_enter_iff enter).mp occurred
  case setOutside =>
    exact fun s a stage outside => exec_setMark_range stage fun m given => by simp [markOf_eq_none s outside] at given
  case setTurned =>
    refine fun s a stage turned => exec_setMark_range stage fun m given => ?_
    obtain ⟨c, act, re, -, -, -, -, -, rfl⟩ := markOf_eq_some_iff.mp given
    exact turned
  case setOk =>
    intro s a c act re stage low high counted condition action rearm upright
    have given : markOf a s = some (armedMark a c act re s) :=
      markOf_eq_some_iff.mpr ⟨c, act, re, condition, action, rearm, ⟨low, high⟩, counted, rfl⟩
    exact exec_answered_writes_one_mark low high (exec_setMark_set stage given upright)
  case clearOutside =>
    exact fun s number stage outside => exec_clearMark_range stage fun ⟨low, high⟩ => by bv_omega
  case clearOk =>
    exact fun s number stage low high => exec_answered_writes_one_mark low high (exec_clearMark_disarm stage ⟨low, high⟩)
  case codes =>
    exact fun code => ⟨markConditionOfCode_eq_ite code, markActionOfCode_eq_ite code, markRearmOfCode_eq_ite code⟩

end Sys2Proof.Machine

/-! PROOF. READ NOTICE (R192): a command that a line test serves, the two judgements of the body, and the removal of the oldest notice with what becomes of ATTN and the overflow flag. -/

namespace Sys2Proof.Machine

/-! ## A command served during a line test (R188) -/

/-- A free port runs the body of a command that a line test serves on an emptied response buffer, and what the body answers is the answer that the port holds afterwards. -/
theorem take_served_eq_answered {s t : State} {body : State → Body} {st : Status} {d : Reply}
    (free : PortFree s) (judged : body (s.setResponse none) = answer st d (t.setResponse none)) :
    take true body s = t.answered st d := by
  obtain ⟨high, noStep⟩ := free
  calc take true body s = process true body s := by simp [take, Port.ready, high, noStep]
    _ = (t.setResponse none).setResponse (some ⟨st, d⟩) := by simp [process, judged, answer]
    _ = t.answered st d := rfl

/-! ## The notice queue written (R191) -/

/-- The notice queue and the overflow flag replaced. -/
def State.setNotices (s : State) (notices : List Notice) (overflow : Bool) : State :=
  s.setPort { s.port with notices := notices, overflow := overflow }

theorem State.setNotices_setResponse (s : State) (notices : List Notice) (overflow : Bool) (r : Option Response) :
    (s.setResponse r).setNotices notices overflow = (s.setNotices notices overflow).setResponse r := rfl

theorem State.setNotices_overflow (s : State) (notices : List Notice) :
    s.setNotices notices s.port.overflow = s.setPort { s.port with notices := notices } := rfl

/-- ATTN follows the queue, and an answer does not touch it. -/
theorem State.answered_setNotices_attn (s : State) (notices : List Notice) (overflow : Bool) (st : Status) (d : Reply) :
    ((s.setNotices notices overflow).answered st d).attn = !notices.isEmpty := rfl

/-! ## The judgement of READ NOTICE (R192) -/

theorem exec_readNotice (s : State) : exec .readNotice s = .next (take true readNoticeBody s) := rfl

theorem readNoticeBody_empty {s : State} (empty : s.port.notices = []) : readNoticeBody s = answerPlain .none s := by
  simp [readNoticeBody, empty]

/-- The flag is answered as it stood, and outlives the removal only where a notice is left. -/
theorem readNoticeBody_oldest {s : State} {n : Notice} {rest : List Notice} (waiting : s.port.notices = n :: rest) :
    readNoticeBody s = answer .ok (.notice n rest.length s.port.overflow)
      (s.setNotices rest (s.port.overflow && !rest.isEmpty)) := by
  simp [readNoticeBody, waiting, State.setNotices]

theorem exec_readNotice_empty {s : State} (free : PortFree s) (empty : s.port.notices = []) :
    exec .readNotice s = .next (s.answered .none .empty) := by
  have judged := readNoticeBody_empty (s := s.setResponse none) empty
  rw [exec_readNotice, take_served_eq_answered free judged]

theorem exec_readNotice_oldest {s : State} {n : Notice} {rest : List Notice} (free : PortFree s)
    (waiting : s.port.notices = n :: rest) : exec .readNotice s =
      .next ((s.setNotices rest (s.port.overflow && !rest.isEmpty)).answered .ok
        (.notice n rest.length s.port.overflow)) := by
  have judged := readNoticeBody_oldest (s := s.setResponse none) waiting
  rw [State.setNotices_setResponse] at judged
  rw [exec_readNotice]
  exact congrArg _ (take_served_eq_answered free judged)

/-! ## The obligation -/

/-- Settles O17: the empty queue, and the one removal of the oldest notice read for a queue that keeps a notice and for one that it empties. -/
theorem readNoticeTakesOldest : Obligations.ReadNoticeTakesOldest := by
  refine ⟨fun s free empty => exec_readNotice_empty free empty, fun s n m rest free waiting => ?left,
    fun s n free last => ?emptied⟩
  case left =>
    have flagKept : (s.port.overflow && !(m :: rest).isEmpty) = s.port.overflow := by simp
    rw [exec_readNotice_oldest free waiting, flagKept, State.setNotices_overflow, List.length_cons]
  case emptied =>
    have flagCleared : (s.port.overflow && !([] : List Notice).isEmpty) = false := by simp
    have ran := exec_readNotice_oldest free last
    rw [flagCleared] at ran
    exact ⟨_, ran, State.answered_setNotices_attn s [] false _ _, rfl⟩

end Sys2Proof.Machine

/-! PROOF. What every operation keeps of the capacities, the orders and the records (R35, R47, R55, R76, R88, R105, R132, R154, R172, R181, R191, R194): a relation between two states, closed under composition, proved once for each shared operation. A field that a write does not touch goes through by its default. -/

namespace Sys2Proof.Machine

-- One proof after another: under the check's memory limit there is no room for a thread per proof.
set_option Elab.async false

/-! ## The relation -/

/-- Each invariant that one state has, the other has too. The relation composes, so that an operation keeps what its parts keep. -/
structure Keeps (s t : State) : Prop where
  queues : QueuesBounded s → QueuesBounded t := by exact fun h => ⟨h.notices, h.frames, h.queue, h.abort⟩
  overflow : OverflowGuarded s → OverflowGuarded t := by exact id
  markStop : OneMarkStop s → OneMarkStop t := by exact id
  stores : StoresBounded s → StoresBounded t := by exact fun h => ⟨h.cues, h.steps, h.records⟩
  cues : CuesOrdered s.cues → CuesOrdered t.cues := by exact id
  tables : TablesOrdered s → TablesOrdered t := by exact fun h => ⟨h.holds, h.windows⟩
  events : EventsOrdered s → EventsOrdered t := by exact id
  lines : LinesSettled s.out → LinesSettled t.out := by exact id
  records : RecordsHeld s → RecordsHeld t := by exact fun h => ⟨h.station, h.outputs, h.defaults, h.onset, h.running⟩

theorem Keeps.refl (s : State) : Keeps s s := ⟨id, id, id, id, id, id, id, id, id⟩

theorem Keeps.trans {s t u : State} (st : Keeps s t) (tu : Keeps t u) : Keeps s u :=
  ⟨tu.queues ∘ st.queues, tu.overflow ∘ st.overflow, tu.markStop ∘ st.markStop, tu.stores ∘ st.stores, tu.cues ∘ st.cues,
    tu.tables ∘ st.tables, tu.events ∘ st.events, tu.lines ∘ st.lines, tu.records ∘ st.records⟩

/-- A branch taken or not. -/
theorem Keeps.ite {c : Prop} [Decidable c] {s t u : State} (yes : c → Keeps s t) (no : ¬ c → Keeps s u) :
    Keeps s (if c then t else u) := by
  split
  · exact yes ‹_›
  · exact no ‹_›

/-- A fold keeps what each of its rounds keeps. -/
theorem Keeps.foldl {α : Type} {f : State → α → State} (round : ∀ s x, Keeps s (f s x)) (l : List α) (s : State) :
    Keeps s (l.foldl f s) := by
  induction l generalizing s with
  | nil => exact .refl s
  | cons x rest ih => exact (round s x).trans (ih _)

/-! ## Writes of one block -/

theorem keeps_setRef (s : State) (x : RefUnit) : Keeps s (s.setRef x) where

theorem keeps_setPosn (s : State) (x : Position) : Keeps s (s.setPosn x) where

theorem keeps_setOnset (s : State) (x : OnsetUnit) : Keeps s (s.setOnset x) where

theorem keeps_setMarks (s : State) (x : Vector Mark 4) : Keeps s (s.setMarks x) where

theorem keeps_setPending (s : State) (x : List Instr) : Keeps s (s.setPending x) where

theorem keeps_setResetnLow (s : State) (x : Bool) : Keeps s (s.setResetnLow x) where

theorem keeps_setResponse (s : State) (r : Option Response) : Keeps s (s.setResponse r) where

theorem keeps_setPlan (s : State) (x : PlanUnit) (steps : s.plan.steps.length ≤ 64 → x.steps.length ≤ 64) :
    Keeps s (s.setPlan x) where
  stores h := ⟨h.cues, steps h.steps, h.records⟩

theorem keeps_setLog (s : State) (x : TakeLog) (records : s.log.records.length ≤ 16 → x.records.length ≤ 16) :
    Keeps s (s.setLog x) where
  stores h := ⟨h.cues, h.steps, records h.records⟩

theorem keeps_setCues (s : State) (x : List CueRec) (length : s.cues.length ≤ 256 → x.length ≤ 256)
    (order : CuesOrdered s.cues → CuesOrdered x) : Keeps s (s.setCues x) where
  stores h := ⟨length h.cues, h.steps, h.records⟩
  cues := order

/-- A write of the pass controller that leaves the window table as it stands. -/
theorem keeps_setPass (s : State) (x : PassCtl) (windows : x.windows = s.pass.windows := by rfl) : Keeps s (s.setPass x) where
  tables h := ⟨h.holds, windows ▸ h.windows⟩

theorem keeps_setWindows (s : State) (ws : List WindowEntry)
    (order : s.pass.windows.Pairwise (fun a b => a.address < b.address) → ws.Pairwise fun a b => a.address < b.address) :
    Keeps s (s.setWindows ws) where
  tables h := ⟨h.holds, order h.windows⟩

theorem keeps_setSched (s : State) (x : Scheduler)
    (order : EventsOrdered s → x.events.Pairwise fun a b => b.before a = false) : Keeps s (s.setSched x) where
  events := order

theorem keeps_setOut (s : State) (x : OutputUnits) (settled : LinesSettled s.out → LinesSettled x) : Keeps s (s.setOut x) where
  lines := settled

/-- A write of the agreement unit that leaves the pending list and the hold set as they stand. -/
theorem keeps_setAgr (s : State) (x : Agreement) (frames : x.frames = s.agr.frames := by rfl)
    (holds : x.holds = s.agr.holds := by rfl) :
    Keeps s (s.setAgr x) where
  queues h := ⟨h.notices, frames ▸ h.frames, h.queue, h.abort⟩
  tables h := ⟨holds ▸ h.holds, h.windows⟩

theorem keeps_setFrames (s : State) (l : List HeardFrame) (bounded : s.agr.frames.length ≤ 32 → l.length ≤ 32) :
    Keeps s (s.setAgr { s.agr with frames := l }) where
  queues h := ⟨h.notices, bounded h.frames, h.queue, h.abort⟩

theorem keeps_setHolds (s : State) (hs : List HoldEntry)
    (order : s.agr.holds.Pairwise (fun a b => a.address < b.address) → hs.Pairwise fun a b => a.address < b.address) :
    Keeps s (s.setAgr { s.agr with holds := hs }) where
  tables h := ⟨order h.holds, h.windows⟩

theorem keeps_setBus (s : State) (x : BusCtl) (queue : s.bus.queue.length ≤ 8 → x.queue.length ≤ 8)
    (abort : s.bus.abort ≤ 8 → x.abort ≤ 8)
    (marks : s.bus.queue.countP TxEntry.fromMark ≤ 1 → x.queue.countP TxEntry.fromMark ≤ 1) : Keeps s (s.setBus x) where
  queues h := ⟨h.notices, h.frames, queue h.queue, abort h.abort⟩
  markStop := marks

/-- A write of the bus controller that takes nothing into the queue. -/
theorem keeps_setBus_of_sublist (s : State) (x : BusCtl) (queue : x.queue.Sublist s.bus.queue)
    (abort : s.bus.abort ≤ 8 → x.abort ≤ 8) : Keeps s (s.setBus x) :=
  keeps_setBus s x (queue.length_le.trans ·) abort (queue.countP_le.trans ·)

/-! ## Posting and the transmit queue (R35, R36, R191) -/

theorem keeps_post (k : NoticeKind) (d : Nat) (s : State) : Keeps s (post k d s) where
  queues h := ⟨post_notices_bounded k d s h.notices, by simpa using h.frames, by simpa using h.queue, by simpa using h.abort⟩
  overflow _ _ := post_notices_ne_nil k d s
  markStop h := by simpa [OneMarkStop] using h
  stores h := ⟨by simpa using h.cues, by simpa using h.steps, by simpa using h.records⟩
  cues h := by simpa using h
  tables h := ⟨by simpa using h.holds, by simpa using h.windows⟩
  events h := by simpa [EventsOrdered] using h
  lines h := by simpa using h
  records h := ⟨by simpa using h.station, by simpa using h.outputs, by simpa using h.defaults, by simpa using h.onset,
    by simpa using h.running⟩

theorem dropNewest_sublist (test : TxEntry → Bool) (q : List TxEntry) : (dropNewest test q).Sublist q := by
  simpa [dropNewest] using (List.eraseP_sublist (p := test) (l := q.reverse)).reverse

/-- Admission brings at most the one new entry. -/
theorem admitTo_sublist (q : List TxEntry) (f : QueuedFrame) (m : Bool) :
    ((admitTo q f m).2).Sublist (q ++ [newEntry f m]) := by
  unfold admitTo
  split
  · exact (dropNewest_sublist _ q).append (.refl _)
  · split
    · exact (dropNewest_sublist _ q).append (.refl _)
    · split
      · exact .refl _
      · split
        · exact List.sublist_append_left _ _
        · split
          · exact (dropNewest_sublist _ q).append (.refl _)
          · exact List.sublist_append_left _ _

/-- An offer of the mark unit comes only where none of its frames stands (R181). -/
theorem keeps_offer (f : QueuedFrame) (m : Bool) (s : State) (one : m = true → s.markStopFlag = false) :
    Keeps s (offer f m s).2 := by
  have sub := admitTo_sublist s.bus.queue f m
  have marks : s.bus.queue.countP TxEntry.fromMark ≤ 1 → (admitTo s.bus.queue f m).2.countP TxEntry.fromMark ≤ 1 := by
    intro h
    have grown := sub.countP_le (p := TxEntry.fromMark)
    rw [List.countP_append] at grown
    cases m with
    | false => simpa [newEntry, TxEntry.fromMark] using grown.trans h
    | true =>
      have none : s.bus.queue.countP TxEntry.fromMark = 0 := by
        simpa [State.markStopFlag, List.countP_eq_zero] using one rfl
      exact grown.trans (by simp [none, newEntry])
  unfold offer
  split
  · exact keeps_setBus s _ (admitTo_bounded s.bus.queue f m) id marks
  · exact .refl s

theorem keeps_offerTagged (f : QueuedFrame) (m : Bool) (s : State) (one : m = true → s.markStopFlag = false) :
    Keeps s (offerTagged f m s) :=
  .ite (fun _ => (keeps_offer f m s one).trans (keeps_post _ _ _)) fun _ => keeps_offer f m s one

theorem keeps_offerInternal (f : QueuedFrame) (s : State) : Keeps s (offerInternal f s) := keeps_offerTagged f false s nofun

/-! ## Own-hold reasons (R58) -/

theorem keeps_setReasons (s : State) (r : OwnReasons) : Keeps s (s.setReasons r) := keeps_setAgr s _

theorem keeps_raiseReasons (r : OwnReasons) (s : State) : Keeps s (raiseReasons r s) :=
  .ite (fun _ => keeps_setReasons s r) fun _ => (keeps_setReasons s r).trans (keeps_offerInternal _ _)

theorem keeps_raiseLogFull (s : State) : Keeps s (raiseLogFull s) := .ite (fun _ => .refl s) fun _ => keeps_raiseReasons _ s

theorem keeps_raiseMark (s : State) : Keeps s (raiseMark s) := .ite (fun _ => .refl s) fun _ => keeps_raiseReasons _ s

theorem keeps_clearLogFull (s : State) : Keeps s (clearLogFull s) :=
  .ite (fun _ => .ite (fun _ => keeps_setReasons s _) fun _ => (keeps_setReasons s _).trans (keeps_offerInternal _ _))
    fun _ => .refl s

/-! ## The take log (R169 to R173) -/

theorem keeps_writeTake (f : TakeRec → TakeRec) (s : State) : Keeps s (writeTake f s) :=
  keeps_setLog s _ fun h => by simpa using h

theorem keeps_flagTakeSync (n : Nat) (s : State) : Keeps s (flagTakeSync n s) := keeps_setLog s _ fun h => by simpa using h

theorem keeps_landSlip (take : Option Nat) (counter : Nat) (s : State) : Keeps s (landSlip take counter s) := by
  cases take with
  | some n => exact keeps_flagTakeSync n s
  | none => exact .ite (fun _ => keeps_writeTake _ s) fun _ => keeps_flagTakeSync _ s

/-- A reservation is made in a free slot. -/
theorem keeps_reserveTake (w : OwnWindow) (s : State) (free : s.log.free = true) : Keeps s (reserveTake w s) := by
  have room : s.log.records.length < 16 := of_decide_eq_true free
  have appended := keeps_setLog s ⟨s.log.records ++ [newTake s w], nextTake s.log.counter⟩
    fun _ => by simpa using room
  exact .ite (fun _ => appended.trans (keeps_raiseLogFull _)) fun _ => appended

/-! ## The onset detector (R163 to R167) -/

theorem keeps_closeWindow (cue : Nat) (s : State) : Keeps s (closeWindow cue s) :=
  .ite (fun _ => .ite (fun _ => keeps_setOnset s _) fun _ => (keeps_setOnset s _).trans (keeps_writeTake _ _))
    fun _ => .refl s

theorem keeps_closeWindows (s : State) : Keeps s (closeWindows s) := .foldl (fun t c => keeps_closeWindow c t) _ s

theorem keeps_openWindows (s : State) : Keeps s (openWindows s) := by
  unfold openWindows
  split
  · exact .ite (fun _ => keeps_setOnset s _) fun _ => .refl s
  · exact .refl s

theorem keeps_trigger (s : State) : Keeps s (trigger s) := by
  unfold trigger
  split
  · exact (keeps_setOnset s _).trans (keeps_writeTake _ _)
  · exact .refl s

theorem keeps_arrive (value : Nat) (s : State) : Keeps s (arrive value s) := by
  refine .ite (fun _ => ?_) fun _ => .refl s
  unfold judgeSample
  split
  · exact .refl s
  · exact .ite (fun _ => keeps_setOnset s _) fun _ => .refl s
  · exact .ite (fun _ => keeps_trigger s) fun _ => .refl s

theorem keeps_levelPulse (s : State) (x : LevelPulse) : Keeps s (levelPulse s x) := by
  cases x with
  | sync => exact keeps_setOnset s _
  | clock b =>
    simp only [levelPulse]
    split
    · exact .refl s
    · exact .ite (fun _ => (keeps_setOnset s _).trans (keeps_arrive _ _)) fun _ => keeps_setOnset s _

/-! ## The event list (R132, R134 to R140) -/

/-- The order of the list is lexicographic (R132). -/
theorem Event.before_iff (a b : Event) : a.before b = true ↔ a.fire < b.fire ∨ a.fire = b.fire ∧
    (a.kind.rank < b.kind.rank ∨ a.kind.rank = b.kind.rank ∧
      (a.order < b.order ∨ a.order = b.order ∧ b.pip.getD 0 < a.pip.getD 0)) := by
  unfold Event.before
  split
  · simp; omega
  · split
    · simp; omega
    · split <;> simp <;> omega

/-- What stands nowhere behind x stands nowhere behind what goes before x. -/
theorem Event.not_before_of_before {e x y : Event} (ex : e.before x = true) (yx : y.before x = false) : y.before e = false := by
  rw [← Bool.not_eq_true, Event.before_iff] at yx ⊢
  rw [Event.before_iff] at ex
  omega

theorem Event.not_before_self (e : Event) : e.before e = false := by
  rw [← Bool.not_eq_true, Event.before_iff]; omega

theorem insertEvent_ordered (e : Event) (l : List Event) (h : l.Pairwise fun a b => b.before a = false) :
    (insertEvent e l).Pairwise fun a b => b.before a = false := by
  induction l with
  | nil => simp [insertEvent]
  | cons x rest ih =>
    obtain ⟨first, tail⟩ := List.pairwise_cons.1 h
    rw [insertEvent]
    split
    case isTrue ahead =>
      refine List.pairwise_cons.2 ⟨fun y hy => Event.not_before_of_before ahead ?_, h⟩
      rcases List.mem_cons.1 hy with rfl | hy
      · exact Event.not_before_self _
      · exact first y hy
    case isFalse behind =>
      refine List.pairwise_cons.2 ⟨fun y hy => ?_, ih tail⟩
      rcases (mem_insertEvent e y rest).1 hy with rfl | hy
      · simpa using behind
      · exact first y hy

theorem sortEvents_ordered (l : List Event) : (sortEvents l).Pairwise fun a b => b.before a = false := by
  induction l with
  | nil => exact .nil
  | cons e rest ih => exact insertEvent_ordered e _ ih

theorem keeps_recomputeAdvances (s : State) : Keeps s (recomputeAdvances s) := keeps_setSched s _ id

theorem keeps_takeRate (r : Nat) (s : State) : Keeps s (takeRate r s) :=
  (keeps_setPosn s _).trans (keeps_recomputeAdvances _)

theorem keeps_build (h : HeldSet) (s : State) : Keeps s (build h s) := by
  have built := keeps_setSched s { s.sched with events := keptEvents (heldEvents s h) s.sched.fired s.posn.p }
    fun _ => sortEvents_ordered _
  exact .ite (fun _ => built.trans (keeps_writeTake _ _)) fun _ => built

theorem keeps_requestBuild (s : State) : Keeps s (requestBuild s) := by
  have emptied := keeps_setSched s { s.sched with events := [] } fun _ => .nil
  unfold requestBuild
  split
  · exact .ite (fun _ => keeps_build _ s) fun _ => emptied
  · exact emptied

theorem keeps_emptyList (s : State) : Keeps s (emptyList s) := keeps_setSched s _ fun _ => .nil

theorem keeps_giveUpHeld (s : State) : Keeps s (giveUpHeld s) := keeps_setSched s _ fun _ => .nil

theorem keeps_handHeld (h : HeldSet) (s : State) : Keeps s (handHeld h s) :=
  (keeps_setSched s { s.sched with held := some h, fired := [] } id).trans (keeps_requestBuild _)

/-! ## The output units (R147 to R158) -/

theorem settleLines_settled (o : OutputUnits) : LinesSettled (settleLines o) where
  gate := rfl
  pitchLine := by
    show (decide (0 < o.pipCount) && decide (o.pitch = .accent)) =
      (decide (0 < o.pipCount) && decide ((if o.pipCount = 0 then Pitch.normal else o.pitch) = .accent))
    by_cases silent : o.pipCount = 0
    · simp [silent]
    · rw [if_neg silent]
  punch := rfl
  rest h := if_pos h

theorem restOutputs_settled (o : OutputUnits) : LinesSettled (restOutputs o) := ⟨rfl, rfl, rfl, fun _ => rfl⟩

/-- Seen past the outputs, an event reaches the detector and the take log alone. -/
theorem keeps_fireEvent (s : State) (e : Event) (o : OutputUnits) : Keeps (s.setOut o) ((fireEvent s e).setOut o) := by
  unfold fireEvent
  split
  case h_1 =>
    unfold fireStreamer
    split
    · exact .refl _
    · split
      · exact .refl _
      · exact keeps_writeTake _ (s.setOut o)
  case h_2 | h_3 | h_4 | h_5 => exact .refl _
  case h_6 | h_7 => exact keeps_writeTake _ (s.setOut o)
  case h_8 =>
    have past : (closeWindow e.cue s).setOut o = closeWindow e.cue (s.setOut o) := by
      unfold closeWindow
      split
      case isTrue open_ => exact (apply_ite (State.setOut · o) _ _ _).trans (if_pos open_).symm
      case isFalse shut => exact (if_neg shut).symm
    rw [past]
    exact keeps_closeWindow _ _

theorem keeps_fireEvents (l : List Event) (s : State) (o : OutputUnits) :
    Keeps (s.setOut o) ((l.foldl fireEvent s).setOut o) := by
  induction l generalizing s with
  | nil => exact .refl _
  | cons e rest ih => exact (keeps_fireEvent s e o).trans (ih _)

/-- The lines may be out of step with the counts inside a group, and are settled at its end. -/
theorem keeps_fireGroup (s : State) : Keeps s (fireGroup s) := by
  unfold fireGroup
  refine .ite (fun _ => .refl s) fun _ => ?_
  have dropped := keeps_setSched s { s.sched with
      events := s.sched.events.dropWhile fun e => decide (e.fire ≤ s.posn.p)
      fired := s.sched.fired ++ (dueEvents s).map Event.identity } fun ordered => ordered.sublist (List.dropWhile_sublist _)
  exact (dropped.trans (keeps_setOut _ _ fun _ => settleLines_settled _)).trans (keeps_fireEvents _ _ _)

theorem keeps_handAdvance (s : State) : Keeps s (handAdvance s) := (keeps_fireGroup s).trans (keeps_openWindows _)

theorem keeps_forceToRest (s : State) : Keeps s (forceToRest s) := keeps_setOut s _ fun _ => restOutputs_settled _

theorem keeps_compose (s : State) : Keeps s (compose s) := keeps_setOut s _ fun ⟨a, b, c, d⟩ => ⟨a, b, c, d⟩

theorem overlaySync_settled {o : OutputUnits} (h : LinesSettled o) : LinesSettled (overlaySync o) := by
  unfold overlaySync
  split
  · exact ⟨h.gate, h.pitchLine, h.punch, h.rest⟩
  · exact h

theorem overlayClock_settled {o : OutputUnits} (h : LinesSettled o) : LinesSettled (overlayClock o) := by
  unfold overlayClock
  split
  · exact h
  · exact ⟨h.gate, h.pitchLine, h.punch, h.rest⟩

/-! ## The plan unit (R91 to R101) -/

theorem keeps_planEndRun (s : State) : Keeps s (planEndRun s) := keeps_setPlan s _ id

theorem keeps_takeSearch (r : SearchResult) (s : State) : Keeps s (takeSearch r s) := by
  have skips : Keeps s (r.skipped.foldl (fun t id => post .planSkip id t) s) := .foldl (fun t id => keeps_post _ id t) _ s
  unfold takeSearch
  split <;> exact skips.trans (keeps_setPlan _ _ id)

theorem keeps_searchAnswer (pos : SearchPos) (s : State) : Keeps s (searchAnswer pos s).1 := keeps_takeSearch _ s

theorem keeps_planStart (s : State) : Keeps s (planStart s).1 :=
  (keeps_setPlan s { s.plan with stack := [] } id).trans (keeps_searchAnswer _ _)

theorem keeps_planSame (i : Nat) (s : State) : Keeps s (planSame i s).1 := by
  unfold planSame
  split
  · exact .refl s
  · exact (keeps_post _ _ s).trans (keeps_searchAnswer _ _)

theorem keeps_planAdvance (s : State) : Keeps s (planAdvance s).1 := by
  unfold planAdvance
  split
  · exact .refl s
  · have counted := keeps_setPlan s { s.plan with passesRemaining := s.plan.passesRemaining - 1 } id
    dsimp only
    split
    · exact counted.trans (keeps_searchAnswer _ _)
    · exact counted.trans (keeps_planSame _ _)

theorem keeps_planAgain (s : State) : Keeps s (planAgain s).1 := by
  unfold planAgain
  split
  · exact .refl s
  · exact keeps_planSame _ s

theorem keeps_planGiveUp (s : State) : Keeps s (planGiveUp s).1 := by
  unfold planGiveUp
  split
  · exact .refl s
  · exact (keeps_setPlan s { s.plan with passesRemaining := 0 } id).trans (keeps_searchAnswer _ _)

/-! ## Pins and preparation (R83, R104) -/

/-- A cue's place is decided by its start and its id, which a pin does not touch. -/
theorem cuesOrdered_map_pin (f : CueRec → Bool) {cues : List CueRec} (h : CuesOrdered cues) :
    CuesOrdered (cues.map fun c => { c with pinned := f c }) where
  order := List.pairwise_map.2 h.order
  unique := by rw [List.map_map]; exact h.unique

theorem keeps_pinSet (set : List Nat) (s : State) : Keeps s (pinSet set s) :=
  keeps_setCues s _ (fun h => by simpa using h) (cuesOrdered_map_pin _)

theorem keeps_prepare (a : PlanAnswer) (st : PassState) (s : State) : Keeps s (prepare a st s) :=
  ((keeps_pinSet a.set s).trans (keeps_setPass _ { s.pass with state := st, own := some (ownWindowOf (pinSet a.set s) a) })).trans
    (keeps_handHeld ⟨a.set, a.mode⟩ _)

theorem keeps_offerWindow (s : State) : Keeps s (offerWindow s) := by
  unfold offerWindow
  split
  · exact keeps_offerInternal _ s
  · exact .refl s

theorem keeps_giveUpPass (s : State) : Keeps s (giveUpPass s) :=
  ((keeps_pinSet [] s).trans (keeps_giveUpHeld _)).trans (keeps_setPass _ _)

theorem keeps_relabel (n : Nat) (s : State) : Keeps s (relabel n s) := keeps_setPass s _

/-! ## The window table (R105 to R108) -/

theorem pairwise_put {α : Type} (address : α → Nat) (e : α) {l : List α} (h : l.Pairwise fun a b => address a < address b) :
    (l.filter (fun w => decide (address w < address e)) ++ e :: l.filter (fun w => decide (address e < address w))).Pairwise
      fun a b => address a < address b := by
  refine List.pairwise_append.2 ⟨h.filter _, List.pairwise_cons.2 ⟨fun b hb => ?_, h.filter _⟩, fun a ha b hb => ?_⟩
  · simpa using (List.mem_filter.1 hb).2
  · have low : address a < address e := by simpa using (List.mem_filter.1 ha).2
    rcases List.mem_cons.1 hb with rfl | hb
    · exact low
    · exact low.trans (by simpa using (List.mem_filter.1 hb).2)

theorem keeps_applyWindow (a n c i o : Nat) (s : State) : Keeps s (applyWindow a n c i o s) :=
  keeps_setWindows s _ (pairwise_put WindowEntry.address _)

theorem keeps_dropWindow (a : Nat) (s : State) : Keeps s (dropWindow a s) := keeps_setWindows s _ (.filter _)

theorem keeps_markWindow (a n : Nat) (st : WindowStatus) (more : Bool) (s : State) : Keeps s (markWindow a n st more s) :=
  keeps_setWindows s _ fun h => List.pairwise_map.2 <| h.imp fun lt => by split <;> split <;> exact lt

theorem keeps_applyDone (a n : Nat) (oc : DoneOutcome) (more : Bool) (s : State) : Keeps s (applyDone a n oc more s) := by
  unfold applyDone
  split
  · exact .refl s
  · refine .ite (fun _ => .refl s) fun _ => ?_
    cases oc with
    | cleared => exact keeps_markWindow _ _ _ _ s
    | skipped => exact keeps_markWindow _ _ _ _ s
    | abandoned => exact keeps_dropWindow _ s

theorem keeps_pruneWindows (n : Nat) (s : State) : Keeps s (pruneWindows n s) := keeps_setWindows s _ (.filter _)

theorem keeps_idleBeacon (a : Nat) (s : State) : Keeps s (idleBeacon a s) := by
  unfold idleBeacon
  split
  · exact .ite (fun _ => keeps_markWindow _ _ _ _ s) fun _ => .refl s
  · exact .refl s

/-! ## The passes (R110 to R118) -/

theorem keeps_beginPass (w : OwnWindow) (s : State) (free : s.log.free = true) : Keeps s (beginPass w s) :=
  (((keeps_reserveTake w s free).trans (keeps_setPass _ { (reserveTake w s).pass with state := .inPass })).trans
    (keeps_requestBuild _)).trans (keeps_post _ _ _)

theorem keeps_skipPass (w : OwnWindow) (s : State) : Keeps s (skipPass w s) :=
  ((((keeps_post _ _ s).trans (keeps_emptyList _)).trans (keeps_offerInternal _ _)).trans (keeps_relabel _ _)).trans
    (keeps_offerWindow _)

theorem keeps_missRoll (w : OwnWindow) (s : State) : Keeps s (missRoll w s) :=
  .ite (fun _ => (keeps_emptyList s).trans (keeps_relabel _ _)) fun _ => keeps_emptyList s

theorem keeps_rollEntry (s : State) : Keeps s (rollEntry s) := by
  unfold rollEntry
  split
  · exact .ite (fun _ => .ite (keeps_beginPass _ s) fun _ => keeps_skipPass _ s) fun _ => keeps_missRoll _ s
  · exact .refl s

theorem keeps_closeTake (o : TakeOutcome) (s : State) : Keeps s (closeTake o s) := keeps_writeTake _ s

theorem keeps_clearPass (s : State) : Keeps s (clearPass s) := by
  have closed : Keeps s (post .takeReady (currentTake s) (post .passCleared (currentTake s)
      (closeTake .complete (closeWindows s)))) :=
    (((keeps_closeWindows s).trans (keeps_closeTake _ _)).trans (keeps_post _ _ _)).trans (keeps_post _ _ _)
  have answered := closed.trans (keeps_planAdvance _)
  unfold clearPass
  dsimp only
  split
  case h_1 s2 a eq =>
    rw [eq] at answered
    exact ((((answered.trans (keeps_prepare a .cleared s2)).trans (keeps_setPass _ _)).trans
      (keeps_offerInternal _ _))).trans (keeps_offerWindow _)
  case h_2 s2 eq =>
    rw [eq] at answered
    exact ((((answered.trans (keeps_pinSet [] s2)).trans (keeps_giveUpHeld _)).trans (keeps_post _ _ _)).trans
      (keeps_setPass _ _)).trans (keeps_offerInternal _ _)

theorem keeps_clearingTest (s : State) : Keeps s (clearingTest s) := .ite (fun _ => keeps_clearPass s) fun _ => .refl s

theorem keeps_endClosureCount (s : State) : Keeps s (endClosureCount s) := keeps_setPass s _

theorem keeps_abandonPass (s : State) : Keeps s (abandonPass s) := by
  have closed : Keeps s (emptyList (forceToRest (post .passAbandoned (currentTake s) (closeTake .abandoned (closeWindows s))))) :=
    ((((keeps_closeWindows s).trans (keeps_closeTake _ _)).trans (keeps_post _ _ _)).trans (keeps_forceToRest _)).trans
      (keeps_emptyList _)
  have answered := closed.trans (keeps_planAgain _)
  unfold abandonPass
  dsimp only
  split
  case h_1 s2 a eq =>
    rw [eq] at answered
    exact (answered.trans (keeps_prepare a .standby s2)).trans (keeps_offerWindow _)
  case h_2 s2 eq =>
    rw [eq] at answered
    exact ((answered.trans (keeps_giveUpPass s2)).trans (keeps_post _ _ _)).trans (keeps_offerInternal _ _)

theorem keeps_leaveCleared (s : State) : Keeps s (leaveCleared s) := by
  unfold leaveCleared
  split <;> exact keeps_setPass s _

theorem keeps_passStop (s : State) : Keeps s (passStop s) := by
  unfold passStop
  split
  · exact keeps_abandonPass s
  · exact keeps_leaveCleared s
  · exact .refl s
  · exact .refl s

theorem keeps_passLocate (s : State) : Keeps s (passLocate s) := by
  unfold passLocate
  split
  · exact keeps_abandonPass s
  · exact (keeps_leaveCleared s).trans (keeps_relabel _ _)
  · exact keeps_relabel _ s
  · exact .refl s

theorem keeps_reLocate (t : Nat) (s : State) : Keeps s (reLocate t s) := by
  unfold reLocate
  split
  · exact .ite (fun _ => keeps_offerInternal _ s) fun _ => .refl s
  · exact .refl s

theorem keeps_ownEntryMaintenance (s : State) : Keeps s (ownEntryMaintenance s) := by
  unfold ownEntryMaintenance
  split
  · exact .ite (fun _ => .refl s) fun _ => keeps_offerInternal _ s
  · exact .refl s

theorem keeps_closureTest (s : State) : Keeps s (closureTest s) :=
  .ite
    (fun _ => .ite (fun _ => (keeps_setPass s _).trans (keeps_offerInternal _ _)) fun _ => keeps_setPass s _)
    fun _ => keeps_setPass s _

/-! ## The marks (R178 to R181) -/

theorem keeps_setMark (s : State) (n : Nat) (m : Mark) : Keeps s (s.setMark n m) :=
  .ite (fun _ => .refl s) fun _ => keeps_setMarks s _

theorem keeps_markAction (offered : Bool) (a : MarkAction) (s : State) : Keeps s (markAction offered a s) := by
  cases a with
  | notice => exact .refl s
  | hold => exact keeps_raiseMark s
  | stop =>
    exact .ite (fun _ => .refl s) fun free => keeps_offerTagged _ true s fun _ => by
      simpa using (Bool.or_eq_false_iff.1 (Bool.eq_false_iff.2 free)).2

theorem keeps_fireMark (offered : Bool) (n : Nat) (s : State) : Keeps s (fireMark offered n s) :=
  ((keeps_post _ _ s).trans (keeps_markAction _ _ _)).trans (keeps_setMark _ _ _)

theorem keeps_judgeMark (prev edge : Nat) (offered : Bool) (s : State) (n : Nat) : Keeps s (judgeMark prev edge offered s n) :=
  .ite (fun _ => keeps_fireMark _ _ s) fun _ => .ite (fun _ => keeps_setMark s _ _) fun _ => .refl s

theorem keeps_judgeMarks (pair : Option (Nat × Nat)) (s : State) : Keeps s (judgeMarks pair s) := by
  cases pair with
  | none => exact .refl s
  | some pair => exact .foldl (fun t n => keeps_judgeMark _ _ _ t n) _ s

/-! ## The agreement unit (R17 to R20, R48 to R66) -/

theorem keeps_leaveRolling (t : Transport) (s : State) : Keeps s (leaveRolling t s) :=
  ((keeps_setAgr s { s.agr with transport := t, rollFresh := false }).trans (keeps_forceToRest _)).trans
    (keeps_endClosureCount _)

theorem keeps_localStop (s : State) : Keeps s (localStop s) := (keeps_leaveRolling _ s).trans (keeps_passStop _)

theorem keeps_edgeAdvance (s : State) : Keeps s (edgeAdvance s) := by
  refine .ite (fun _ => ?_) fun _ => keeps_setPosn s _
  have moved : Keeps s ((s.setAgr { s.agr with rollFresh := false }).setPosn
      { s.posn with pPrev := s.posn.pEdge, pEdge := edgeTarget s, p := edgeTarget s, acc := 0 }) :=
    (keeps_setAgr s _).trans (keeps_setPosn _ _)
  have handed := Keeps.ite (c := s.posn.p ≠ edgeTarget s) (fun _ => moved.trans (keeps_handAdvance _)) fun _ => moved
  exact .ite (fun _ => handed.trans (keeps_localStop _)) fun _ => handed

theorem keeps_tickAdvance (s : State) : Keeps s (tickAdvance s) :=
  .ite
    (fun _ => .ite (fun _ => keeps_setPosn s _) fun _ => (keeps_setPosn s _).trans (keeps_handAdvance _))
    fun _ => .refl s

theorem keeps_writePosition (x : Nat) (s : State) : Keeps s (writePosition x s) := keeps_setPosn s _

theorem keeps_dropHold (a : Nat) (s : State) : Keeps s (dropHold a s) := keeps_setHolds s _ (.filter _)

theorem keeps_setSlot (s : State) (a : Nat) (x : PeerSlot) : Keeps s (s.setSlot a x) := by
  unfold State.setSlot Agreement.setSlot
  split
  · exact .refl s
  · exact keeps_setAgr s _

theorem keeps_presenceUpdate (f : BusFrame) (s : State) : Keeps s (presenceUpdate f s) :=
  .ite
    (fun _ => .ite
      (fun _ => .ite (fun _ => keeps_setSlot s _ _) fun _ => (keeps_setSlot s _ _).trans (keeps_post _ _ _))
      fun _ => .ite (fun _ => keeps_setSlot s _ _) fun _ =>
        (((keeps_setSlot s _ _).trans (keeps_dropHold _ _)).trans (keeps_dropWindow _ _)).trans (keeps_post _ _ _))
    fun _ => .ite (fun _ => (keeps_setSlot s _ _).trans (keeps_post _ _ _)) fun _ => keeps_setSlot s _ _

theorem keeps_takeGeneration (g : Nat) (s : State) : Keeps s (takeGeneration g s) := keeps_setAgr s _

theorem keeps_anchorAtRest (g : Nat) (rolling : Bool) (r p : Nat) (s : State) : Keeps s (anchorAtRest g rolling r p s) := by
  have taken := ((keeps_takeGeneration g s).trans (keeps_writePosition p _)).trans (keeps_takeRate r _)
  refine Keeps.trans (.ite (fun _ => ?_) fun _ => ?_) (keeps_requestBuild _)
  · exact (taken.trans (keeps_setAgr _ _)).trans (keeps_rollEntry _)
  · exact (taken.trans (keeps_setAgr _ _)).trans (keeps_passStop _)

theorem keeps_anchorAtRoll (g : Nat) (rolling : Bool) (r : Nat) (s : State) : Keeps s (anchorAtRoll g rolling r s) := by
  have taken := (keeps_takeGeneration g s).trans (keeps_takeRate r _)
  have built := Keeps.ite (c := (takeRate r (takeGeneration g s)).posn.rate = s.posn.rate) (fun _ => taken)
    fun _ => taken.trans (keeps_requestBuild _)
  exact .ite (fun _ => built) fun _ => (built.trans (keeps_leaveRolling _ _)).trans (keeps_passStop _)

theorem keeps_takeLocate (g : Nat) (closure play : Bool) (r st n t : Nat) (s : State) :
    Keeps s (takeLocate g closure play r st n t s) := by
  have left := Keeps.ite (c := s.agr.transport = .rolling) (fun _ => keeps_leaveRolling .cueing s) fun _ => .refl s
  exact (((left.trans (keeps_takeGeneration g _)).trans (keeps_writePosition t _)).trans (keeps_takeRate r _)).trans
    (keeps_setAgr _ _)

theorem keeps_applyLocate (g : Nat) (closure play : Bool) (r st n t : Nat) (s : State) :
    Keeps s (applyLocate g closure play r st n t s) := by
  refine .ite (fun _ => .refl s) fun _ => Keeps.trans ?_ (keeps_requestBuild _)
  have located := ((keeps_takeLocate g closure play r st n t s).trans (keeps_pruneWindows n _)).trans (keeps_passLocate _)
  exact .ite (fun _ => located.trans (keeps_reLocate _ _)) fun _ => located

theorem keeps_applyHold (a lease reason : Nat) (s : State) : Keeps s (applyHold a lease reason s) :=
  keeps_setHolds s _ (pairwise_put HoldEntry.address _)

theorem keeps_adopt (t : Transport) (g n r p : Nat) (s : State) : Keeps s (adopt t g n r p s) := by
  have taken := (((keeps_takeGeneration g s).trans (keeps_takeRate r _))).trans
    (keeps_writePosition (if t = .rolling then p + (takeRate r (takeGeneration g s)).posn.rate else p) _)
  refine Keeps.trans (.ite (fun _ => ?_) fun _ => ?_) (keeps_requestBuild _)
  · exact (taken.trans (keeps_setAgr _ _)).trans (keeps_rollEntry _)
  · exact taken.trans (keeps_setAgr _ _)

theorem keeps_slipCheck (k : SlipRef) (a g p : Nat) (s : State) : Keeps s (slipCheck k a g p s) :=
  .ite (fun _ => (keeps_post _ _ s).trans (keeps_landSlip _ _ _)) fun _ => .refl s

theorem keeps_applyBeacon (k : SlipRef) (a rc : Nat) (t : Transport) (ps : PassState) (g n r p : Nat) (s : State) :
    Keeps s (applyBeacon k a rc t ps g n r p s) := by
  refine .ite (fun _ => .refl s) fun _ => ?_
  have recorded := keeps_setSlot s a { s.agr.slot a with lastBeacon := some ⟨rc, t, g, n, ps, clampRate r, s.clampPos p⟩ }
  refine .ite (fun _ => ?_) fun _ => recorded
  have idled := Keeps.ite (c := ps = .idle) (fun _ => recorded.trans (keeps_idleBeacon a _)) fun _ => recorded
  exact .ite (fun _ => idled.trans (keeps_adopt _ _ _ _ _ _)) fun _ => idled.trans (keeps_slipCheck _ _ _ _ _)

theorem keeps_applyPayload (k : SlipRef) (a : Nat) (x : Payload) (s : State) : Keeps s (applyPayload k a x s) := by
  cases x with
  | anchor g rolling r p =>
    exact .ite (fun _ => keeps_anchorAtRoll g rolling r s) fun _ => keeps_anchorAtRest g rolling r p s
  | locate g closure play r st n t => exact keeps_applyLocate g closure play r st n t s
  | hold lease reason => exact keeps_applyHold a lease reason s
  | release => exact keeps_dropHold a s
  | window n c i o => exact keeps_applyWindow a n c i o s
  | done n oc more => exact keeps_applyDone a n oc more s
  | beacon rc t ps g n r p => exact keeps_applyBeacon k a rc t ps g n r p s
  | test n => exact .refl s

theorem keeps_applyFrame (k : SlipRef) (s : State) (h : HeardFrame) : Keeps s (applyFrame k s h) := by
  have updated := Keeps.ite (c := h.echo = true) (fun _ => .refl s) fun _ => keeps_presenceUpdate h.frame s
  refine .ite (fun _ => updated) fun _ => ?_
  split
  · exact updated.trans (keeps_applyPayload _ _ _ _)
  · exact updated

theorem keeps_applyFrames (before s : State) : Keeps s (applyFrames before s) :=
  (keeps_setFrames s [] fun _ => Nat.zero_le _).trans (.foldl (keeps_applyFrame _) _ _)

theorem holdCount_address {h h' : HoldEntry} (counted : h.count = some h') : h'.address = h.address := by
  unfold HoldEntry.count at counted
  split at counted
  · cases counted; rfl
  · split at counted
    · cases counted
    · cases counted; rfl

theorem keeps_countLeases (s : State) : Keeps s (countLeases s) := by
  have counted := keeps_setHolds s (s.agr.holds.filterMap HoldEntry.count) fun h =>
    h.filterMap _ fun a b lt a' ha b' hb => by rwa [holdCount_address ha, holdCount_address hb]
  exact .ite (fun _ => counted.trans (keeps_post _ _ _)) fun _ => counted

theorem keeps_ownHoldMaintenance (s : State) : Keeps s (ownHoldMaintenance s) :=
  .ite (fun _ => .ite (fun _ => .refl s) fun _ => keeps_offerInternal _ s)
    fun _ => .ite (fun _ => keeps_offerInternal _ s) fun _ => .refl s

theorem keeps_losePeer (a : Nat) (s : State) : Keeps s (losePeer a s) :=
  (((keeps_setSlot s _ _).trans (keeps_dropHold _ _)).trans (keeps_dropWindow _ _)).trans (keeps_post _ _ _)

theorem keeps_presenceStep (s : State) : Keeps s (presenceStep s) :=
  .foldl (fun t a => .ite (fun _ => .refl t) fun _ => .ite (fun _ => keeps_losePeer a t) fun _ => keeps_setSlot t _ _) _ s

theorem keeps_settleStep (s : State) : Keeps s (settleStep s) := .ite (fun _ => keeps_setAgr s _) fun _ => .refl s

theorem keeps_rollStep (s : State) : Keeps s (rollStep s) := by
  unfold rollStep
  split
  · exact .ite (fun _ => .ite (fun _ => (keeps_setAgr s _).trans (keeps_rollEntry _)) fun _ => .refl s)
      fun _ => keeps_setAgr s _
  · exact .refl s

theorem keeps_offerBeacon (s : State) : Keeps s (offerBeacon s) :=
  (keeps_setAgr s { s.agr with beaconCountdown := s.station.beaconInterval }).trans (keeps_offerInternal _ _)

theorem keeps_beaconStep (s : State) : Keeps s (beaconStep s) :=
  .ite (fun _ => keeps_offerBeacon s) fun _ => keeps_setAgr s _

theorem keeps_linkUp (s : State) : Keeps s (linkUp s) :=
  ((keeps_setBus_of_sublist s { s.bus with link := .active, listeningCount := 0 } (.refl _) id).trans
    (keeps_setAgr _ { s.agr with join := .settled })).trans (keeps_offerBeacon _)

theorem keeps_listeningStep (s : State) : Keeps s (listeningStep s) :=
  .ite (fun _ => .ite (fun _ => keeps_linkUp s) fun _ => keeps_setBus_of_sublist s _ (.refl _) id) fun _ => .refl s

theorem keeps_agreementSteps (before s : State) : Keeps s (agreementSteps before s) :=
  ((((((keeps_applyFrames before s).trans (keeps_countLeases _)).trans (keeps_ownHoldMaintenance _)).trans
    (keeps_presenceStep _)).trans (keeps_settleStep _)).trans (keeps_rollStep _)).trans (keeps_beaconStep _)

theorem keeps_frameEdge (s : State) : Keeps s (frameEdge s) :=
  (((((((keeps_edgeAdvance s).trans (keeps_agreementSteps s _)).trans (keeps_listeningStep _)).trans
    (keeps_clearingTest _)).trans (keeps_ownEntryMaintenance _)).trans (keeps_closureTest _)).trans
      (keeps_judgeMarks _ _)).trans (keeps_compose _)

/-! ## The reference unit (R1 to R12) -/

theorem keeps_candidateEdge (x : Nat) (s : State) : Keeps s (candidateEdge x s) := by
  have plain : ∀ u, Keeps s (frameEdge (s.setRef u)) := fun u => (keeps_setRef s u).trans (keeps_frameEdge _)
  unfold candidateEdge
  split
  · exact .ite (fun _ => ((keeps_setRef s _).trans (keeps_post _ _ _)).trans (keeps_frameEdge _)) fun _ => plain _
  · exact plain _
  · exact .ite (fun _ => plain _) fun _ => ((keeps_setRef s _).trans (keeps_writeTake _ _)).trans (keeps_frameEdge _)
  · exact .ite (fun _ => keeps_setRef s _) fun _ => plain _
  · exact plain _

/-! ## The stage bus (R27 to R44) -/

theorem keeps_handOn (f : BusFrame) (echo : Bool) (s : State) : Keeps s (handOn f echo s) :=
  .ite (fun room => keeps_setFrames s _ fun _ => by simpa using room)
    fun _ => (keeps_post _ _ s).trans (keeps_writeTake _ _)

theorem keeps_addressClash (s : State) : Keeps s (addressClash s) := by
  refine .ite (fun _ => .refl s) fun _ => Keeps.trans ?_ (keeps_post _ _ _)
  exact (keeps_setBus_of_sublist s { s.bus with link := .listenOnly, queue := [] } (List.nil_sublist _) id).trans
    (keeps_setAgr _ _)

theorem keeps_foreignFrame (f : BusFrame) (s : State) : Keeps s (foreignFrame f s) := by
  unfold foreignFrame
  split
  case h_1 | h_2 | h_3 =>
    exact .ite (fun _ => .refl s) fun _ => .ite (fun _ => keeps_addressClash s) fun _ => keeps_handOn f false s
  case h_4 | h_5 => exact .refl s

theorem keeps_received (outcomes : List RxOutcome) (s : State) : Keeps s (received outcomes s) :=
  .foldl (fun t o => by cases o with
    | complete f => exact keeps_foreignFrame f t
    | discard => exact .refl t) _ s

theorem keeps_endTest (r : TestResult) (s : State) : Keeps s (endTest r s) :=
  keeps_setBus_of_sublist s _ (.refl _) fun _ => Nat.zero_le _

theorem keeps_testGoesOn (t : LineTest) (rx : Receiver) (line : List Bool) (s : State) : Keeps s (testGoesOn t rx line s) := by
  refine .ite (fun _ => .ite (fun _ => keeps_endTest _ s) fun _ => keeps_setBus_of_sublist s _ (.refl _) id) fun _ => ?_
  split
  · exact keeps_setBus_of_sublist s _ (.refl _) id
  · exact keeps_endTest _ s

theorem keeps_hear (line : List Bool) (s : State) : Keeps s (hear line s) := by
  have moved := keeps_setBus_of_sublist s
    { s.bus with rx := (runRx s.bus.rx line).1, abort := s.bus.abort - line.length } (.refl _) (Nat.sub_le_of_le_add <| Nat.le_add_right_of_le ·)
  unfold hear
  dsimp only
  split
  · exact moved.trans (keeps_testGoesOn _ _ _ _)
  · exact moved

theorem keeps_judgeTestFrame (good : Bool) (after : List Bool) (t : LineTest) (s : State) :
    Keeps s (judgeTestFrame good after t s) :=
  .ite
    (fun _ => (keeps_setBus_of_sublist s { s.bus with sending := none, rx := (runRx ⟨8, none⟩ after).1, abort := 0 }
      (.refl _) fun _ => Nat.zero_le _).trans (keeps_testGoesOn _ _ _ _))
    fun _ => (keeps_setBus_of_sublist s (beginAbort after s.bus) (.refl _) fun _ => Nat.sub_le _ _).trans
      (keeps_testGoesOn _ _ _ _)

theorem keeps_testFrameBits (line : List Bool) (t : LineTest) (s : State) : Keeps s (testFrameBits line t s) := by
  unfold testFrameBits
  dsimp only
  split
  · exact keeps_judgeTestFrame _ _ t s
  · exact keeps_judgeTestFrame _ _ t s
  · refine Keeps.trans ?_ (keeps_testGoesOn _ _ _ _)
    exact keeps_setBus_of_sublist s _ (.refl _) fun _ => Nat.zero_le _
  · exact .ite (fun _ => keeps_setBus_of_sublist s _ (.refl _) fun _ => Nat.zero_le _) fun _ => .refl s

/-- Marking an entry moves no entry and no tag. -/
theorem markChosen_fromMark (cls : Nat) (q : List TxEntry) :
    (markChosen cls q).map TxEntry.fromMark = q.map TxEntry.fromMark := by
  induction q with
  | nil => rfl
  | cons e rest ih =>
    rw [markChosen]
    split
    · rfl
    · rw [List.map_cons, ih, List.map_cons]

/-- A queue whose entries keep their tags is a queue of the same length with as many frames of the mark unit. -/
theorem keeps_setBus_of_tags (s : State) (x : BusCtl) (tags : x.queue.map TxEntry.fromMark = s.bus.queue.map TxEntry.fromMark)
    (abort : s.bus.abort ≤ 8 → x.abort ≤ 8) : Keeps s (s.setBus x) := by
  have length : x.queue.length = s.bus.queue.length := by simpa using congrArg List.length tags
  have count : x.queue.countP TxEntry.fromMark = s.bus.queue.countP TxEntry.fromMark := by
    have counted := congrArg (List.countP id) tags
    rwa [List.countP_map, List.countP_map] at counted
  exact keeps_setBus s x (length ▸ ·) abort (count ▸ ·)

theorem unmarkOnLine_fromMark (retry : Bool) (b : BusCtl) :
    (unmarkOnLine retry b).queue.map TxEntry.fromMark = b.queue.map TxEntry.fromMark := by
  unfold unmarkOnLine
  rw [List.map_map]
  exact List.map_congr_left fun e _ => by simp only [Function.comp]; split <;> rfl

theorem keeps_entryBitError (after : List Bool) (s : State) : Keeps s (entryBitError after s) := by
  refine Keeps.trans (.ite (fun _ => ?_) fun _ => ?_) (keeps_received _ _)
  · exact keeps_setBus_of_tags s _ (unmarkOnLine_fromMark true s.bus) fun _ => Nat.sub_le _ _
  · exact (keeps_setBus_of_sublist s (beginAbort after (dropOnLine s.bus)) List.filter_sublist
      fun _ => Nat.sub_le _ _).trans (keeps_post _ _ _)

theorem keeps_echoComplete (f : BusFrame) (after : List Bool) (s : State) : Keeps s (echoComplete f after s) :=
  ((keeps_setBus_of_sublist s { dropOnLine s.bus with rx := (runRx ⟨8, none⟩ after).1 } List.filter_sublist id).trans
    (keeps_handOn _ _ _)).trans (keeps_received _ _)

/-! ## The resets and START (R196 to R198) -/

theorem keeps_fullReset (s : State) : Keeps s (fullReset s) where
  queues _ := ⟨Nat.zero_le _, Nat.zero_le _, Nat.zero_le _, Nat.zero_le _⟩
  overflow _ := nofun
  markStop _ := Nat.zero_le _
  stores _ := ⟨Nat.zero_le _, Nat.zero_le _, Nat.zero_le _⟩
  cues _ := ⟨.nil, .nil⟩
  tables _ := ⟨.nil, .nil⟩
  events _ := .nil
  lines _ := ⟨rfl, rfl, rfl, fun _ => rfl⟩
  records _ := ⟨nofun, nofun, nofun, nofun, nofun⟩

/-- The part runs with the records that START found. -/
theorem keeps_startValues (s : State) (held : s.conf.onset.isSome = true) : Keeps s (startValues s) where
  queues h := ⟨h.notices, Nat.zero_le _, Nat.zero_le _, Nat.zero_le _⟩
  markStop _ := Nat.zero_le _
  stores _ := ⟨Nat.zero_le _, Nat.zero_le _, Nat.zero_le _⟩
  cues _ := ⟨.nil, .nil⟩
  tables _ := ⟨.nil, .nil⟩
  events _ := .nil
  lines _ := ⟨rfl, rfl, rfl, fun _ => rfl⟩
  records h := ⟨h.station, h.outputs, h.defaults, h.onset, fun _ => held⟩

theorem keeps_rejoinValues (s : State) : Keeps s (rejoinValues s) where
  queues _ := ⟨Nat.zero_le _, Nat.zero_le _, Nat.zero_le _, Nat.zero_le _⟩
  overflow _ := nofun
  markStop _ := Nat.zero_le _
  stores h := ⟨by simpa [rejoinValues] using h.cues, Nat.zero_le _, Nat.zero_le _⟩
  cues := cuesOrdered_map_pin _
  tables _ := ⟨.nil, .nil⟩
  events _ := .nil
  lines _ := ⟨rfl, rfl, rfl, fun _ => rfl⟩

/-! ## The commands of the console (R189) -/

/-- The records counted are held. -/
theorem Conf.isSome_of_held (c : Conf) : (1 ≤ c.held → c.timing.isSome = true) ∧ (2 ≤ c.held → c.station.isSome = true) ∧
    (3 ≤ c.held → c.outputs.isSome = true) ∧ (4 ≤ c.held → c.defaults.isSome = true) ∧
    (5 ≤ c.held → c.onset.isSome = true) := by
  unfold Conf.held
  split_ifs <;> simp_all [Option.isSome_iff_ne_none]

/-- A branch of a command body taken or not. -/
theorem Keeps.iteBody {c : Prop} [Decidable c] {s : State} {a b : Body} (yes : c → Keeps s a.1) (no : ¬ c → Keeps s b.1) :
    Keeps s (if c then a else b).1 := by
  split
  · exact yes ‹_›
  · exact no ‹_›

theorem keeps_setConf (s : State) (x : Conf) (config : s.port.part = .config)
    (station : x.station.isSome = true → x.timing.isSome = true) (outputs : x.outputs.isSome = true → x.station.isSome = true)
    (defaults : x.defaults.isSome = true → x.outputs.isSome = true) (onset : x.onset.isSome = true → x.defaults.isSome = true) :
    Keeps s (s.setConf x) where
  records _ := ⟨station, outputs, defaults, onset, fun running => by simp [config] at running⟩

/-- A record is written in its turn: the one before it is held. -/
theorem keeps_writeRecord {s : State} {r : ConfigRecord} {k : Nat} {c : Conf} {clamped : Bool}
    (config : s.port.part = .config) (place : recordPlace r = some k) (turn : k ≤ s.conf.held + 1)
    (written : writeRecord s.conf r = some (c, clamped)) : Keeps s (s.setConf c) := by
  obtain ⟨timing, station, outputs, defaults, -⟩ := s.conf.isSome_of_held
  cases r with
  | timing rate div src bus =>
    obtain ⟨r, -, same⟩ := Option.map_eq_some_iff.1 written
    cases same
    exact keeps_setConf s _ config (fun h => by cases h) (fun h => by cases h) (fun h => by cases h) (fun h => by cases h)
  | station a b h g st t =>
    cases place
    obtain ⟨-, same⟩ := Option.ite_none_right_eq_some.1 written
    cases same
    exact keeps_setConf s _ config (fun _ => timing (by omega)) (fun h => by cases h) (fun h => by cases h) (fun h => by cases h)
  | outputs o p i q w l f x =>
    cases place
    obtain ⟨-, same⟩ := Option.ite_none_right_eq_some.1 written
    cases same
    exact keeps_setConf s _ config (fun _ => timing (by omega)) (fun _ => station (by omega)) (fun h => by cases h)
      (fun h => by cases h)
  | cueDefaults l b sp pre post hin hout =>
    cases place
    cases written
    exact keeps_setConf s _ config (fun _ => timing (by omega)) (fun _ => station (by omega)) (fun _ => outputs (by omega))
      (fun h => by cases h)
  | onset a t d e =>
    cases place
    cases written
    exact keeps_setConf s _ config (fun _ => timing (by omega)) (fun _ => station (by omega)) (fun _ => outputs (by omega))
      (fun _ => defaults (by omega))
  | other c => cases place

theorem part_config {s : State} (config : ¬ s.running = true) : s.port.part = .config := by
  cases part : s.port.part with
  | config => rfl
  | running => simp [State.running, part] at config

theorem keeps_configureBody (r : ConfigRecord) (s : State) : Keeps s (configureBody r s).1 := by
  refine .iteBody (fun _ => .refl s) fun config => ?_
  split
  · exact .refl s
  case h_2 k place =>
    refine .iteBody (fun _ => .refl s) fun turn => ?_
    split
    · exact .refl s
    case h_2 c clamped written => exact keeps_writeRecord (part_config config) place (Nat.not_lt.1 turn) written

theorem keeps_consoleOffer (f : QueuedFrame) (accept : State → Body) (s : State)
    (carried : ∀ t, Keeps t (accept t).1) : Keeps s (consoleOffer f accept s).1 := by
  unfold consoleOffer
  split
  · exact .refl s
  · exact (keeps_offer f false s nofun).trans (carried _)

theorem CueRec.before_iff (a b : CueRec) : a.before b = true ↔ a.s < b.s ∨ a.s = b.s ∧ a.id < b.id := by
  simp [CueRec.before]

theorem insertCue_perm (c : CueRec) (l : List CueRec) : (insertCue c l).Perm (c :: l) := by
  induction l with
  | nil => exact .refl _
  | cons x rest ih =>
    rw [insertCue]
    split
    · exact .refl _
    · exact (ih.cons x).trans (.swap c x rest)

/-- A record of a new id takes the place that the order gives it. -/
theorem cuesOrdered_insertCue {c : CueRec} {l : List CueRec} (h : CuesOrdered l) (new : c.id ∉ l.map CueRec.id) :
    CuesOrdered (insertCue c l) where
  unique := (List.nodup_cons.2 ⟨new, h.unique⟩).perm ((insertCue_perm c l).map CueRec.id).symm
  order := by
    replace h := h.order
    induction l with
    | nil => exact List.pairwise_singleton _ _
    | cons x rest ih =>
      obtain ⟨first, tail⟩ := List.pairwise_cons.1 h
      have apart : c.id ≠ x.id := fun e => new (by simp [e])
      rw [insertCue]
      split
      case isTrue ahead =>
        refine List.pairwise_cons.2 ⟨fun y hy => ?_, h⟩
        rcases List.mem_cons.1 hy with rfl | hy
        · exact ahead
        · have later := first y hy
          rw [CueRec.before_iff] at ahead later ⊢
          omega
      case isFalse behind =>
        refine List.pairwise_cons.2 ⟨fun y hy => ?_, ih (fun mem => new (List.mem_cons_of_mem _ mem)) tail⟩
        rcases List.mem_cons.1 ((insertCue_perm c rest).mem_iff.1 hy) with rfl | hy
        · rw [CueRec.before_iff] at behind ⊢
          omega
        · exact first y hy

theorem cuesOrdered_removeCue (id : Nat) {l : List CueRec} (h : CuesOrdered l) : CuesOrdered (removeCue id l) :=
  ⟨h.order.filter _, h.unique.sublist (List.filter_sublist.map _)⟩

theorem findCue_eq_none_iff {l : List CueRec} {id : Nat} : findCue l id = none ↔ id ∉ l.map CueRec.id := by
  simp [findCue]

theorem removeCue_absent (id : Nat) (l : List CueRec) : id ∉ (removeCue id l).map CueRec.id := by
  simp [removeCue]

theorem removeCue_length_lt {l : List CueRec} {id : Nat} {old : CueRec} (found : findCue l id = some old) :
    (removeCue id l).length < l.length := by
  refine List.length_filter_lt_length_iff_exists.2 ⟨old, List.mem_of_find?_eq_some found, ?_⟩
  simpa [findCue] using List.find?_some found

theorem storedCue_id (c : CueRec) : (storedCue c).id = c.id := by
  unfold storedCue
  split <;> rfl

theorem keeps_loadCueBody (a : CueArgs) (s : State) : Keeps s (loadCueBody a s).1 := by
  refine .iteBody (fun _ => .refl s) fun _ => .iteBody (fun _ => .refl s) fun _ => ?_
  split
  case h_1 absent =>
    refine .iteBody (fun _ => .refl s) fun room => keeps_setCues s _ (fun _ => ?_) fun h =>
      cuesOrdered_insertCue h (by rw [storedCue_id]; exact findCue_eq_none_iff.1 absent)
    rw [(insertCue_perm _ _).length_eq]
    simpa using room
  case h_2 old found =>
    refine .iteBody (fun _ => .refl s) fun _ => .iteBody (fun _ => .refl s) fun _ => keeps_setCues s _ (fun h => ?_) fun h =>
      cuesOrdered_insertCue (cuesOrdered_removeCue _ h) (by rw [storedCue_id]; exact removeCue_absent _ _)
    rw [(insertCue_perm _ _).length_eq, List.length_cons]
    exact (removeCue_length_lt found).trans_le h

theorem keeps_deleteCueBody (id : Half) (s : State) : Keeps s (deleteCueBody id s).1 := by
  refine .iteBody (fun _ => .refl s) fun _ => .iteBody (fun _ => .refl s) fun _ => ?_
  split
  · exact .refl s
  · exact .iteBody (fun _ => .refl s) fun _ =>
      keeps_setCues s _ ((List.length_filter_le _ _).trans ·) (cuesOrdered_removeCue _)

theorem keeps_readCueAt (s : State) (i : Option Nat) : Keeps s (readCueAt s i).1 := by
  unfold readCueAt
  split
  · split <;> exact .refl s
  · exact .refl s

theorem keeps_planStepBody (st : StepArgs) (s : State) : Keeps s (planStepBody st s).1 := by
  refine .iteBody (fun _ => .refl s) fun _ => ?_
  split
  · exact .refl s
  · exact .iteBody (fun _ => .refl s) fun room => keeps_setPlan s _ fun _ => by simpa using room

theorem keeps_planRunBody (s : State) : Keeps s (planRunBody s).1 := by
  refine .iteBody (fun _ => .refl s) fun _ => .iteBody (fun _ => .refl s) fun _ => ?_
  have started := keeps_planStart s
  split
  case h_1 s1 a eq =>
    rw [eq] at started
    exact (started.trans (keeps_prepare a .standby s1)).trans (keeps_offerWindow _)
  case h_2 s1 eq =>
    rw [eq] at started
    exact started

theorem keeps_planSkipBody (s : State) : Keeps s (planSkipBody s).1 := by
  refine .iteBody (fun _ => .refl s) fun _ => ?_
  have given := keeps_planGiveUp s
  split
  case h_1 s1 a eq =>
    rw [eq] at given
    exact ((((given.trans (keeps_pinSet [] s1)).trans (keeps_emptyList _)).trans (keeps_offerInternal _ _)).trans
      (keeps_prepare _ _ _)).trans (keeps_offerWindow _)
  case h_2 s1 eq =>
    rw [eq] at given
    exact ((given.trans (keeps_giveUpPass s1)).trans (keeps_offerInternal _ _)).trans (keeps_post _ _ _)

theorem keeps_abortPass (s : State) : Keeps s (abortPass s) :=
  (((keeps_closeWindows s).trans (keeps_closeTake _ _)).trans (keeps_post _ _ _)).trans (keeps_forceToRest _)

theorem keeps_abortByState (s : State) : Keeps s (abortByState s) := by
  unfold abortByState
  split
  · exact (keeps_giveUpPass s).trans (keeps_offerInternal _ _)
  · exact ((keeps_abortPass s).trans (keeps_giveUpPass _)).trans (keeps_offerInternal _ _)
  · exact (keeps_giveUpPass s).trans (keeps_offerInternal _ _)
  · exact keeps_setPass s _
  · exact .refl s

theorem keeps_removeTake (s : State) : Keeps s (removeTake s) := by
  have removed := keeps_setLog s { s.log with records := s.log.records.eraseP TakeRec.closed } (List.length_eraseP_le.trans ·)
  exact .ite (fun _ => removed.trans (keeps_clearLogFull _)) fun _ => removed

theorem keeps_readTakeBody (part remove : Byte) (s : State) : Keeps s (readTakeBody part remove s).1 := by
  refine .iteBody (fun _ => .refl s) fun _ => .iteBody (fun _ => .refl s) fun _ => ?_
  split
  · exact .refl s
  · split
    · exact .refl s
    · exact .ite (fun _ => keeps_removeTake s) fun _ => .refl s

theorem keeps_setMarkBody (a : MarkArgs) (s : State) : Keeps s (setMarkBody a s).1 := by
  refine .iteBody (fun _ => .refl s) fun _ => ?_
  split
  · exact .refl s
  · exact .iteBody (fun _ => .refl s) fun _ => keeps_setMark s _ _

theorem keeps_readStatusBody (section_ index : Byte) (s : State) : Keeps s (readStatusBody section_ index s).1 := by
  refine .iteBody (fun _ => ?_) fun _ => .iteBody (fun _ => .iteBody (fun _ => .refl s) fun _ => .refl s) fun _ => ?_
  · split <;> exact .refl s
  · split
    · exact .iteBody (fun _ => .refl s) fun _ => .refl s
    · exact .refl s

/-- The flag goes with the last notice. -/
theorem keeps_dropNotice (s : State) (n : Notice) (rest : List Notice) (waiting : s.port.notices = n :: rest) :
    Keeps s (s.setPort { s.port with notices := rest, overflow := s.port.overflow && !rest.isEmpty }) where
  queues h := ⟨(Nat.le_succ _).trans (by simpa [waiting] using h.notices), h.frames, h.queue, h.abort⟩
  overflow _ flag := by
    have left : s.port.overflow = true ∧ rest ≠ [] := by simpa using flag
    exact left.2

theorem keeps_readNoticeBody (s : State) : Keeps s (readNoticeBody s).1 := by
  unfold readNoticeBody
  split
  · exact .refl s
  · exact keeps_dropNotice s _ _ ‹_›

theorem keeps_goBody (s : State) : Keeps s (goBody s).1 := by
  refine .iteBody (fun _ => .refl s) fun _ => ?_
  split
  · exact .refl s
  · exact keeps_consoleOffer _ _ s fun t => .refl t

/-- A port that changes nothing the invariants read. -/
theorem keeps_setStepRun (s : State) (r : Option StepRun) : Keeps s (s.setPort { s.port with stepRun := r }) where

theorem keeps_commandBody (c : Command) (s : State) : Keeps s (commandBody c s).1 := by
  cases c with
  | configure r => exact keeps_configureBody r s
  | start =>
    exact .iteBody (fun _ => .refl s) fun _ => .iteBody (fun _ => .refl s) fun five =>
      keeps_startValues s (s.conf.isSome_of_held.2.2.2.2 (Nat.not_lt.1 five))
  | reset kind =>
    exact .iteBody (fun _ => keeps_fullReset s) fun _ =>
      .iteBody (fun _ => .iteBody (fun _ => keeps_rejoinValues s) fun _ => .refl s) fun _ => .refl s
  | readStatus sec i => exact keeps_readStatusBody sec i s
  | readNotice => exact keeps_readNoticeBody s
  | lineTest m c =>
    refine .iteBody (fun _ => .refl s) fun _ => .iteBody (fun _ => .refl s) fun _ => ?_
    split
    · exact .iteBody (fun _ => keeps_setBus_of_sublist s _ (.refl _) id) fun _ => .refl s
    · exact .refl s
  | loadCue a => exact keeps_loadCueBody a s
  | deleteCue id => exact keeps_deleteCueBody id s
  | clearCues =>
    exact .iteBody (fun _ => .refl s) fun _ => .iteBody (fun _ => .refl s) fun _ =>
      keeps_setCues s [] (fun _ => Nat.zero_le _) fun _ => ⟨.nil, .nil⟩
  | readCue sel =>
    refine .iteBody (fun _ => .refl s) fun _ => ?_
    cases sel with
    | byId id => exact .iteBody (fun _ => .refl s) fun _ => keeps_readCueAt s _
    | byIndex i => exact keeps_readCueAt s _
    | other k => exact .refl s
  | planClear => exact .iteBody (fun _ => .refl s) fun _ => keeps_setPlan s _ fun _ => Nat.zero_le _
  | planStep st => exact keeps_planStepBody st s
  | planRun => exact keeps_planRunBody s
  | planSkip => exact keeps_planSkipBody s
  | planAbort => exact .iteBody (fun _ => .refl s) fun _ => (keeps_planEndRun s).trans (keeps_abortByState _)
  | go => exact keeps_goBody s
  | transportLocate t r p =>
    exact .iteBody (fun _ => .refl s) fun _ => .iteBody (fun _ => .refl s) fun _ => keeps_consoleOffer _ _ s fun t => .refl t
  | transportPlay r => exact .iteBody (fun _ => .refl s) fun _ => keeps_consoleOffer _ _ s fun t => .refl t
  | transportStop => exact .iteBody (fun _ => .refl s) fun _ => keeps_consoleOffer _ _ s fun t => .refl t
  | hold =>
    exact .iteBody (fun _ => .refl s) fun _ => .iteBody (fun _ => .refl s) fun _ =>
      .iteBody (fun _ => keeps_setReasons s _) fun _ => keeps_consoleOffer _ _ s fun t => keeps_setReasons t _
  | release =>
    exact .iteBody (fun _ => .refl s) fun _ => .iteBody (fun _ => .refl s) fun _ =>
      .iteBody (fun _ => keeps_setReasons s _) fun _ => keeps_consoleOffer _ _ s fun t => keeps_setReasons t _
  | readPeers a =>
    exact .iteBody (fun _ => .refl s) fun _ => .iteBody (fun _ => .refl s) fun _ => .iteBody (fun _ => .refl s) fun _ => .refl s
  | readTake p r => exact keeps_readTakeBody p r s
  | setMark a => exact keeps_setMarkBody a s
  | clearMark n =>
    exact .iteBody (fun _ => .refl s) fun _ => .iteBody (fun _ => .refl s) fun _ => keeps_setMark s _ _
  | step c => exact .iteBody (fun _ => .refl s) fun _ => .iteBody (fun _ => .refl s) fun _ => keeps_setStepRun s _

/-! ## Commands and events (R187, R188) -/

theorem keeps_take (served : Bool) (body : State → Body) (s : State) (judged : ∀ t, Keeps t (body t).1) :
    Keeps s (take served body s) := by
  have emptied := keeps_setResponse s none
  exact .ite (fun _ => .refl s) fun _ =>
    (Keeps.iteBody (c := ((s.setResponse none).testing && !served) = true) (fun _ => emptied)
      fun _ => emptied.trans (judged _)).trans (keeps_setResponse _ _)

/-- A console command is its body taken by the port. -/
theorem exec_of_command {i : Instr} {c : Command} (given : i.command = some c) (s : State) :
    exec i s = .next (take (servedInTest c) (commandBody c) s) := by
  cases i <;> cases given <;> rfl

theorem keeps_runMessage (message : List Byte) (s : State) : Keeps s (runMessage message s) := by
  unfold runMessage
  split
  · exact keeps_take _ _ s .refl
  · exact keeps_take _ _ s .refl
  · exact keeps_take _ _ s (keeps_commandBody _)

theorem keeps_withSdo (s : State) (out : List Byte) : Keeps s (s.withSdo out) where

/-- An outcome that is a next state keeping what was found. -/
def KeepsNext (s : State) (o : Host.Outcome State Fault Refusal) : Prop := ∃ t, o = .next t ∧ Keeps s t

theorem Keeps.next {s t : State} (kept : Keeps s t) : KeepsNext s (.next t) := ⟨t, rfl, kept⟩

/-- An event whose conditions fail changes nothing (log 2). -/
theorem KeepsNext.ite {c : Prop} [Decidable c] {s : State} {a : Host.Outcome State Fault Refusal} (yes : c → KeepsNext s a) :
    KeepsNext s (if c then a else .next s) := by
  split
  · exact yes ‹_›
  · exact (Keeps.refl s).next

theorem KeepsNext.ite_not {c : Prop} [Decidable c] {s : State} {a : Host.Outcome State Fault Refusal}
    (no : ¬ c → KeepsNext s a) : KeepsNext s (if c then .next s else a) := by
  split
  · exact (Keeps.refl s).next
  · exact no ‹_›

theorem keepsNext_refPulse (t : RefTransition) (heldNs instant : Nat) (s : State) :
    KeepsNext s (execRefPulse t heldNs instant s) := by
  refine .ite fun _ => ?_
  split
  · exact (keeps_candidateEdge instant s).next
  split
  · exact ((keeps_setRef s _).trans (keeps_candidateEdge instant _)).next
  · exact (keeps_setRef s _).next

theorem keepsNext_watchdogExpiry (s : State) : KeepsNext s (execWatchdogExpiry s) := by
  refine .ite fun _ => ?_
  split
  · exact (keeps_setRef s _).next
  · exact ((((keeps_setRef s _).trans (keeps_post _ _ _)).trans (keeps_writeTake _ _)).trans (keeps_frameEdge _)).next
  · exact (Keeps.refl s).next

theorem keepsNext_synthesisedEdge (s : State) : KeepsNext s (execSynthesisedEdge s) := by
  refine .ite fun _ => ?_
  split
  · exact ((keeps_setRef s _).trans (keeps_frameEdge _)).next
  · exact (Keeps.refl s).next

theorem keeps_answerStep (asked : Nat) (s : State) : Keeps s (answerStep asked s) where

theorem keepsNext_steppedEdge (s : State) : KeepsNext s (execSteppedEdge s) := by
  refine .ite fun _ => ?_
  split
  · dsimp only
    split
    · exact ((keeps_frameEdge s).trans (keeps_answerStep _ _)).next
    · exact ((keeps_frameEdge s).trans (keeps_setStepRun _ _)).next
  · exact (Keeps.refl s).next

theorem keepsNext_transmitStart (line : List Bool) (s : State) : KeepsNext s (execTransmitStart line s) := by
  refine .ite fun _ => ?_
  split
  · exact (keeps_setBus_of_tags s _ (markChosen_fromMark _ _) fun _ => Nat.zero_le _).next
  · exact (Keeps.refl s).next

theorem keepsNext_lineTestFrame (line : List Bool) (s : State) : KeepsNext s (execLineTestFrame line s) := by
  refine .ite fun _ => ?_
  split
  · exact (Keeps.refl s).next
  split
  · exact .ite fun _ => (keeps_endTest _ s).next
  split
  · exact (keeps_testFrameBits _ _ s).next
  · exact .ite fun _ => (keeps_testFrameBits _ _ s).next
  · exact (Keeps.refl s).next

theorem keepsNext_lineBusy (line : List Bool) (s : State) : KeepsNext s (execLineBusy line s) := by
  refine .ite fun _ => ?_
  split
  · exact .ite fun _ => (keeps_endTest _ s).next
  · exact (Keeps.refl s).next

theorem keepsNext_arbitrationLoss (line : List Bool) (s : State) : KeepsNext s (execArbitrationLoss line s) := by
  unfold execArbitrationLoss
  split
  · split
    · exact .ite fun _ => (keeps_testFrameBits line _ s).next
    · refine .ite fun _ => (Keeps.trans ?_ (keeps_received _ _)).next
      exact keeps_setBus_of_tags s _ (unmarkOnLine_fromMark false s.bus) id
  · exact (Keeps.refl s).next

theorem keepsNext_bitError (line : List Bool) (s : State) : KeepsNext s (execBitError line s) := by
  unfold execBitError
  split
  · split
    · exact .ite fun _ => (keeps_testFrameBits line _ s).next
    · exact .ite fun _ => (keeps_entryBitError _ s).next
  · exact (Keeps.refl s).next

theorem keepsNext_frameComplete (line : List Bool) (s : State) : KeepsNext s (execFrameComplete line s) := by
  refine .ite_not fun _ => ?_
  split
  · exact .ite fun _ => (keeps_testFrameBits _ _ s).next
  · exact .ite fun _ => (keeps_echoComplete _ _ s).next
  · exact .ite fun _ => ((keeps_hear line s).trans (keeps_received _ _)).next

theorem keeps_execTransfer (message : List Byte) (s : State) : KeepsNext s (execTransfer message s) :=
  (Keeps.trans (.ite (c := isPoll (message.take Config.messageCapacity) = true) (fun _ => .refl s)
    fun _ => keeps_runMessage _ s) (keeps_withSdo _ _)).next

/-- Every command answers a next state, and keeps what it found. -/
theorem exec_keeps (i : Instr) (s : State) : KeepsNext s (exec i s) := by
  cases command : i.command with
  | some c => exact ⟨_, exec_of_command command s, keeps_take _ _ s (keeps_commandBody c)⟩
  | none =>
    cases i <;> simp only [Instr.command, reduceCtorEq] at command
    case transfer message => exact keeps_execTransfer message s
    case powerOn => exact (keeps_fullReset s).next
    case resetn => exact ((keeps_fullReset s).trans (keeps_setResetnLow _ _)).next
    case resetnRelease => exact (keeps_setResetnLow s _).next
    case refPulse t heldNs instant => exact keepsNext_refPulse t heldNs instant s
    case watchdogExpiry => exact keepsNext_watchdogExpiry s
    case synthesisedEdge => exact keepsNext_synthesisedEdge s
    case tick => exact .ite fun _ => ((keeps_setRef s _).trans (keeps_tickAdvance _)).next
    case steppedEdge => exact keepsNext_steppedEdge s
    case holdExpired a =>
      exact .ite fun _ => (Keeps.ite (fun _ => (keeps_dropHold a s).trans (keeps_post _ _ _)) fun _ => keeps_dropHold a s).next
    case peerLost a => exact .ite fun _ => (keeps_losePeer a s).next
    case settleEnd => exact .ite fun _ => ((keeps_setAgr s _).trans (keeps_rollStep _)).next
    case beaconDue => exact .ite fun _ => (keeps_offerBeacon s).next
    case linkActive => exact .ite fun _ => (keeps_linkUp s).next
    case transmitStart line => exact keepsNext_transmitStart line s
    case arbitrationLoss line => exact keepsNext_arbitrationLoss line s
    case bitError line => exact keepsNext_bitError line s
    case frameComplete line => exact keepsNext_frameComplete line s
    case frameDiscard line => exact .ite fun _ => (keeps_hear line s).next
    case lineTestFrame line => exact keepsNext_lineTestFrame line s
    case lineBusy line => exact keepsNext_lineBusy line s
    case closureOffer => exact .ite fun _ => (keeps_closureTest s).next
    case ovsync => exact .ite_not fun _ => (keeps_setOut s _ overlaySync_settled).next
    case levelSample pulses => exact .ite_not fun _ => (Keeps.foldl keeps_levelPulse pulses s).next
    case markFired n => exact .ite fun _ => (keeps_fireMark false n s).next
    case ovclk => exact .ite_not fun _ => (keeps_setOut s _ overlayClock_settled).next

/-- A step is a command on the rest of the queue. -/
theorem step_keeps {s t : State} (stepped : step s = .next t) : Keeps s t := by
  unfold step at stepped
  split at stepped
  · cases stepped
    exact .refl s
  · obtain ⟨u, ran, kept⟩ := exec_keeps _ (s.setPending _)
    rw [ran] at stepped
    cases stepped
    exact (keeps_setPending s _).trans kept

/-- Settles O58: every operation of a step keeps the capacities and the order of the cue table, so the step does. -/
theorem stepsKeepCapacities : Obligations.StepsKeepCapacities :=
  ⟨fun _ _ h stepped => (step_keeps stepped).queues h, fun _ _ h stepped => (step_keeps stepped).overflow h,
    fun _ _ h stepped => (step_keeps stepped).markStop h, fun _ _ h stepped => (step_keeps stepped).stores h,
    fun _ _ h stepped => (step_keeps stepped).cues h⟩

end Sys2Proof.Machine

/-! PROOF. Position and locate record over a step (R15 to R20, R49 to R53): what an operation leaves of them, the frame edge after whose first step the position stands on the edge, the tick, and the commands. -/

namespace Sys2Proof.Machine

-- One proof after another: under the check's memory limit there is no room for a thread per proof.
set_option Elab.async false

/-! ## The agreement unit past the own-hold reasons (R58) -/

theorem raiseReasons_agr (r : OwnReasons) (s : State) : (raiseReasons r s).agr = { s.agr with reasons := r } := by
  unfold raiseReasons
  split <;> simp [State.setReasons]

theorem raiseLogFull_agr (s : State) :
    (raiseLogFull s).agr = { s.agr with reasons := { s.agr.reasons with logFull := true } } := by
  unfold raiseLogFull
  split
  case isTrue stands => simp [← stands]
  case isFalse => exact raiseReasons_agr _ s

theorem raiseMark_agr (s : State) : (raiseMark s).agr = { s.agr with reasons := { s.agr.reasons with mark := true } } := by
  unfold raiseMark
  split
  case isTrue stands => simp [← stands]
  case isFalse => exact raiseReasons_agr _ s

/-- Two agreement units that differ in the own-hold reasons alone. -/
def Agreement.SameButReasons (a b : Agreement) : Prop := b = { a with reasons := b.reasons }

theorem Agreement.SameButReasons.refl (a : Agreement) : a.SameButReasons a := rfl

theorem Agreement.SameButReasons.trans {a b c : Agreement} (ab : a.SameButReasons b) (bc : b.SameButReasons c) :
    a.SameButReasons c := by
  unfold Agreement.SameButReasons at *
  rw [bc, ab]

theorem clearLogFull_agr (s : State) : s.agr.SameButReasons (clearLogFull s).agr := by
  unfold clearLogFull
  split
  · split <;> simp [State.setReasons, Agreement.SameButReasons]
  · exact .refl _

theorem reserveTake_agr (w : OwnWindow) (s : State) : s.agr.SameButReasons (reserveTake w s).agr := by
  unfold reserveTake
  dsimp only
  split
  · rw [raiseLogFull_agr]
    rfl
  · rfl

theorem beginPass_agr (w : OwnWindow) (s : State) : s.agr.SameButReasons (beginPass w s).agr := by
  simpa [beginPass] using reserveTake_agr w s

/-- A roll entry reaches the agreement unit through LOG_FULL alone. -/
theorem rollEntry_agr (s : State) : s.agr.SameButReasons (rollEntry s).agr := by
  unfold rollEntry
  split
  · split
    · split
      · exact beginPass_agr _ s
      · simp [Agreement.SameButReasons]
    · simp [Agreement.SameButReasons]
  · exact .refl _

theorem markAction_agr (offered : Bool) (a : MarkAction) (s : State) : s.agr.SameButReasons (markAction offered a s).agr := by
  cases a with
  | notice => exact .refl _
  | hold =>
    show s.agr.SameButReasons (raiseMark s).agr
    rw [raiseMark_agr]
    rfl
  | stop => simp [markAction, Agreement.SameButReasons]

theorem fireMark_agr (offered : Bool) (n : Nat) (s : State) : s.agr.SameButReasons (fireMark offered n s).agr := by
  simpa [fireMark] using markAction_agr offered (s.mark n).action (post .markFired n s)

theorem judgeMark_agr (prev edge : Nat) (offered : Bool) (s : State) (n : Nat) :
    s.agr.SameButReasons (judgeMark prev edge offered s n).agr := by
  unfold judgeMark
  dsimp only
  split
  · exact fireMark_agr _ _ s
  · split <;> simp [Agreement.SameButReasons]

theorem judgeMarks_agr (pair : Option (Nat × Nat)) (s : State) : s.agr.SameButReasons (judgeMarks pair s).agr := by
  cases pair with
  | none => exact .refl _
  | some pair =>
    have rounds : ∀ (l : List Nat) (t : State), t.agr.SameButReasons
        (l.foldl (fun t n => judgeMark pair.1 pair.2 (stopBefore pair.1 pair.2 s n) t n) t).agr := by
      intro l
      induction l with
      | nil => exact fun t => .refl _
      | cons n rest ih => exact fun t => (judgeMark_agr _ _ _ t n).trans (ih _)
    exact rounds _ s

/-! ## What decides the position and the locate record -/

/-- What position and locate record are judged by. -/
def rollOf (s : State) : Position × Conf × PartState × Transport × Bool × Option LocateRec :=
  (s.posn, s.conf, s.port.part, s.agr.transport, s.agr.rollFresh, s.agr.locate)

/-- The part is RUNNING, and the position is sound and stands on the edge. -/
structure AtEdge (s : State) : Prop where
  sound : PositionSound s
  onEdge : s.posn.p = s.posn.pEdge
  running : s.port.part = .running

/-- Positions on the edge stay on it, and the locate record stays with CUEING. -/
structure KeepsPlace (s t : State) : Prop where
  edge : AtEdge s → AtEdge t
  locate : LocateSound s → LocateSound t

theorem KeepsPlace.refl (s : State) : KeepsPlace s s := ⟨id, id⟩

theorem KeepsPlace.trans {s t u : State} (st : KeepsPlace s t) (tu : KeepsPlace t u) : KeepsPlace s u :=
  ⟨tu.edge ∘ st.edge, tu.locate ∘ st.locate⟩

theorem KeepsPlace.ite {c : Prop} [Decidable c] {s t u : State} (yes : c → KeepsPlace s t) (no : ¬ c → KeepsPlace s u) :
    KeepsPlace s (if c then t else u) := by
  split
  · exact yes ‹_›
  · exact no ‹_›

theorem PositionSound.of_rollOf {s t : State} (same : rollOf t = rollOf s) (h : PositionSound s) : PositionSound t := by
  simp only [rollOf, Prod.mk.injEq] at same
  obtain ⟨posn, conf, part, transport, fresh, -⟩ := same
  have top := State.pMax_of_conf conf
  constructor <;> simp only [posn, part, transport, fresh, top]
  · exact h.edgeRange
  · exact h.prevRange
  · exact h.positionRange
  · exact h.rateLow
  · exact h.rateHigh
  · exact h.accumulator
  · exact h.notBelowEdge
  · exact h.belowNextEdge
  · exact h.atRest
  · exact h.firstFrame
  · exact h.config

theorem LocateSound.of_rollOf {s t : State} (same : rollOf t = rollOf s) (h : LocateSound s) : LocateSound t := by
  simp only [rollOf, Prod.mk.injEq] at same
  obtain ⟨-, -, -, transport, -, locate⟩ := same
  rw [LocateSound, transport, locate]
  exact h

theorem AtEdge.of_rollOf {s t : State} (same : rollOf t = rollOf s) (h : AtEdge s) : AtEdge t where
  sound := .of_rollOf same h.sound
  onEdge := by
    rw [show t.posn = s.posn from congrArg Prod.fst same]
    exact h.onEdge
  running := by
    rw [show t.port.part = s.port.part from congrArg (·.2.2.1) same]
    exact h.running

theorem KeepsPlace.of_rollOf {s t : State} (same : rollOf t = rollOf s) : KeepsPlace s t := ⟨.of_rollOf same, .of_rollOf same⟩

/-- An operation that leaves the agreement unit but for the reasons. -/
theorem rollOf_of_agr {s t : State} (agr : s.agr.SameButReasons t.agr) (posn : t.posn = s.posn := by simp)
    (conf : t.conf = s.conf := by simp) (part : t.port.part = s.port.part := by simp) : rollOf t = rollOf s := by
  unfold rollOf
  rw [posn, conf, part, agr]

@[simp] theorem rollOf_rollEntry (s : State) : rollOf (rollEntry s) = rollOf s := rollOf_of_agr (rollEntry_agr s)

@[simp] theorem rollOf_judgeMarks (pair : Option (Nat × Nat)) (s : State) : rollOf (judgeMarks pair s) = rollOf s :=
  rollOf_of_agr (judgeMarks_agr pair s)

@[simp] theorem rollOf_setSlot (s : State) (a : Nat) (x : PeerSlot) : rollOf (s.setSlot a x) = rollOf s := by
  unfold State.setSlot Agreement.setSlot
  split <;> rfl

@[simp] theorem rollOf_post (k : NoticeKind) (d : Nat) (s : State) : rollOf (post k d s) = rollOf s := by simp [rollOf]

@[simp] theorem rollOf_dropHold (a : Nat) (s : State) : rollOf (dropHold a s) = rollOf s := rfl

@[simp] theorem rollOf_dropWindow (a : Nat) (s : State) : rollOf (dropWindow a s) = rollOf s := rfl

@[simp] theorem rollOf_idleBeacon (a : Nat) (s : State) : rollOf (idleBeacon a s) = rollOf s := by simp [rollOf]

@[simp] theorem rollOf_offerInternal (f : QueuedFrame) (s : State) : rollOf (offerInternal f s) = rollOf s := by simp [rollOf]

@[simp] theorem rollOf_requestBuild (s : State) : rollOf (requestBuild s) = rollOf s := by simp [rollOf]

@[simp] theorem rollOf_passStop (s : State) : rollOf (passStop s) = rollOf s := by simp [rollOf]

@[simp] theorem rollOf_presenceUpdate (f : BusFrame) (s : State) : rollOf (presenceUpdate f s) = rollOf s := by
  unfold presenceUpdate
  split
  · split
    · unfold beaconEqual
      dsimp only
      split <;> simp
    · unfold beaconDiffers
      dsimp only
      split <;> simp
  · unfold heardFrom
    dsimp only
    split <;> simp

theorem rollOf_countLeases (s : State) : rollOf (countLeases s) = rollOf s := by
  unfold countLeases
  dsimp only
  split <;> simp [rollOf]

@[simp] theorem rollOf_holdsStep (s : State) : rollOf (holdsStep s) = rollOf s := by
  rw [← rollOf_countLeases s]
  simp [holdsStep, rollOf]

@[simp] theorem rollOf_agePeer (s : State) (a : Nat) : rollOf (agePeer s a) = rollOf s := by
  unfold agePeer
  dsimp only
  split
  · rfl
  · split
    · simp [losePeer]
    · simp

@[simp] theorem rollOf_presenceStep (s : State) : rollOf (presenceStep s) = rollOf s :=
  foldl_keeps rollOf agePeer rollOf_agePeer addresses s

@[simp] theorem rollOf_settleStep (s : State) : rollOf (settleStep s) = rollOf s := by
  unfold settleStep
  split <;> rfl

@[simp] theorem rollOf_offerBeacon (s : State) : rollOf (offerBeacon s) = rollOf s := by simp [offerBeacon, rollOf]

@[simp] theorem rollOf_beaconStep (s : State) : rollOf (beaconStep s) = rollOf s := by
  unfold beaconStep
  split
  · simp
  · rfl

@[simp] theorem rollOf_linkUp (s : State) : rollOf (linkUp s) = rollOf s := by
  unfold linkUp
  dsimp only
  rw [rollOf_offerBeacon]
  rfl

@[simp] theorem rollOf_listeningStep (s : State) : rollOf (listeningStep s) = rollOf s := by
  unfold listeningStep
  split
  · split
    · simp
    · rfl
  · rfl

/-! ## Frames applied at the edge (R48 to R66) -/

/-- On the edge any transport is sound that a roll just entered calls ROLLING. -/
theorem AtEdge.setAgr {s : State} (h : AtEdge s) (x : Agreement) (fresh : x.rollFresh = true → x.transport = .rolling) :
    AtEdge (s.setAgr x) where
  sound := { h.sound with
    atRest := fun _ => h.onEdge
    firstFrame := fun f => ⟨fresh f, h.onEdge⟩ }
  onEdge := h.onEdge
  running := h.running

/-- A position write lands on the edge, in range, with the accumulator 0 (R15). -/
theorem AtEdge.writePosition {s : State} (h : AtEdge s) (x : Nat) : AtEdge (writePosition x s) where
  sound := { h.sound with
    edgeRange := Nat.min_le_right _ _
    positionRange := Nat.min_le_right _ _
    accumulator := Nat.zero_lt_succ _
    notBelowEdge := Nat.le_refl _
    belowNextEdge := Nat.lt_add_of_pos_right (Nat.zero_lt_succ _ |>.trans_le h.sound.rateLow)
    atRest := fun _ => rfl
    firstFrame := fun fresh => ⟨(h.sound.firstFrame fresh).1, rfl⟩
    config := fun config => absurd (config.symm.trans h.running) nofun }
  onEdge := rfl
  running := h.running

theorem clampRate_bounds (r : Nat) : 60 ≤ clampRate r ∧ clampRate r ≤ 240 := by
  unfold clampRate clamp
  split
  · omega
  · split <;> omega

/-- A position on the edge is below the next edge at any rate. -/
theorem AtEdge.takeRate {s : State} (h : AtEdge s) (r : Nat) : AtEdge (takeRate r s) where
  sound := { h.sound with
    rateLow := (clampRate_bounds r).1
    rateHigh := (clampRate_bounds r).2
    belowNextEdge := by
      have low : 60 ≤ clampRate r := (clampRate_bounds r).1
      have onEdge := h.onEdge
      show s.posn.p < s.posn.pEdge + clampRate r
      omega
    config := fun config => absurd (config.symm.trans h.running) nofun }
  onEdge := h.onEdge
  running := h.running

@[simp] theorem takeGeneration_transport (g : Nat) (s : State) : (takeGeneration g s).agr.transport = s.agr.transport := rfl

theorem keepsPlace_takeGeneration (g : Nat) (s : State) : KeepsPlace s (takeGeneration g s) := .of_rollOf rfl

/-- An ANCHOR at rest clears the locate record with CUEING (R49). -/
theorem keepsPlace_anchorAtRest (g : Nat) (rolling : Bool) (r p : Nat) {s : State} (rest : s.agr.transport ≠ .rolling) :
    KeepsPlace s (anchorAtRest g rolling r p s) where
  edge h := by
    have fresh : s.agr.rollFresh = false := Bool.eq_false_iff.2 fun f => rest (h.sound.firstFrame f).1
    have taken := (((keepsPlace_takeGeneration g s).edge h).writePosition p).takeRate r
    refine .of_rollOf (rollOf_requestBuild _) ?_
    split
    · exact .of_rollOf (rollOf_rollEntry _) (taken.setAgr _ fun _ => rfl)
    · exact .of_rollOf (rollOf_passStop _) (taken.setAgr _ fun f => absurd (f.symm.trans fresh) nofun)
  locate _ := by
    refine .of_rollOf (rollOf_requestBuild _) ?_
    split
    · exact .of_rollOf (rollOf_rollEntry _) ⟨nofun, nofun⟩
    · exact .of_rollOf (rollOf_passStop _) ⟨nofun, nofun⟩

/-- The transport of a station that rolls carries no locate record, and leaves none behind (R50, R51). -/
theorem keepsPlace_leaveRolling {s : State} (rolling : s.agr.transport = .rolling) : KeepsPlace s (leaveRolling .stopped s) where
  edge h := .of_rollOf (s := s.setAgr { s.agr with transport := .stopped, rollFresh := false }) rfl (h.setAgr _ nofun)
  locate h := ⟨nofun, fun present => absurd (h.2 present) (rolling ▸ nofun)⟩

theorem keepsPlace_anchorAtRoll (g : Nat) (rolling : Bool) (r : Nat) {s : State} (rolls : s.agr.transport = .rolling) :
    KeepsPlace s (anchorAtRoll g rolling r s) := by
  have taken : KeepsPlace s (takeRate r (takeGeneration g s)) :=
    (keepsPlace_takeGeneration g s).trans ⟨fun h => h.takeRate r, id⟩
  have built : KeepsPlace s (if (takeRate r (takeGeneration g s)).posn.rate = s.posn.rate then takeRate r (takeGeneration g s)
      else requestBuild (takeRate r (takeGeneration g s))) :=
    .ite (fun _ => taken) fun _ => taken.trans (.of_rollOf (rollOf_requestBuild _))
  refine .ite (fun _ => built) fun _ => (built.trans (keepsPlace_leaveRolling ?_)).trans (.of_rollOf (rollOf_passStop _))
  refine iteInduction (motive := fun u : State => u.agr.transport = Transport.rolling) (fun _ => ?_) fun _ => ?_
  · simpa using rolls
  · simpa using rolls

/-- A LOCATE writes its record with CUEING (R51). -/
theorem keepsPlace_takeLocate (g : Nat) (closure play : Bool) (r st n t : Nat) (s : State) :
    KeepsPlace s (takeLocate g closure play r st n t s) where
  edge h := by
    have left : AtEdge (if s.agr.transport = .rolling then leaveRolling .cueing s else s) ∧
        (if s.agr.transport = .rolling then leaveRolling .cueing s else s).agr.rollFresh = false := by
      split
      case isTrue =>
        exact ⟨.of_rollOf (s := s.setAgr { s.agr with transport := .cueing, rollFresh := false }) rfl (h.setAgr _ nofun), rfl⟩
      case isFalse rest => exact ⟨h, Bool.eq_false_iff.2 fun f => rest (h.sound.firstFrame f).1⟩
    obtain ⟨left, fresh⟩ := left
    exact ((((keepsPlace_takeGeneration g _).edge left).writePosition t).takeRate r).setAgr _
      fun f => absurd (f.symm.trans fresh) nofun
  locate _ := ⟨fun _ => rfl, fun _ => rfl⟩

theorem keepsPlace_applyLocate (g : Nat) (closure play : Bool) (r st n t : Nat) (s : State) :
    KeepsPlace s (applyLocate g closure play r st n t s) := by
  refine .ite (fun _ => .refl s) fun _ => .trans ?_ (.of_rollOf (rollOf_requestBuild _))
  have located : KeepsPlace s (passLocate (pruneWindows n (takeLocate g closure play r st n t s))) :=
    (keepsPlace_takeLocate g closure play r st n t s).trans (.of_rollOf (by simp [rollOf]))
  exact .ite (fun _ => located.trans (.of_rollOf (by simp [rollOf]))) fun _ => located

/-- An adoption takes STOPPED or ROLLING, and no locate record with it (R65). -/
theorem keepsPlace_adopt {t : Transport} (moves : t ≠ .cueing) (g n r p : Nat) (s : State) :
    KeepsPlace s (adopt t g n r p s) where
  edge h := by
    have taken := (((keepsPlace_takeGeneration g s).edge h).takeRate r).writePosition
      (if t = .rolling then p + (takeRate r (takeGeneration g s)).posn.rate else p)
    refine .of_rollOf (rollOf_requestBuild _) (iteInduction (motive := AtEdge) (fun _ => ?_) fun _ => ?_)
    · exact .of_rollOf (rollOf_rollEntry _) (taken.setAgr _ fun _ => rfl)
    · exact taken.setAgr _ fun fresh => by cases fresh
  locate _ := by
    refine .of_rollOf (rollOf_requestBuild _) (iteInduction (motive := LocateSound) (fun _ => ?_) fun _ => ?_)
    · exact .of_rollOf (rollOf_rollEntry _) ⟨nofun, nofun⟩
    · exact ⟨fun cueing => absurd cueing moves, fun present => by cases present⟩

theorem not_cueing_of_adopts {t : Transport} {s : State} (adopted : adopts t s = true) : t ≠ .cueing :=
  of_decide_eq_true (Bool.and_eq_true_iff.1 adopted).2

theorem keepsPlace_applyBeacon (k : SlipRef) (a rc : Nat) (t : Transport) (ps : PassState) (g n r p : Nat) (s : State) :
    KeepsPlace s (applyBeacon k a rc t ps g n r p s) := by
  refine .ite (fun _ => .refl s) fun _ => ?_
  have recorded : KeepsPlace s (s.setSlot a { s.agr.slot a with lastBeacon := some ⟨rc, t, g, n, ps, clampRate r, s.clampPos p⟩ }) :=
    .of_rollOf (rollOf_setSlot _ _ _)
  refine .ite (fun _ => ?_) fun _ => recorded
  have idled := KeepsPlace.ite (c := ps = .idle) (fun _ => recorded.trans (.of_rollOf (rollOf_idleBeacon a _)))
    fun _ => recorded
  exact KeepsPlace.ite (fun adopted => idled.trans (keepsPlace_adopt (not_cueing_of_adopts adopted) _ _ _ _ _))
    fun _ => idled.trans (.of_rollOf (by simp [rollOf]))

theorem keepsPlace_applyPayload (k : SlipRef) (a : Nat) (x : Payload) (s : State) : KeepsPlace s (applyPayload k a x s) := by
  cases x with
  | anchor g rolling r p =>
    exact .ite (keepsPlace_anchorAtRoll g rolling r) fun rest => keepsPlace_anchorAtRest g rolling r p rest
  | locate g closure play r st n t => exact keepsPlace_applyLocate g closure play r st n t s
  | hold lease reason => exact .of_rollOf rfl
  | release => exact .of_rollOf rfl
  | window n c i o => exact .of_rollOf rfl
  | done n oc more => exact .of_rollOf (t := applyDone a n oc more s) (by simp [rollOf])
  | beacon rc t ps g n r p => exact keepsPlace_applyBeacon k a rc t ps g n r p s
  | test n => exact .refl s

theorem keepsPlace_applyFrame (k : SlipRef) (s : State) (h : HeardFrame) : KeepsPlace s (applyFrame k s h) := by
  have updated := KeepsPlace.ite (c := h.echo = true) (fun _ => .refl s)
    fun _ => .of_rollOf (rollOf_presenceUpdate h.frame s)
  refine .ite (fun _ => updated) fun _ => ?_
  split
  · exact updated.trans (keepsPlace_applyPayload _ _ _ _)
  · exact updated

theorem keepsPlace_applyFrames (before s : State) : KeepsPlace s (applyFrames before s) := by
  have rounds : ∀ (l : List HeardFrame) (t : State), KeepsPlace t (l.foldl (applyFrame (slipRef before s)) t) := by
    intro l
    induction l with
    | nil => exact .refl
    | cons h rest ih => exact fun t => (keepsPlace_applyFrame _ t h).trans (ih _)
  exact KeepsPlace.trans (.of_rollOf (t := s.setAgr { s.agr with frames := [] }) rfl) (rounds _ _)

/-! ## The parts of an edge (R17, R18, R53) -/

theorem keepsPlace_rollStep (s : State) : KeepsPlace s (rollStep s) := by
  unfold rollStep
  split
  case h_1 l cueing settled present =>
    have rolls : KeepsPlace s (s.setAgr { s.agr.entersRoll with locate := none }) :=
      ⟨fun h => h.setAgr _ fun _ => rfl, fun _ => ⟨nofun, nofun⟩⟩
    have stops : KeepsPlace s (s.setAgr { s.agr with transport := .stopped, locate := none }) :=
      ⟨fun h => h.setAgr _ fun fresh => absurd ((h.sound.firstFrame fresh).1.symm.trans cueing) nofun, fun _ => ⟨nofun, nofun⟩⟩
    exact .ite (fun _ => .ite (fun _ => rolls.trans (.of_rollOf (rollOf_rollEntry _))) fun _ => .refl s) fun _ => stops
  case h_2 => exact .refl s

/-- The position of an edge that moves a ROLLING transport, before the advance is handed on (R17). -/
def movedToEdge (s : State) : State :=
  (s.setAgr { s.agr with rollFresh := false }).setPosn
    { s.posn with pPrev := s.posn.pEdge, pEdge := edgeTarget s, p := edgeTarget s, acc := 0 }

/-- The first step of an edge at a ROLLING transport: the move, the advance handed on, and the local stop beyond P_MAX. -/
theorem edgeAdvance_of_rolling {s : State} (rolling : s.agr.transport = .rolling) : edgeAdvance s =
    if s.pMax < s.posn.pEdge + s.posn.rate then
      localStop (if s.posn.p ≠ edgeTarget s then handAdvance (movedToEdge s) else movedToEdge s)
    else if s.posn.p ≠ edgeTarget s then handAdvance (movedToEdge s) else movedToEdge s := if_pos rolling

@[simp] theorem rollOf_handAdvance (s : State) : rollOf (handAdvance s) = rollOf s := by simp [rollOf]

theorem handAdvance_transport (s : State) : (handAdvance s).agr.transport = s.agr.transport := by simp

theorem keepsPlace_localStop {s : State} (rolling : s.agr.transport = .rolling) : KeepsPlace s (localStop s) :=
  (keepsPlace_leaveRolling rolling).trans (.of_rollOf (rollOf_passStop _))

/-- After the move of a ROLLING transport the first step keeps position and record. -/
theorem keepsPlace_of_movedToEdge {s : State} (rolling : s.agr.transport = .rolling) :
    KeepsPlace (movedToEdge s) (edgeAdvance s) := by
  rw [edgeAdvance_of_rolling rolling]
  have handed : KeepsPlace (movedToEdge s) (if s.posn.p ≠ edgeTarget s then handAdvance (movedToEdge s) else movedToEdge s) :=
    .ite (fun _ => .of_rollOf (rollOf_handAdvance _)) fun _ => .refl _
  refine .ite (fun _ => handed.trans (keepsPlace_localStop ?_)) fun _ => handed
  refine iteInduction (motive := fun u : State => u.agr.transport = Transport.rolling) (fun _ => ?_) fun _ => rolling
  exact (handAdvance_transport _).trans rolling

theorem atEdge_movedToEdge {s : State} (running : s.port.part = .running) (h : PositionSound s) : AtEdge (movedToEdge s) where
  sound := { h with
    edgeRange := Nat.min_le_right _ _
    prevRange := h.edgeRange
    positionRange := Nat.min_le_right _ _
    accumulator := Nat.zero_lt_succ _
    notBelowEdge := Nat.le_refl _
    belowNextEdge := Nat.lt_add_of_pos_right (Nat.zero_lt_succ _ |>.trans_le h.rateLow)
    atRest := fun _ => rfl
    firstFrame := nofun
    config := fun config => absurd (config.symm.trans running) nofun }
  onEdge := rfl
  running := running

/-- The advance of an edge leaves the position on the edge: that of a ROLLING transport moves there, any other stands there (R17, R18). -/
theorem atEdge_edgeAdvance {s : State} (running : s.port.part = .running) (h : PositionSound s) : AtEdge (edgeAdvance s) := by
  by_cases rolling : s.agr.transport = .rolling
  · exact (keepsPlace_of_movedToEdge rolling).edge (atEdge_movedToEdge running h)
  · rw [edgeAdvance, if_neg rolling]
    exact {
      sound := { h with
        prevRange := h.edgeRange
        config := fun config => absurd (config.symm.trans running) nofun }
      onEdge := h.atRest rolling
      running := running }

theorem locateSound_edgeAdvance {s : State} (h : LocateSound s) : LocateSound (edgeAdvance s) := by
  by_cases rolling : s.agr.transport = .rolling
  · exact (keepsPlace_of_movedToEdge rolling).locate h
  · rw [edgeAdvance, if_neg rolling]
    exact h

@[simp] theorem rollOf_clearingTest (s : State) : rollOf (clearingTest s) = rollOf s := by simp [rollOf]

@[simp] theorem rollOf_ownEntryMaintenance (s : State) : rollOf (ownEntryMaintenance s) = rollOf s := by simp [rollOf]

@[simp] theorem rollOf_closureTest (s : State) : rollOf (closureTest s) = rollOf s := by simp [rollOf]

@[simp] theorem rollOf_compose (s : State) : rollOf (compose s) = rollOf s := rfl

/-- After its first step an edge keeps position and record (R46). -/
theorem keepsPlace_frameEdge (s : State) : KeepsPlace (edgeAdvance s) (frameEdge s) := by
  have applied := keepsPlace_applyFrames s (edgeAdvance s)
  have settled : KeepsPlace (applyFrames s (edgeAdvance s)) (settleStep (presenceStep (holdsStep (applyFrames s (edgeAdvance s))))) :=
    .of_rollOf (by simp)
  exact ((applied.trans settled).trans (keepsPlace_rollStep _)).trans (.of_rollOf (by simp [frameEdge, agreementSteps]))

/-! ## What a command keeps -/

/-- The position stays sound, and the locate record with CUEING. -/
structure KeepsPosition (s t : State) : Prop where
  position : PositionSound s → PositionSound t
  locate : LocateSound s → LocateSound t

theorem KeepsPosition.refl (s : State) : KeepsPosition s s := ⟨id, id⟩

theorem KeepsPosition.trans {s t u : State} (st : KeepsPosition s t) (tu : KeepsPosition t u) : KeepsPosition s u :=
  ⟨tu.position ∘ st.position, tu.locate ∘ st.locate⟩

theorem KeepsPosition.of_rollOf {s t : State} (same : rollOf t = rollOf s) : KeepsPosition s t :=
  ⟨.of_rollOf same, .of_rollOf same⟩

theorem keepsPosition_frameEdge {s : State} (running : s.port.part = .running) : KeepsPosition s (frameEdge s) where
  position h := ((keepsPlace_frameEdge s).edge (atEdge_edgeAdvance running h)).sound
  locate h := (keepsPlace_frameEdge s).locate (locateSound_edgeAdvance h)

/-- The new position of a tick, between the old one and the cap below the next edge (R19). -/
theorem keepsPosition_tickAdvance {s : State} (running : s.port.part = .running) : KeepsPosition s (tickAdvance s) := by
  unfold tickAdvance
  refine iteInduction (motive := KeepsPosition s) (fun moves => ?_) fun _ => .refl s
  have ticked : KeepsPosition s (s.setPosn { s.posn with
      p := min (s.posn.p + (s.posn.acc + s.posn.rate) / 120) (tickCap s), acc := (s.posn.acc + s.posn.rate) % 120 }) := by
    refine ⟨fun h => ?_, id⟩
    have low := h.rateLow
    have high := h.edgeRange
    have above := h.notBelowEdge
    exact { h with
      positionRange := (Nat.min_le_right _ _).trans (Nat.min_le_right _ _)
      accumulator := Nat.mod_lt _ (Nat.zero_lt_succ _)
      notBelowEdge := by
        show s.posn.pEdge ≤ min _ (min (s.posn.pEdge + s.posn.rate - 1) s.pMax)
        omega
      belowNextEdge := by
        show min _ (min (s.posn.pEdge + s.posn.rate - 1) s.pMax) < s.posn.pEdge + s.posn.rate
        omega
      atRest := fun rest => absurd moves.1 rest
      firstFrame := fun fresh => absurd (fresh.symm.trans moves.2) nofun
      config := fun config => absurd (config.symm.trans running) nofun }
  exact iteInduction (motive := KeepsPosition s) (fun _ => ticked) fun _ => ticked.trans (.of_rollOf (rollOf_handAdvance _))

/-! ## The console commands (R188, R189, R194 to R198) -/

theorem keepsPosition_fullReset (s : State) : KeepsPosition s (fullReset s) where
  position _ := by
    constructor <;> simp [fullReset, State.reset, Position.reset, Agreement.reset]
  locate _ := ⟨nofun, nofun⟩

/-- In CONFIG the position is at its reset values, so that any records and any transport just reset suit it. -/
theorem keepsPosition_of_config {s t : State} (config : s.port.part = .config) (posn : t.posn = s.posn)
    (rest : t.agr.rollFresh = false ∨ t.agr = s.agr) (locate : LocateSound s → LocateSound t) : KeepsPosition s t where
  locate := locate
  position h := by
    have reset : t.posn = Position.reset := posn.trans (h.config config)
    have fresh : t.agr.rollFresh = true → t.agr.transport = .rolling := fun f => by
      rcases rest with rest | rest
      · exact absurd (f.symm.trans rest) nofun
      · rw [rest] at f ⊢
        exact (h.firstFrame f).1
    constructor <;> rw [reset]
    case firstFrame => exact fun f => ⟨fresh f, rfl⟩
    all_goals simp [Position.reset]

theorem keepsPosition_rejoinValues {s : State} (running : s.port.part = .running) : KeepsPosition s (rejoinValues s) where
  position _ := by
    constructor
    case config => exact fun config => absurd (config.symm.trans running) nofun
    all_goals simp [rejoinValues, Position.reset, Agreement.reset]
  locate _ := ⟨nofun, nofun⟩

theorem KeepsPosition.iteBody {c : Prop} [Decidable c] {s : State} {a b : Body} (yes : c → KeepsPosition s a.1)
    (no : ¬ c → KeepsPosition s b.1) : KeepsPosition s (if c then a else b).1 := by
  split
  · exact yes ‹_›
  · exact no ‹_›

theorem keepsPosition_configureBody (r : ConfigRecord) (s : State) : KeepsPosition s (configureBody r s).1 := by
  refine .iteBody (fun _ => .refl s) fun config => ?_
  split
  · exact .refl s
  · refine .iteBody (fun _ => .refl s) fun _ => ?_
    split
    · exact .refl s
    · exact keepsPosition_of_config (part_config config) rfl (.inr rfl) id

/-- What pass state, take log and plan are judged by. -/
def passOf (s : State) : (PassState × Option PlanOutcome × Bool) × (Option Nat × Nat × List StackEntry) × List TakeOutcome ×
    Transport × PartState :=
  ((s.pass.state, s.pass.outcome, s.pass.own.isSome), (s.plan.cursor, s.plan.passesRemaining, s.plan.stack),
    s.log.records.map TakeRec.outcome, s.agr.transport, s.port.part)

/-- The link state, and whether a line test runs. -/
def linkOf (s : State) : LinkState × Bool := (s.bus.link, s.bus.lineTest.isSome)

/-- What the stage stands at: position, locate record, pass, plan, takes and link. -/
def stageOf (s : State) := (rollOf s, passOf s, linkOf s)

theorem rollOf_of_stageOf {s t : State} (same : stageOf t = stageOf s) : rollOf t = rollOf s := congrArg Prod.fst same

theorem passOf_of_stageOf {s t : State} (same : stageOf t = stageOf s) : passOf t = passOf s := congrArg (·.2.1) same

theorem linkOf_of_stageOf {s t : State} (same : stageOf t = stageOf s) : linkOf t = linkOf s := congrArg (·.2.2) same

theorem stageOf_setMark (s : State) (n : Nat) (m : Mark) : stageOf (s.setMark n m) = stageOf s := by
  simp [stageOf, rollOf, passOf, linkOf]

theorem offer_link (f : QueuedFrame) (m : Bool) (s : State) :
    (offer f m s).2.bus.link = s.bus.link ∧ (offer f m s).2.bus.lineTest = s.bus.lineTest := by
  unfold offer
  split <;> exact ⟨rfl, rfl⟩

theorem stageOf_consoleOffer (f : QueuedFrame) (accept : State → Body) (s : State)
    (carried : ∀ t, stageOf (accept t).1 = stageOf t) : stageOf (consoleOffer f accept s).1 = stageOf s := by
  unfold consoleOffer
  split
  · rfl
  · rw [carried]
    simp [stageOf, rollOf, passOf, linkOf, offer_link]

/-- A branch of a command body that leaves the stage alone. -/
theorem stageOf_iteBody {c : Prop} [Decidable c] {s : State} {a b : Body} (yes : c → stageOf a.1 = stageOf s)
    (no : ¬ c → stageOf b.1 = stageOf s) : stageOf (if c then a else b).1 = stageOf s := by
  split
  · exact yes ‹_›
  · exact no ‹_›

/-- The commands that reach records, resets, the line test, the pass or the take log. -/
def reachesStage : Command → Bool
  | .configure _ | .start | .reset _ | .lineTest _ _ | .planRun | .planSkip | .planAbort | .readTake _ _ => true
  | _ => false

theorem stageOf_readCueAt (s : State) (i : Option Nat) : stageOf (readCueAt s i).1 = stageOf s := by
  unfold readCueAt
  split
  · split <;> rfl
  · rfl

/-- Every other command leaves the stage to the frame edge. -/
theorem stageOf_commandBody (c : Command) (s : State) (quiet : reachesStage c = false) :
    stageOf (commandBody c s).1 = stageOf s := by
  cases c with
  | configure _ | start | reset _ | lineTest _ _ | planRun | planSkip | planAbort | readTake _ _ => cases quiet
  | readStatus sec i =>
    refine stageOf_iteBody (fun _ => ?_) fun _ => stageOf_iteBody (fun _ => stageOf_iteBody (fun _ => rfl) fun _ => rfl) fun _ => ?_
    · split <;> rfl
    · split
      · exact stageOf_iteBody (fun _ => rfl) fun _ => rfl
      · rfl
  | readNotice =>
    change stageOf (readNoticeBody s).1 = _
    unfold readNoticeBody
    split <;> rfl
  | loadCue a =>
    refine stageOf_iteBody (fun _ => rfl) fun _ => stageOf_iteBody (fun _ => rfl) fun _ => ?_
    split
    · exact stageOf_iteBody (fun _ => rfl) fun _ => rfl
    · exact stageOf_iteBody (fun _ => rfl) fun _ => stageOf_iteBody (fun _ => rfl) fun _ => rfl
  | deleteCue id =>
    refine stageOf_iteBody (fun _ => rfl) fun _ => stageOf_iteBody (fun _ => rfl) fun _ => ?_
    split
    · rfl
    · exact stageOf_iteBody (fun _ => rfl) fun _ => rfl
  | clearCues => exact stageOf_iteBody (fun _ => rfl) fun _ => stageOf_iteBody (fun _ => rfl) fun _ => rfl
  | readCue sel =>
    refine stageOf_iteBody (fun _ => rfl) fun _ => ?_
    cases sel with
    | byId id => exact stageOf_iteBody (fun _ => rfl) fun _ => stageOf_readCueAt s _
    | byIndex i => exact stageOf_readCueAt s _
    | other k => rfl
  | planClear => exact stageOf_iteBody (fun _ => rfl) fun _ => rfl
  | planStep st =>
    refine stageOf_iteBody (fun _ => rfl) fun _ => ?_
    split
    · rfl
    · exact stageOf_iteBody (fun _ => rfl) fun _ => rfl
  | go =>
    refine stageOf_iteBody (fun _ => rfl) fun _ => ?_
    split
    · rfl
    · exact stageOf_consoleOffer _ _ s fun _ => rfl
  | transportLocate t r p =>
    exact stageOf_iteBody (fun _ => rfl) fun _ => stageOf_iteBody (fun _ => rfl) fun _ => stageOf_consoleOffer _ _ s fun _ => rfl
  | transportPlay r => exact stageOf_iteBody (fun _ => rfl) fun _ => stageOf_consoleOffer _ _ s fun _ => rfl
  | transportStop => exact stageOf_iteBody (fun _ => rfl) fun _ => stageOf_consoleOffer _ _ s fun _ => rfl
  | hold | release =>
    exact stageOf_iteBody (fun _ => rfl) fun _ => stageOf_iteBody (fun _ => rfl) fun _ =>
      stageOf_iteBody (fun _ => rfl) fun _ => stageOf_consoleOffer _ _ s fun _ => rfl
  | readPeers a =>
    exact stageOf_iteBody (fun _ => rfl) fun _ => stageOf_iteBody (fun _ => rfl) fun _ =>
      stageOf_iteBody (fun _ => rfl) fun _ => rfl
  | setMark a =>
    refine stageOf_iteBody (fun _ => rfl) fun _ => ?_
    split
    · rfl
    · exact stageOf_iteBody (fun _ => rfl) fun _ => stageOf_setMark _ _ _
  | clearMark n =>
    exact stageOf_iteBody (fun _ => rfl) fun _ => stageOf_iteBody (fun _ => rfl) fun _ => stageOf_setMark _ _ _
  | step c => exact stageOf_iteBody (fun _ => rfl) fun _ => stageOf_iteBody (fun _ => rfl) fun _ => rfl

theorem rollOf_removeTake (s : State) : rollOf (removeTake s) = rollOf s := by
  unfold removeTake
  dsimp only
  split
  · exact rollOf_of_agr (clearLogFull_agr _)
  · rfl

/-- The search, the preparation and the offer leave position and transport alone. -/
theorem rollOf_planRunBody (s : State) : rollOf (planRunBody s).1 = rollOf s := by
  have started := planStart_keeps s
  unfold planRunBody
  split_ifs
  · rfl
  · rfl
  · split
    case h_1 s1 a eq | h_2 s1 eq => simp_all [rollOf, answer, answerPlain]

theorem rollOf_planSkipBody (s : State) : rollOf (planSkipBody s).1 = rollOf s := by
  have given := planGiveUp_keeps s
  unfold planSkipBody
  split_ifs
  · rfl
  · split
    case h_1 s1 a eq | h_2 s1 eq => simp_all [rollOf, answer, answerPlain]

theorem rollOf_abortByState (s : State) : rollOf (abortByState s) = rollOf s := by
  unfold abortByState
  split <;> simp [rollOf, abortPass]

/-- Of the console commands CONFIGURE, START and RESET alone write position, transport or records; the stage moves at the frame edge. -/
theorem keepsPosition_commandBody (c : Command) (s : State) : KeepsPosition s (commandBody c s).1 := by
  cases c with
  | configure r => exact keepsPosition_configureBody r s
  | start =>
    exact .iteBody (fun _ => .refl s) fun config => .iteBody (fun _ => .refl s) fun _ =>
      keepsPosition_of_config (part_config config) rfl (.inl rfl) fun _ => ⟨nofun, nofun⟩
  | reset kind =>
    exact .iteBody (fun _ => keepsPosition_fullReset s) fun _ =>
      .iteBody (fun _ => .iteBody (fun running => keepsPosition_rejoinValues (of_decide_eq_true running)) fun _ => .refl s)
        fun _ => .refl s
  | lineTest m c =>
    refine .iteBody (fun _ => .refl s) fun _ => .iteBody (fun _ => .refl s) fun _ => ?_
    split
    · exact .iteBody (fun _ => .of_rollOf rfl) fun _ => .refl s
    · exact .refl s
  | planRun => exact .of_rollOf (rollOf_planRunBody s)
  | planSkip => exact .of_rollOf (rollOf_planSkipBody s)
  | planAbort =>
    have aborted : KeepsPosition s (abortByState (planEndRun s)) := .of_rollOf ((rollOf_abortByState (planEndRun s)).trans rfl)
    exact .iteBody (fun _ => .refl s) fun _ => aborted
  | readTake p r =>
    refine .iteBody (fun _ => .refl s) fun _ => .iteBody (fun _ => .refl s) fun _ => ?_
    split
    · exact .refl s
    · split
      · exact .refl s
      · exact iteInduction (motive := KeepsPosition s) (fun _ => .of_rollOf (rollOf_removeTake s)) fun _ => .refl s
  | _ => exact .of_rollOf (rollOf_of_stageOf (stageOf_commandBody _ s rfl))

/-! ## What a command can do to the stage -/

/-- How a command can move the stage: not at all, by its body at the console port, by a reset, by a frame edge, by a tick, by the end of a settle count, or in link and line test alone. -/
inductive StageMove (s : State) : State → Prop where
  | quiet {t : State} (same : stageOf t = stageOf s) : StageMove s t
  | command {t u : State} (c : Command) (before : stageOf u = stageOf s) (after : stageOf t = stageOf (commandBody c u).1) :
      StageMove s t
  | reset {t : State} (after : stageOf t = stageOf (fullReset s)) : StageMove s t
  | edge {t u : State} (running : s.port.part = .running) (before : stageOf u = stageOf s)
      (after : stageOf t = stageOf (frameEdge u)) : StageMove s t
  | tick {t u : State} (running : s.port.part = .running) (before : stageOf u = stageOf s)
      (after : stageOf t = stageOf (tickAdvance u)) : StageMove s t
  | settle {t u : State} (running : s.port.part = .running) (cueing : s.agr.transport = .cueing) (before : stageOf u = stageOf s)
      (after : stageOf t = stageOf (rollStep u)) : StageMove s t
  | link {t : State} (roll : rollOf t = rollOf s) (pass : passOf t = passOf s)
      (link : t.bus.link = s.bus.link ∨ t.bus.link = .active ∨ t.bus.link = .listenOnly ∨ s.bus.lineTest.isSome = true)
      (test : t.bus.lineTest.isSome = true → s.bus.lineTest.isSome = true) : StageMove s t

/-- An outcome that is a next state to which the stage has moved. -/
def Moves (s : State) (o : Host.Outcome State Fault Refusal) : Prop := ∃ t, o = .next t ∧ StageMove s t

theorem Moves.to {s t : State} (moved : StageMove s t) : Moves s (.next t) := ⟨t, rfl, moved⟩

theorem Moves.rest (s : State) : Moves s (.next s) := .to (.quiet rfl)

theorem Moves.ite {c : Prop} [Decidable c] {s : State} {a : Host.Outcome State Fault Refusal} (yes : c → Moves s a) :
    Moves s (if c then a else .next s) := by
  split
  · exact yes ‹_›
  · exact .rest s

theorem Moves.ite_not {c : Prop} [Decidable c] {s : State} {a : Host.Outcome State Fault Refusal} (no : ¬ c → Moves s a) :
    Moves s (if c then .next s else a) := by
  split
  · exact .rest s
  · exact no ‹_›

theorem running_of_live {s : State} (live : s.live = true) : s.port.part = .running :=
  of_decide_eq_true (Bool.and_eq_true_iff.1 live).2

/-! ## The stage bus and the stage (R27 to R44) -/

theorem map_outcome_of_kept {f : TakeRec → TakeRec} (kept : ∀ r, (f r).outcome = r.outcome) (l : List TakeRec) :
    (l.map f).map TakeRec.outcome = l.map TakeRec.outcome := by
  rw [List.map_map]
  exact List.map_congr_left fun r _ => kept r

/-- A write into the take that leaves its outcome leaves the stage. -/
theorem stageOf_writeTake (f : TakeRec → TakeRec) (s : State)
    (kept : ∀ r, (f r).outcome = r.outcome := by exact fun _ => rfl) : stageOf (writeTake f s) = stageOf s := by
  have outcomes : (writeTake f s).log.records.map TakeRec.outcome = s.log.records.map TakeRec.outcome :=
    map_outcome_of_kept (fun r => by split <;> simp [kept]) _
  simp [stageOf, rollOf, passOf, linkOf, outcomes]

@[simp] theorem stageOf_post (k : NoticeKind) (d : Nat) (s : State) : stageOf (post k d s) = stageOf s := by
  simp [stageOf, rollOf, passOf, linkOf]

theorem stageOf_handOn (f : BusFrame) (echo : Bool) (s : State) : stageOf (handOn f echo s) = stageOf s := by
  unfold handOn
  split
  · rfl
  · unfold flagRxOverrun
    exact (stageOf_writeTake _ _).trans (stageOf_post _ _ s)

/-- What the bus controller can do to the link: nothing, or a clash (R39). -/
structure LinkMove (s t : State) : Prop where
  roll : rollOf t = rollOf s
  pass : passOf t = passOf s
  link : t.bus.link = s.bus.link ∨ t.bus.link = .active ∨ t.bus.link = .listenOnly ∨ s.bus.lineTest.isSome = true
  test : t.bus.lineTest.isSome = true → s.bus.lineTest.isSome = true

theorem LinkMove.of_stageOf {s t : State} (same : stageOf t = stageOf s) : LinkMove s t where
  roll := rollOf_of_stageOf same
  pass := passOf_of_stageOf same
  link := .inl (congrArg (·.2.2.1) same)
  test h := (congrArg (·.2.2.2) same : t.bus.lineTest.isSome = s.bus.lineTest.isSome) ▸ h

theorem LinkMove.refl (s : State) : LinkMove s s := .of_stageOf rfl

theorem LinkMove.trans {s t u : State} (st : LinkMove s t) (tu : LinkMove t u) : LinkMove s u where
  roll := tu.roll.trans st.roll
  pass := tu.pass.trans st.pass
  link := by
    rcases tu.link with same | up | down | test
    · rw [same]
      exact st.link
    · exact .inr (.inl up)
    · exact .inr (.inr (.inl down))
    · exact .inr (.inr (.inr (st.test test)))
  test := st.test ∘ tu.test

theorem LinkMove.ite {c : Prop} [Decidable c] {s t u : State} (yes : c → LinkMove s t) (no : ¬ c → LinkMove s u) :
    LinkMove s (if c then t else u) := by
  split
  · exact yes ‹_›
  · exact no ‹_›

theorem LinkMove.move {s t : State} (h : LinkMove s t) : StageMove s t := .link h.roll h.pass h.link h.test

theorem linkMove_addressClash (s : State) : LinkMove s (addressClash s) := by
  refine .ite (fun _ => .refl s) fun _ => .trans ?_ (.of_stageOf (stageOf_post _ _ _))
  exact ⟨rfl, rfl, .inr (.inr (.inl rfl)), id⟩

theorem linkMove_foreignFrame (f : BusFrame) (s : State) : LinkMove s (foreignFrame f s) := by
  unfold foreignFrame
  split
  case h_1 | h_2 | h_3 =>
    exact .ite (fun _ => .refl s) fun _ => .ite (fun _ => linkMove_addressClash s) fun _ => .of_stageOf (stageOf_handOn f false s)
  case h_4 | h_5 => exact .refl s

theorem linkMove_received (outcomes : List RxOutcome) (s : State) : LinkMove s (received outcomes s) := by
  induction outcomes generalizing s with
  | nil => exact .refl s
  | cons o rest ih =>
    cases o with
    | complete f => exact (linkMove_foreignFrame f s).trans (ih _)
    | discard => exact ih s

/-- A write of the bus controller that leaves the link, and leaves a line test or begins none. -/
theorem linkMove_setBus (s : State) (x : BusCtl) (link : x.link = s.bus.link := by rfl)
    (test : x.lineTest = s.bus.lineTest := by rfl) : LinkMove s (s.setBus x) :=
  ⟨rfl, rfl, .inl link, fun h => by rwa [State.setBus_bus, test] at h⟩

theorem linkMove_endTest (r : TestResult) {s : State} (runs : s.bus.lineTest.isSome = true) : LinkMove s (endTest r s) :=
  ⟨rfl, rfl, .inr (.inr (.inr runs)), nofun⟩

theorem linkMove_setTest (s : State) (t : LineTest) (runs : s.bus.lineTest.isSome = true) :
    LinkMove s (s.setBus { s.bus with lineTest := some t }) :=
  ⟨rfl, rfl, .inl rfl, fun _ => runs⟩

theorem linkMove_testGoesOn (t : LineTest) (rx : Receiver) (line : List Bool) {s : State} (runs : s.bus.lineTest.isSome = true) :
    LinkMove s (testGoesOn t rx line s) := by
  refine .ite (fun _ => .ite (fun _ => linkMove_endTest _ runs) fun _ => linkMove_setTest s _ runs) fun _ => ?_
  split
  · exact linkMove_setTest s _ runs
  · exact linkMove_endTest _ runs

theorem linkMove_hear (line : List Bool) (s : State) : LinkMove s (hear line s) := by
  unfold hear
  dsimp only
  split
  case h_1 t runs => exact (linkMove_setBus s _).trans (linkMove_testGoesOn t _ _ (by simp [runs]))
  case h_2 => exact linkMove_setBus s _

theorem linkMove_testFrameBits (line : List Bool) (t : LineTest) {s : State} (runs : s.bus.lineTest.isSome = true) :
    LinkMove s (testFrameBits line t s) := by
  unfold testFrameBits
  dsimp only
  split
  · exact (linkMove_setBus s _).trans (linkMove_testGoesOn _ _ _ runs)
  · exact (linkMove_setBus s (beginAbort _ s.bus)).trans (linkMove_testGoesOn _ _ _ runs)
  · exact (linkMove_setBus s _).trans (linkMove_testGoesOn _ _ _ runs)
  · exact .ite (fun _ => linkMove_setBus s _) fun _ => .refl s

theorem linkMove_entryBitError (after : List Bool) (s : State) : LinkMove s (entryBitError after s) := by
  refine .trans (.ite (fun _ => ?_) fun _ => ?_) (linkMove_received _ _)
  · exact linkMove_setBus s (beginAbort after (unmarkOnLine true s.bus))
  · exact (linkMove_setBus s (beginAbort after (dropOnLine s.bus))).trans (.of_stageOf (stageOf_post _ _ _))

theorem linkMove_echoComplete (f : BusFrame) (after : List Bool) (s : State) : LinkMove s (echoComplete f after s) := by
  refine .trans (.trans ?_ (.of_stageOf (stageOf_handOn _ _ _))) (linkMove_received _ _)
  exact linkMove_setBus s { dropOnLine s.bus with rx := (runRx ⟨8, none⟩ after).1 }

theorem moves_transmitStart (line : List Bool) (s : State) : Moves s (execTransmitStart line s) := by
  refine .ite fun _ => ?_
  split
  · exact .to (linkMove_setBus s _).move
  · exact .rest s

theorem moves_arbitrationLoss (line : List Bool) (s : State) : Moves s (execArbitrationLoss line s) := by
  unfold execArbitrationLoss
  split
  · split
    case h_1 t runs => exact .ite fun _ => .to (linkMove_testFrameBits line t (by simp [runs])).move
    case h_2 =>
      refine .ite fun _ => .to (LinkMove.trans ?_ (linkMove_received _ _)).move
      exact linkMove_setBus s { unmarkOnLine false s.bus with rx := (runRx s.bus.rx line).1 }
  · exact .rest s

theorem moves_bitError (line : List Bool) (s : State) : Moves s (execBitError line s) := by
  unfold execBitError
  split
  · split
    case h_1 t runs => exact .ite fun _ => .to (linkMove_testFrameBits line t (by simp [runs])).move
    case h_2 => exact .ite fun _ => .to (linkMove_entryBitError _ s).move
  · exact .rest s

theorem moves_frameComplete (line : List Bool) (s : State) : Moves s (execFrameComplete line s) := by
  refine .ite_not fun _ => ?_
  split
  case h_1 f t _ runs => exact .ite fun _ => .to (linkMove_testFrameBits _ t (by simp [runs])).move
  case h_2 => exact .ite fun _ => .to (linkMove_echoComplete _ _ s).move
  case h_3 => exact .ite fun _ => .to ((linkMove_hear line s).trans (linkMove_received _ _)).move

theorem moves_lineTestFrame (line : List Bool) (s : State) : Moves s (execLineTestFrame line s) := by
  refine .ite fun _ => ?_
  split
  case h_1 => exact .rest s
  case h_2 t test =>
    have runs : s.bus.lineTest.isSome = true := by simp [test]
    split
    · exact .ite fun _ => .to (linkMove_endTest _ runs).move
    split
    · exact .to (linkMove_testFrameBits _ t runs).move
    · exact .ite fun _ => .to (linkMove_testFrameBits _ t runs).move
    · exact .rest s

theorem moves_lineBusy (line : List Bool) (s : State) : Moves s (execLineBusy line s) := by
  refine .ite fun _ => ?_
  split
  case h_1 t test => exact .ite fun _ => .to (linkMove_endTest _ (by simp [test])).move
  case h_2 => exact .rest s

/-! ## The reference unit and the other events (R1 to R12) -/

theorem stageOf_setRef (s : State) (u : RefUnit) : stageOf (s.setRef u) = stageOf s := rfl

/-- A candidate edge is a frame edge but for the one absorbed in HOLDOVER (R4 to R10). -/
theorem moves_candidateEdge {x : Nat} {s u : State} (running : s.port.part = .running) (before : stageOf u = stageOf s) :
    StageMove s (candidateEdge x u) := by
  have plain : ∀ r, StageMove s (frameEdge (u.setRef r)) := fun r =>
    .edge running (u := u.setRef r) before rfl
  unfold candidateEdge
  split
  · refine iteInduction (motive := StageMove s) (fun _ => .edge running (u := post .refLocked 0 (u.setRef _)) ?_ rfl) fun _ => plain _
    exact (stageOf_post _ _ _).trans before
  · exact plain _
  · refine iteInduction (motive := StageMove s) (fun _ => plain _) fun _ => .edge running (u := flagRefUnstable (u.setRef _)) ?_ rfl
    exact (stageOf_writeTake _ _).trans before
  · exact iteInduction (motive := StageMove s) (fun _ => .quiet before) fun _ => plain _
  · exact plain _

theorem moves_refPulse (t : RefTransition) (heldNs instant : Nat) (s : State) : Moves s (execRefPulse t heldNs instant s) := by
  refine .ite fun qualified => ?_
  have running : s.port.part = .running :=
    running_of_live (Bool.and_eq_true_iff.1 (Bool.and_eq_true_iff.1 qualified).1).1
  split
  · exact .to (moves_candidateEdge running (by rfl))
  split
  · exact .to (moves_candidateEdge running (by rfl))
  · exact .to (.quiet rfl)

theorem moves_watchdogExpiry (s : State) : Moves s (execWatchdogExpiry s) := by
  refine .ite fun live => ?_
  split
  · exact .to (.quiet rfl)
  · refine .to (.edge (running_of_live live) (u := flagRefUnstable (post .refLost 0 _)) ?_ rfl)
    exact (stageOf_writeTake _ _).trans (stageOf_post _ _ _)
  · exact .rest s

theorem moves_synthesisedEdge (s : State) : Moves s (execSynthesisedEdge s) := by
  refine .ite fun live => ?_
  split
  · exact .to (.edge (running_of_live live) (stageOf_setRef s _) rfl)
  · exact .rest s

theorem moves_steppedEdge (s : State) : Moves s (execSteppedEdge s) := by
  refine .ite fun live => ?_
  split
  · dsimp only
    split
    · exact .to (.edge (running_of_live live) (u := s) rfl rfl)
    · exact .to (.edge (running_of_live live) (u := s) rfl rfl)
  · exact .rest s

theorem stageOf_arrive (value : Nat) (s : State) : stageOf (arrive value s) = stageOf s := by
  unfold arrive judgeSample trigger
  split
  · split
    · rfl
    · split <;> rfl
    · split
      · split
        · exact stageOf_writeTake _ _
        · rfl
      · rfl
  · rfl

theorem stageOf_levelPulse (s : State) (x : LevelPulse) : stageOf (levelPulse s x) = stageOf s := by
  cases x with
  | sync => rfl
  | clock b =>
    unfold levelPulse
    dsimp only
    split
    · rfl
    · split
      · rw [stageOf_arrive]
        rfl
      · rfl

theorem stageOf_offerTagged (f : QueuedFrame) (m : Bool) (s : State) : stageOf (offerTagged f m s) = stageOf s := by
  simp [stageOf, rollOf, passOf, linkOf, offer_link]

theorem stageOf_offerInternal (f : QueuedFrame) (s : State) : stageOf (offerInternal f s) = stageOf s := stageOf_offerTagged f false s

theorem stageOf_raiseMark (s : State) : stageOf (raiseMark s) = stageOf s := by
  unfold raiseMark raiseReasons
  split
  · rfl
  · split
    · rfl
    · rw [stageOf_offerInternal]
      rfl

theorem stageOf_fireMark (offered : Bool) (n : Nat) (s : State) : stageOf (fireMark offered n s) = stageOf s := by
  unfold fireMark
  dsimp only
  rw [stageOf_setMark, ← stageOf_post .markFired n s]
  cases (s.mark n).action with
  | notice => rfl
  | hold => exact stageOf_raiseMark _
  | stop =>
    unfold markAction markStop
    dsimp only
    split
    · rfl
    · exact stageOf_offerTagged _ _ _

theorem stageOf_losePeer (a : Nat) (s : State) : stageOf (losePeer a s) = stageOf s := by
  unfold losePeer State.setSlot Agreement.setSlot
  dsimp only
  rw [stageOf_post]
  split <;> rfl

theorem stageOf_offerBeacon (s : State) : stageOf (offerBeacon s) = stageOf s := by
  unfold offerBeacon
  rw [stageOf_offerInternal]
  rfl

theorem stageOf_closureTest (s : State) : stageOf (closureTest s) = stageOf s := by
  unfold closureTest
  dsimp only
  split
  · split
    · rw [stageOf_offerInternal]
      rfl
    · rfl
  · rfl

theorem linkMove_linkUp (s : State) : LinkMove s (linkUp s) := by
  refine .trans (t := s.setBus { s.bus with link := .active, listeningCount := 0 }) ?_ (.of_stageOf ?_)
  · exact ⟨rfl, rfl, .inr (.inl rfl), id⟩
  · unfold linkUp
    dsimp only
    rw [stageOf_offerBeacon]
    rfl

theorem take_moves (c : Command) (s : State) : StageMove s (take (servedInTest c) (commandBody c) s) := by
  refine iteInduction (motive := StageMove s) (fun _ => .quiet rfl) fun _ => ?_
  unfold process
  dsimp only
  split
  · exact .quiet rfl
  · exact .command c (u := s.setResponse none) rfl rfl

theorem take_moves_plain (st : Status) (s : State) : StageMove s (take true (answerPlain st) s) :=
  iteInduction (motive := StageMove s) (fun _ => .quiet rfl) fun _ => .quiet (by
    unfold process
    dsimp only
    split <;> rfl)

/-- A move is told by where the stage stands after it. -/
theorem StageMove.congr {s t u : State} (same : stageOf u = stageOf t) (moved : StageMove s t) : StageMove s u := by
  cases moved with
  | quiet h => exact .quiet (same.trans h)
  | command c before after => exact .command c before (same.trans after)
  | reset after => exact .reset (same.trans after)
  | edge running before after => exact .edge running before (same.trans after)
  | tick running before after => exact .tick running before (same.trans after)
  | settle running cueing before after => exact .settle running cueing before (same.trans after)
  | link roll pass link test =>
    exact (LinkMove.trans ⟨roll, pass, link, test⟩ (.of_stageOf same)).move

theorem moves_transfer (message : List Byte) (s : State) : Moves s (execTransfer message s) := by
  refine .to (.congr (t := if isPoll (message.take Config.messageCapacity) then s
    else runMessage (message.take Config.messageCapacity) s) rfl (iteInduction (motive := StageMove s) (fun _ => .quiet rfl) fun _ => ?_))
  unfold runMessage
  split
  · exact take_moves_plain _ s
  · exact take_moves_plain _ s
  · exact take_moves _ s

/-- Every command answers a next state to which the stage has moved in one of the ways named. -/
theorem exec_moves (i : Instr) (s : State) : Moves s (exec i s) := by
  cases command : i.command with
  | some c => exact ⟨_, exec_of_command command s, take_moves c s⟩
  | none =>
    cases i <;> simp only [Instr.command, reduceCtorEq] at command
    case transfer message => exact moves_transfer message s
    case powerOn => exact .to (.reset rfl)
    case resetn => exact .to (.reset rfl)
    case resetnRelease => exact .to (.quiet rfl)
    case refPulse t heldNs instant => exact moves_refPulse t heldNs instant s
    case watchdogExpiry => exact moves_watchdogExpiry s
    case synthesisedEdge => exact moves_synthesisedEdge s
    case tick =>
      exact .ite fun live => .to (.tick (running_of_live (Bool.and_eq_true_iff.1 live).1) (stageOf_setRef s _) rfl)
    case steppedEdge => exact moves_steppedEdge s
    case holdExpired a =>
      refine .ite fun _ => .to (iteInduction (motive := StageMove s) (fun _ => .quiet ?_) fun _ => .quiet rfl)
      exact stageOf_post _ _ (dropHold a s)
    case peerLost a => exact .ite fun _ => .to (.quiet (stageOf_losePeer a s))
    case settleEnd =>
      refine .ite fun due => ?_
      have due : (s.live = true ∧ s.agr.transport = .cueing) ∧ s.agr.settle = 1 := by simpa using due
      exact .to (.settle (running_of_live due.1.1) due.1.2 (u := s.setAgr { s.agr with settle := 0 }) rfl rfl)
    case beaconDue => exact .ite fun _ => .to (.quiet (stageOf_offerBeacon s))
    case linkActive => exact .ite fun _ => .to (linkMove_linkUp s).move
    case transmitStart line => exact moves_transmitStart line s
    case arbitrationLoss line => exact moves_arbitrationLoss line s
    case bitError line => exact moves_bitError line s
    case frameComplete line => exact moves_frameComplete line s
    case frameDiscard line => exact .ite fun _ => .to (linkMove_hear line s).move
    case lineTestFrame line => exact moves_lineTestFrame line s
    case lineBusy line => exact moves_lineBusy line s
    case closureOffer => exact .ite fun _ => .to (.quiet (stageOf_closureTest s))
    case ovsync => exact .ite_not fun _ => .to (.quiet rfl)
    case levelSample pulses => exact .ite_not fun _ => .to (.quiet (foldl_keeps stageOf levelPulse stageOf_levelPulse pulses s))
    case markFired n => exact .ite fun _ => .to (.quiet (stageOf_fireMark false n s))
    case ovclk => exact .ite_not fun _ => .to (.quiet rfl)

/-- A step moves the stage as the command at the front of the queue does. -/
theorem step_moves {s t : State} (stepped : step s = .next t) : StageMove s t ∨ ∃ rest, StageMove (s.setPending rest) t := by
  unfold step at stepped
  split at stepped
  · cases stepped
    exact .inl (.quiet rfl)
  · obtain ⟨u, ran, moved⟩ := exec_moves _ (s.setPending _)
    rw [ran] at stepped
    cases stepped
    exact .inr ⟨_, moved⟩

/-! ## Position and locate record over a step -/

theorem KeepsPosition.of_stageOf {s t : State} (same : stageOf t = stageOf s) : KeepsPosition s t := .of_rollOf (rollOf_of_stageOf same)

theorem keepsPosition_rollStep {s : State} (running : s.port.part = .running) (cueing : s.agr.transport = .cueing) :
    KeepsPosition s (rollStep s) where
  position h := ((keepsPlace_rollStep s).edge ⟨h, h.atRest (cueing ▸ nofun), running⟩).sound
  locate := (keepsPlace_rollStep s).locate

theorem StageMove.keepsPosition {s t : State} (moved : StageMove s t) : KeepsPosition s t := by
  have part : ∀ {u : State}, stageOf u = stageOf s → u.port.part = s.port.part := fun same => congrArg (fun x => x.1.2.2.1) same
  have transport : ∀ {u : State}, stageOf u = stageOf s → u.agr.transport = s.agr.transport := fun same =>
    congrArg (fun x => x.1.2.2.2.1) same
  cases moved with
  | quiet same => exact .of_stageOf same
  | command c before after => exact (KeepsPosition.of_stageOf before).trans ((keepsPosition_commandBody c _).trans (.of_stageOf after))
  | reset after => exact (keepsPosition_fullReset s).trans (.of_stageOf after)
  | edge running before after =>
    exact (KeepsPosition.of_stageOf before).trans ((keepsPosition_frameEdge ((part before).trans running)).trans (.of_stageOf after))
  | tick running before after =>
    exact (KeepsPosition.of_stageOf before).trans ((keepsPosition_tickAdvance ((part before).trans running)).trans (.of_stageOf after))
  | settle running cueing before after =>
    exact (KeepsPosition.of_stageOf before).trans
      ((keepsPosition_rollStep ((part before).trans running) ((transport before).trans cueing)).trans (.of_stageOf after))
  | link roll pass link test => exact .of_rollOf roll

theorem step_keepsPosition {s t : State} (stepped : step s = .next t) : KeepsPosition s t := by
  rcases step_moves stepped with moved | ⟨rest, moved⟩
  · exact moved.keepsPosition
  · exact .trans (.of_stageOf (t := s.setPending rest) rfl) moved.keepsPosition

/-- Settles O59: orders and lines are kept operation by operation, position and locate record by what a command can do to the stage. -/
theorem stepsKeepRanges : Obligations.StepsKeepRanges :=
  ⟨fun _ _ h stepped => (step_keepsPosition stepped).position h, fun _ _ h stepped => (step_keepsPosition stepped).locate h,
    fun _ _ h stepped => (step_keeps stepped).tables h, fun _ _ h stepped => (step_keeps stepped).events h,
    fun _ _ h stepped => (step_keeps stepped).lines h⟩

end Sys2Proof.Machine

/-! PROOF. Pass state, take log and plan over a step (R89 to R118, R169 to R173): what an operation leaves of them, the plan unit's answer, the begin, the clearing and the abandonment of a pass, and the commands. -/

namespace Sys2Proof.Machine

-- One proof after another: under the check's memory limit there is no room for a thread per proof.
set_option Elab.async false

/-! ## The outcomes of the take log -/

/-- The outcomes of the take records, oldest first. -/
def takesOf (s : State) : List TakeOutcome := s.log.records.map TakeRec.outcome

theorem takesOf_writeTake (f : TakeRec → TakeRec) (s : State) (kept : ∀ r, (f r).outcome = r.outcome) :
    takesOf (writeTake f s) = takesOf s :=
  map_outcome_of_kept (fun r => by split <;> simp [kept]) _

theorem takesOf_of_log {s t : State} (log : t.log = s.log) : takesOf t = takesOf s := by rw [takesOf, log, takesOf]

@[simp] theorem takesOf_writeTakeCue (c : Nat) (f : TakeCue → TakeCue) (s : State) : takesOf (writeTakeCue c f s) = takesOf s :=
  takesOf_writeTake _ _ fun _ => rfl

@[simp] theorem takesOf_flagLateEvents (s : State) : takesOf (flagLateEvents s) = takesOf s := takesOf_writeTake _ _ fun _ => rfl

@[simp] theorem takesOf_flagTakeSync (n : Nat) (s : State) : takesOf (flagTakeSync n s) = takesOf s :=
  map_outcome_of_kept (fun r => by split <;> rfl) _

@[simp] theorem takesOf_landSlip (n : Option Nat) (c : Nat) (s : State) : takesOf (landSlip n c s) = takesOf s := by
  unfold landSlip
  split
  · simp
  · split
    · exact takesOf_writeTake _ _ fun _ => rfl
    · simp

@[simp] theorem takesOf_requestBuild (s : State) : takesOf (requestBuild s) = takesOf s := by
  unfold requestBuild
  split
  · split
    · unfold build
      dsimp only
      split
      · exact takesOf_flagLateEvents _
      · rfl
    · rfl
  · rfl

@[simp] theorem takesOf_handHeld (h : HeldSet) (s : State) : takesOf (handHeld h s) = takesOf s := takesOf_requestBuild _

@[simp] theorem takesOf_closeWindow (c : Nat) (s : State) : takesOf (closeWindow c s) = takesOf s := by
  unfold closeWindow
  split
  · dsimp only
    split
    · rfl
    · exact takesOf_writeTakeCue _ _ _
  · rfl

@[simp] theorem takesOf_closeWindows (s : State) : takesOf (closeWindows s) = takesOf s :=
  foldl_keeps takesOf _ (fun s c => takesOf_closeWindow c s) _ s

theorem takesOf_fireEvent (s : State) (e : Event) : takesOf (fireEvent s e) = takesOf s := by
  unfold fireEvent
  split
  case h_1 =>
    unfold fireStreamer
    dsimp only
    split
    · rfl
    · split
      · rfl
      · exact takesOf_writeTakeCue _ _ _
  case h_6 => exact takesOf_writeTake _ _ fun _ => by split <;> rfl
  case h_7 => exact takesOf_writeTake _ _ fun _ => rfl
  case h_8 => exact takesOf_closeWindow _ _
  all_goals rfl

@[simp] theorem takesOf_handAdvance (s : State) : takesOf (handAdvance s) = takesOf s := by
  refine (takesOf_of_log (openWindows_keeps _).2.2.2.2.2.2.2.2.2.2.2.1).trans ?_
  unfold fireGroup
  dsimp only
  split
  · rfl
  · exact foldl_keeps takesOf fireEvent takesOf_fireEvent _ _

/-- A closed take leaves none IN_PROGRESS (R171). -/
theorem inProgress_not_mem_closeTake {o : TakeOutcome} (closed : o ≠ .inProgress) (s : State) :
    .inProgress ∉ takesOf (closeTake o s) := by
  unfold takesOf closeTake writeTake
  simp only [State.setLog_log, List.map_map, List.mem_map, not_exists, not_and, Function.comp]
  intro r _
  split
  · exact closed
  · assumption

/-- The last of a list of outcomes is its one IN_PROGRESS. -/
def OpenNewest (l : List TakeOutcome) : Prop := ∃ before, l = before ++ [.inProgress] ∧ .inProgress ∉ before

/-- The record that leaves the log is the oldest closed one, so that the newest stays newest (R174). -/
theorem OpenNewest.eraseP_closed {l : List TakeRec} (h : OpenNewest (l.map TakeRec.outcome)) :
    OpenNewest ((l.eraseP TakeRec.closed).map TakeRec.outcome) := by
  obtain ⟨before, split, closed⟩ := h
  obtain ⟨front, last, rfl, rfl, outcome⟩ := List.map_eq_append_iff.1 split
  obtain ⟨r, rfl⟩ := List.length_eq_one_iff.1 (by simpa using congrArg List.length outcome)
  have open' : r.outcome = .inProgress := by simpa using outcome
  by_cases some : ∃ x ∈ front, x.closed = true
  · obtain ⟨x, mem, isClosed⟩ := some
    refine ⟨(front.eraseP TakeRec.closed).map TakeRec.outcome, ?_, fun mem => closed ?_⟩
    · rw [List.eraseP_append_left isClosed _ mem]
      simp [open']
    · exact ((List.eraseP_sublist).map _).subset mem
  · refine ⟨front.map TakeRec.outcome, ?_, closed⟩
    rw [List.eraseP_of_forall_not]
    · simp [open']
    · simp only [List.mem_append, List.mem_singleton]
      rintro x (mem | rfl)
      · exact fun isClosed => some ⟨x, mem, isClosed⟩
      · simp [TakeRec.closed, open']

/-! ## The plan unit's answers (R91 to R101) -/

/-- Without a cursor the stack is empty and no passes remain (R89, R91). -/
def PlanRests (p : PlanUnit) : Prop := p.cursor = none → p.stack = [] ∧ p.passesRemaining = 0

/-- A search ends at a CUE step (R93). -/
theorem search_found {steps : List PlanStep} {cues : List CueRec} {i : Nat} (fuel : Nat) (stack : List (StackEntry × Bool))
    (pos : SearchPos) (found : (search steps cues fuel stack pos).found = some i) :
    ∃ first run passes mode, steps[i]? = some (.cue first run passes mode) ∧ (findCue cues first).isSome = true := by
  induction fuel generalizing stack pos with
  | zero => cases found
  | succ fuel ih =>
    cases pos with
    | enter j =>
      unfold search at found
      split at found
      · cases found
      · exact ih _ _ found
      · rename_i step
        split at found
        case isTrue present =>
          cases found
          exact ⟨_, _, _, _, step, present⟩
        case isFalse => exact ih _ _ found
    | leave x =>
      cases stack with
      | nil => exact ih _ _ found
      | cons entry rest =>
        unfold search at found
        split at found
        · exact ih _ _ found
        split at found
        · exact ih _ _ found
        · exact ih _ _ found

theorem takeSearch_plan (r : SearchResult) (s : State) : (takeSearch r s).plan =
    match r.found with
    | some i => { s.plan with cursor := some i, passesRemaining := stepPasses s.plan.steps i, stack := r.stack }
    | none => { s.plan with cursor := none, passesRemaining := 0, stack := [] } := by
  have posted : (r.skipped.foldl (fun t id => post .planSkip id t) s).plan = s.plan :=
    foldl_keeps State.plan (fun t id => post .planSkip id t) (by simp) r.skipped s
  cases found : r.found <;> simp [takeSearch, found, posted]

/-- A search leaves the cursor at the step found, with an answer there, or a plan at rest. -/
theorem searchAnswer_plan (pos : SearchPos) (s : State) :
    (searchAnswer pos s).1.plan.steps = s.plan.steps ∧ PlanRests (searchAnswer pos s).1.plan ∧
      ((searchAnswer pos s).2 = none → (searchAnswer pos s).1.plan.cursor = none) := by
  unfold searchAnswer
  dsimp only
  have plan := takeSearch_plan (s.search pos) s
  cases found : (s.search pos).found with
  | none =>
    rw [found] at plan
    simp [plan, PlanRests]
  | some i =>
    rw [found] at plan
    obtain ⟨first, run, passes, mode, step, -⟩ := search_found _ _ _ found
    simp [plan, PlanRests, stepAnswer, step]

theorem planSame_plan (i : Nat) {s : State} (cursor : s.plan.cursor = some i) :
    PlanRests (planSame i s).1.plan ∧ ((planSame i s).2 = none → (planSame i s).1.plan.cursor = none) := by
  unfold planSame
  split
  case isTrue present =>
    refine ⟨fun none => absurd (none.symm.trans cursor) nofun, fun unanswered => ?_⟩
    unfold stepCuePresent at present
    unfold stepAnswer at unanswered
    split at present
    · simp_all
    · cases present
  case isFalse => exact (searchAnswer_plan _ _).2

/-- A request of the pass controller ends the run exactly where it answers none (R98 to R100). -/
theorem planAdvance_plan {s : State} (rests : PlanRests s.plan) :
    PlanRests (planAdvance s).1.plan ∧ ((planAdvance s).2 = none → (planAdvance s).1.plan.cursor = none) := by
  unfold planAdvance
  split
  case h_1 none => exact ⟨rests, fun _ => none⟩
  case h_2 i cursor =>
    dsimp only
    split
    · exact (searchAnswer_plan _ _).2
    · exact planSame_plan i cursor

theorem planAgain_plan {s : State} (rests : PlanRests s.plan) :
    PlanRests (planAgain s).1.plan ∧ ((planAgain s).2 = none → (planAgain s).1.plan.cursor = none) := by
  unfold planAgain
  split
  case h_1 none => exact ⟨rests, fun _ => none⟩
  case h_2 i cursor => exact planSame_plan i cursor

theorem planGiveUp_plan {s : State} (rests : PlanRests s.plan) :
    PlanRests (planGiveUp s).1.plan ∧ ((planGiveUp s).2 = none → (planGiveUp s).1.plan.cursor = none) := by
  unfold planGiveUp
  split
  case h_1 none => exact ⟨rests, fun _ => none⟩
  case h_2 i cursor => exact (searchAnswer_plan _ _).2

/-! ## The link over the operations that offer frames -/

@[simp] theorem offer_bus_link (f : QueuedFrame) (m : Bool) (s : State) :
    (offer f m s).2.bus.link = s.bus.link ∧ (offer f m s).2.bus.lineTest = s.bus.lineTest := offer_link f m s

@[simp] theorem offerTagged_link (f : QueuedFrame) (m : Bool) (s : State) :
    (offerTagged f m s).bus.link = s.bus.link ∧ (offerTagged f m s).bus.lineTest = s.bus.lineTest := by
  unfold offerTagged
  split <;> simp

@[simp] theorem offerInternal_link (f : QueuedFrame) (s : State) :
    (offerInternal f s).bus.link = s.bus.link ∧ (offerInternal f s).bus.lineTest = s.bus.lineTest := offerTagged_link f false s

@[simp] theorem offerWindow_link (s : State) :
    (offerWindow s).bus.link = s.bus.link ∧ (offerWindow s).bus.lineTest = s.bus.lineTest := by
  unfold offerWindow
  split <;> simp

@[simp] theorem raiseLogFull_link (s : State) :
    (raiseLogFull s).bus.link = s.bus.link ∧ (raiseLogFull s).bus.lineTest = s.bus.lineTest := by
  unfold raiseLogFull raiseReasons
  split
  · simp
  · split <;> simp

@[simp] theorem clearLogFull_link (s : State) :
    (clearLogFull s).bus.link = s.bus.link ∧ (clearLogFull s).bus.lineTest = s.bus.lineTest := by
  unfold clearLogFull
  split
  · split <;> simp
  · simp

@[simp] theorem reserveTake_link (w : OwnWindow) (s : State) :
    (reserveTake w s).bus.link = s.bus.link ∧ (reserveTake w s).bus.lineTest = s.bus.lineTest := by
  unfold reserveTake
  dsimp only
  split <;> simp

/-! ## What pass and take log keep -/

/-- The pass controller and the take log agree, but for the transport (R172). -/
structure TakesAgree (s : State) : Prop where
  inPass : s.pass.state = .inPass → OpenNewest (takesOf s)
  outside : s.pass.state ≠ .inPass → .inProgress ∉ takesOf s
  link : s.pass.state = .inPass → s.bus.link = .active ∨ s.bus.link = .listenOnly
  config : s.port.part = .config → s.pass.state = .idle
  test : s.bus.lineTest.isSome = true → s.port.part = .config

/-- A pass runs under a ROLLING transport alone (R110, R115). -/
abbrev PassRolls (s : State) : Prop := s.pass.state = .inPass → s.agr.transport = .rolling

theorem openCount_eq (s : State) : s.log.openCount = (takesOf s).count .inProgress := by
  unfold TakeLog.openCount takesOf List.count
  rw [List.countP_map]
  rfl

theorem openNewest_iff (l : List TakeOutcome) : OpenNewest l ↔ l.count .inProgress = 1 ∧ l.getLast? = some .inProgress := by
  constructor
  · rintro ⟨before, rfl, closed⟩
    simp [List.count_eq_zero.2 closed]
  · rintro ⟨one, last⟩
    obtain ⟨before, rfl⟩ := List.getLast?_eq_some_iff.1 last
    refine ⟨before, rfl, List.count_eq_zero.1 ?_⟩
    simpa using one

theorem passSound_iff (s : State) : PassSound s ↔ TakesAgree s ∧ PassRolls s := by
  constructor
  · intro h
    have count := h.openRecord
    have newest := h.newest
    rw [openCount_eq] at count
    refine ⟨⟨fun inPass => (openNewest_iff _).2 ⟨by simpa [inPass] using count, ?_⟩, fun out => ?_, h.link, h.config, h.test⟩, h.rolls⟩
    · rw [takesOf, List.getLast?_map]
      exact newest inPass
    · exact List.count_eq_zero.1 (by simpa [out] using count)
  · rintro ⟨h, rolls⟩
    refine ⟨?_, fun inPass => ?_, rolls, h.link, h.config, h.test⟩
    · rw [openCount_eq]
      split
      case isTrue inPass => exact ((openNewest_iff _).1 (h.inPass inPass)).1
      case isFalse out => exact List.count_eq_zero.2 (h.outside out)
    · rw [← List.getLast?_map]
      exact ((openNewest_iff _).1 (h.inPass inPass)).2

/-- Pass, take log and plan stay in agreement. -/
structure KeepsRun (s t : State) : Prop where
  takes : TakesAgree s → TakesAgree t
  run : RunSound s → RunSound t

theorem KeepsRun.refl (s : State) : KeepsRun s s := ⟨id, id⟩

theorem KeepsRun.trans {s t u : State} (st : KeepsRun s t) (tu : KeepsRun t u) : KeepsRun s u :=
  ⟨tu.takes ∘ st.takes, tu.run ∘ st.run⟩

theorem KeepsRun.ite {c : Prop} [Decidable c] {s t u : State} (yes : c → KeepsRun s t) (no : ¬ c → KeepsRun s u) :
    KeepsRun s (if c then t else u) := by
  split
  · exact yes ‹_›
  · exact no ‹_›

/-- What decides the agreement of pass, take log and plan, but for the transport. -/
def runOf (s : State) : (PassState × Option PlanOutcome × Bool) × (Option Nat × Nat × List StackEntry) × List TakeOutcome ×
    PartState × LinkState × Bool :=
  ((s.pass.state, s.pass.outcome, s.pass.own.isSome), (s.plan.cursor, s.plan.passesRemaining, s.plan.stack), takesOf s,
    s.port.part, linkOf s)

theorem runOf_of_passOf {s t : State} (pass : passOf t = passOf s) (link : linkOf t = linkOf s) : runOf t = runOf s := by
  simp only [passOf, Prod.mk.injEq] at pass
  obtain ⟨state, plan, takes, -, part⟩ := pass
  simp only [runOf, takesOf, state, plan, takes, part, link]

theorem KeepsRun.of_runOf {s t : State} (same : runOf t = runOf s) : KeepsRun s t := by
  simp only [runOf, linkOf, Prod.mk.injEq] at same
  obtain ⟨⟨state, outcome, own⟩, ⟨cursor, passes, stack⟩, takes, part, link, test⟩ := same
  have absent : t.pass.own = none → s.pass.own = none := fun none => by simpa [none] using own.symm
  constructor
  · rintro ⟨inPass, outside, linked, config, tested⟩
    exact ⟨by rwa [state, takes], by rwa [state, takes], by rwa [state, link], by rwa [part, state], by rwa [test, part]⟩
  · rintro ⟨record, outcomes, cursors, rest⟩
    exact ⟨by rwa [own, state, outcome], by rwa [outcome, state], fun none => cursor.trans (cursors (absent none)),
      by rwa [cursor, stack, passes]⟩

/-- Pass and take log agree, transport included, and pass and plan do. -/
structure KeepsSound (s t : State) : Prop where
  pass : PassSound s → PassSound t
  run : RunSound s → RunSound t

theorem KeepsSound.refl (s : State) : KeepsSound s s := ⟨id, id⟩

theorem KeepsSound.trans {s t u : State} (st : KeepsSound s t) (tu : KeepsSound t u) : KeepsSound s u :=
  ⟨tu.pass ∘ st.pass, tu.run ∘ st.run⟩

theorem KeepsSound.ite {c : Prop} [Decidable c] {s t u : State} (yes : c → KeepsSound s t) (no : ¬ c → KeepsSound s u) :
    KeepsSound s (if c then t else u) := by
  split
  · exact yes ‹_›
  · exact no ‹_›

theorem KeepsRun.sound {s t : State} (kept : KeepsRun s t) (rolls : PassSound s → PassRolls t) : KeepsSound s t where
  pass h := (passSound_iff t).2 ⟨kept.takes ((passSound_iff s).1 h).1, rolls h⟩
  run := kept.run

theorem KeepsSound.of_runOf {s t : State} (same : runOf t = runOf s) (transport : t.agr.transport = s.agr.transport) :
    KeepsSound s t := by
  refine (KeepsRun.of_runOf same).sound fun h inPass => transport.trans (h.rolls ?_)
  exact (congrArg (fun x => x.1.1) same : t.pass.state = s.pass.state) ▸ inPass

theorem KeepsSound.of_passOf {s t : State} (pass : passOf t = passOf s) (link : linkOf t = linkOf s) : KeepsSound s t :=
  .of_runOf (runOf_of_passOf pass link) (congrArg (fun x => x.2.2.2.1) pass)

theorem KeepsSound.of_stageOf {s t : State} (same : stageOf t = stageOf s) : KeepsSound s t :=
  .of_passOf (passOf_of_stageOf same) (linkOf_of_stageOf same)

/-- An operation that leaves pass controller, plan, part, link, transport and the outcomes of the takes. -/
theorem KeepsSound.of_kept {s t : State} (takes : takesOf t = takesOf s) (pass : t.pass = s.pass := by simp)
    (plan : t.plan = s.plan := by simp) (part : t.port.part = s.port.part := by simp)
    (link : t.bus.link = s.bus.link ∧ t.bus.lineTest = s.bus.lineTest := by simp)
    (transport : t.agr.transport = s.agr.transport := by simp) : KeepsSound s t :=
  .of_runOf (by simp only [runOf, linkOf, takes, pass, plan, part, link.1, link.2]) transport

/-- Outside a pass with its takes closed, and no pass in CONFIG. -/
theorem TakesAgree.left {s t : State} (h : TakesAgree s) (busy : s.pass.state ≠ .idle) (out : t.pass.state ≠ .inPass)
    (closed : .inProgress ∉ takesOf t) (part : t.port.part = s.port.part := by simp)
    (test : t.bus.lineTest = s.bus.lineTest := by simp) : TakesAgree t where
  inPass inPass := absurd inPass out
  outside _ := closed
  link inPass := absurd inPass out
  config config := absurd (h.config (part ▸ config)) busy
  test tested := part ▸ h.test (test ▸ tested)

/-! ## Where the pass controller stands between passes -/

/-- A prepared pass in STANDBY, or no pass and no run. -/
def Between (s : State) : Prop :=
  s.pass.outcome = none ∧ (s.pass.state = .standby ∧ s.pass.own.isSome = true ∨
    s.pass.state = .idle ∧ s.pass.own = none ∧ s.plan.cursor = none)

theorem Between.out {s : State} (h : Between s) : s.pass.state ≠ .inPass := by
  obtain ⟨-, ⟨state, -⟩ | ⟨state, -, -⟩⟩ := h <;> simp [state]

theorem Between.runSound {s : State} (h : Between s) (rests : PlanRests s.plan) : RunSound s := by
  obtain ⟨outcome, ⟨state, own⟩ | ⟨state, own, cursor⟩⟩ := h
  · exact ⟨by simp [own, state], by simp [outcome, state], fun none => by simp [none] at own, rests⟩
  · exact ⟨by simp [own, state, outcome], by simp [outcome, state], fun _ => cursor, rests⟩

/-! ## The roll entry (R110, R111) -/

theorem takesOf_beginPass (w : OwnWindow) (s : State) : takesOf (beginPass w s) = takesOf s ++ [.inProgress] := by
  unfold beginPass
  dsimp only
  rw [takesOf_of_log (post_keeps _ _ _).2.2.2.2.2.2.2.2.2.2.2.1, takesOf_requestBuild]
  show takesOf (reserveTake w s) = _
  unfold reserveTake
  dsimp only
  split
  · simp [takesOf, newTake]
  · simp [takesOf, newTake]

theorem beginPass_pass (w : OwnWindow) (s : State) : (beginPass w s).pass = { s.pass with state := .inPass } := by
  simp [beginPass]

/-- A pass begins with its take, at an ACTIVE link (R110). -/
theorem keepsRun_beginPass {w : OwnWindow} {s : State} (standby : s.pass.state = .standby) (own : s.pass.own = some w)
    (active : s.bus.link = .active) : KeepsRun s (beginPass w s) where
  takes h := by
    have begun : (beginPass w s).pass.state = .inPass := by rw [beginPass_pass]
    have link : (beginPass w s).bus.link = s.bus.link ∧ (beginPass w s).bus.lineTest = s.bus.lineTest := by simp [beginPass]
    refine ⟨fun _ => ⟨_, takesOf_beginPass w s, h.outside (standby ▸ nofun)⟩, fun out => absurd begun out, fun _ => ?_, ?_, ?_⟩
    · exact .inl (link.1.trans active)
    · intro config
      exact absurd (standby.symm.trans (h.config (by simpa using config))) nofun
    · rw [link.2]
      simpa using h.test
  run h := by
    have outcome : s.pass.outcome = none := by simpa [standby] using h.outcome
    refine ⟨?_, ?_, fun none => ?_, by simpa using h.rest⟩
    · simp [beginPass_pass, own]
    · simp [beginPass_pass, outcome]
    · rw [beginPass_pass, own] at none
      cases none

theorem runOf_skipPass (w : OwnWindow) (s : State) : runOf (skipPass w s) = runOf s := by
  simp [runOf, linkOf, takesOf, skipPass, relabel, emptyList]

theorem runOf_missRoll (w : OwnWindow) (s : State) : runOf (missRoll w s) = runOf s := by
  unfold missRoll
  dsimp only
  split <;> simp [runOf, linkOf, takesOf, relabel, emptyList]

theorem keepsRun_rollEntry (s : State) : KeepsRun s (rollEntry s) := by
  unfold rollEntry
  split
  case h_1 w standby own =>
    refine .ite (fun begins => .ite (fun _ => keepsRun_beginPass standby own begins.2) fun _ => .of_runOf (runOf_skipPass w s))
      fun _ => .of_runOf (runOf_missRoll w s)
  case h_2 => exact .refl s

@[simp] theorem rollEntry_transport (s : State) : (rollEntry s).agr.transport = s.agr.transport :=
  congrArg (fun x => x.2.2.2.1) (rollOf_rollEntry s)

/-! ## Clearing, abandonment and the stop (R112 to R118) -/

theorem prepare_pass (a : PlanAnswer) (st : PassState) (s : State) :
    (prepare a st s).pass = { s.pass with state := st, own := some (ownWindowOf (pinSet a.set s) a) } := by
  simp [prepare, handHeld]

@[simp] theorem takesOf_prepare (a : PlanAnswer) (st : PassState) (s : State) : takesOf (prepare a st s) = takesOf s := by
  unfold prepare
  dsimp only
  rw [takesOf_handHeld]
  rfl

theorem giveUpPass_pass (s : State) : (giveUpPass s).pass = { s.pass with state := .idle, outcome := none, own := none } := by
  simp [giveUpPass]

/-- The state in which the plan unit is asked for the next pass after an abandonment. -/
def abandoned (s : State) : State :=
  emptyList (forceToRest (post .passAbandoned (currentTake s) (closeTake .abandoned (closeWindows s))))

theorem abandoned_plan (s : State) : (abandoned s).plan = s.plan := by simp [abandoned]

theorem abandoned_pass (s : State) : (abandoned s).pass = s.pass := by simp [abandoned]

theorem abandoned_closed (s : State) : .inProgress ∉ takesOf (abandoned s) := by
  have closed := inProgress_not_mem_closeTake (o := .abandoned) nofun (closeWindows s)
  rwa [takesOf_of_log (t := abandoned s) (s := closeTake .abandoned (closeWindows s)) (by simp [abandoned])]

theorem abandonPass_eq (s : State) : abandonPass s =
    match (planAgain (abandoned s)).2 with
    | some a => offerWindow (prepare a .standby (planAgain (abandoned s)).1)
    | none => offerInternal (.done ((s.pass.own.map OwnWindow.label).getD s.agr.passNumber) .abandoned false)
        (post .planEnd 0 (giveUpPass (planAgain (abandoned s)).1)) := by
  show (match planAgain (abandoned s) with
    | (s2, some a) => offerWindow (prepare a .standby s2)
    | (s2, none) => offerInternal (.done ((s.pass.own.map OwnWindow.label).getD s.agr.passNumber) .abandoned false)
        (post .planEnd 0 (giveUpPass s2))) = _
  obtain ⟨u, answered⟩ := planAgain (abandoned s)
  cases answered <;> rfl

/-- What an operation of the pass controller leaves that ends a pass or a run. -/
structure LeavesBetween (s t : State) : Prop where
  between : s.pass.outcome = none → PlanRests s.plan → Between t
  rests : PlanRests s.plan → PlanRests t.plan
  closed : .inProgress ∉ takesOf t
  part : t.port.part = s.port.part
  link : t.bus.link = s.bus.link ∧ t.bus.lineTest = s.bus.lineTest

/-- An abandonment prepares the step again, or ends the run (R116). -/
theorem leavesBetween_abandonPass (s : State) : LeavesBetween s (abandonPass s) := by
  have closed := abandoned_closed s
  have bus : (abandoned s).bus = s.bus := by simp [abandoned]
  have part : (abandoned s).port.part = s.port.part := by simp [abandoned]
  have asked := fun rests => planAgain_plan (s := abandoned s) (by rwa [abandoned_plan])
  have pass := abandoned_pass s
  rw [abandonPass_eq]
  cases answer : (planAgain (abandoned s)).2 with
  | some a =>
    refine ⟨fun outcome _ => ?_, fun rests => ?_, ?_, ?_, ?_⟩
    · refine ⟨?_, .inl ?_⟩ <;> simp [prepare_pass, pass, outcome]
    · simpa using (asked rests).1
    · rwa [takesOf_of_log (t := offerWindow (prepare a .standby (planAgain (abandoned s)).1))
        (s := prepare a .standby (planAgain (abandoned s)).1) (by simp), takesOf_prepare,
        takesOf_of_log (t := (planAgain (abandoned s)).1) (s := abandoned s) (by simp)]
    · simp [part]
    · simp [bus]
  | none =>
    refine ⟨fun outcome rests => ?_, fun rests => ?_, ?_, ?_, ?_⟩
    · have ended := (asked rests).2 answer
      refine ⟨?_, .inr ?_⟩ <;> simp [giveUpPass_pass, ended]
    · simpa using (asked rests).1
    · simpa [takesOf] using closed
    · simp [part]
    · simp [bus]

theorem outcome_none {s : State} (h : RunSound s) (state : s.pass.state ≠ .cleared) : s.pass.outcome = none := by
  simpa [state] using h.outcome

theorem abandonPass_out (s : State) : (abandonPass s).pass.state ≠ .inPass := by
  rw [abandonPass_eq]
  split <;> simp [prepare_pass, giveUpPass_pass]

theorem keepsRun_abandonPass {s : State} (inPass : s.pass.state = .inPass) : KeepsRun s (abandonPass s) := by
  have left := leavesBetween_abandonPass s
  have busy : s.pass.state ≠ .idle := inPass ▸ nofun
  have notCleared : s.pass.state ≠ .cleared := inPass ▸ nofun
  refine ⟨fun h => ?_, fun h => (left.between (outcome_none h notCleared) h.rest).runSound (left.rests h.rest)⟩
  exact h.left busy (abandonPass_out s) left.closed left.part left.link.2

theorem leaveCleared_out (s : State) : (leaveCleared s).pass.state ≠ .inPass := by
  unfold leaveCleared
  split <;> simp

/-- CLEARED with MORE goes to STANDBY with its record, CLEARED with NONE to IDLE (R113). -/
theorem keepsRun_leaveCleared {s : State} (cleared : s.pass.state = .cleared) : KeepsRun s (leaveCleared s) where
  takes h := by
    have busy : s.pass.state ≠ .idle := cleared ▸ nofun
    have closed : .inProgress ∉ takesOf s := h.outside (cleared ▸ nofun)
    exact h.left busy (leaveCleared_out s) (by rwa [takesOf_of_log (t := leaveCleared s) (s := s) (by simp)])
  run h := by
    have plan : (leaveCleared s).plan = s.plan := by simp
    have rests : PlanRests (leaveCleared s).plan := plan ▸ h.rest
    refine Between.runSound ?_ rests
    unfold leaveCleared
    split
    case h_1 more => exact ⟨rfl, .inl ⟨rfl, by simpa [more] using h.record⟩⟩
    case h_2 last =>
      have absent : s.pass.own = none := by simpa [cleared, show s.pass.outcome ≠ some .more from last] using h.record
      exact ⟨rfl, .inr ⟨rfl, rfl, h.cursor absent⟩⟩

theorem runOf_relabel (n : Nat) (s : State) : runOf (relabel n s) = runOf s := by
  simp [runOf, linkOf, takesOf, relabel]

/-- A stop leaves no pass in progress (R115). -/
theorem passStop_out (s : State) : (passStop s).pass.state ≠ .inPass := by
  unfold passStop
  split
  case h_1 => exact abandonPass_out s
  case h_2 => exact leaveCleared_out s
  case h_3 state | h_4 state => simp [state]

theorem keepsRun_passStop (s : State) : KeepsRun s (passStop s) := by
  unfold passStop
  split
  case h_1 inPass => exact keepsRun_abandonPass inPass
  case h_2 cleared => exact keepsRun_leaveCleared cleared
  case h_3 | h_4 => exact .refl s

theorem passLocate_out (s : State) : (passLocate s).pass.state ≠ .inPass := by
  unfold passLocate
  split
  case h_1 => exact abandonPass_out s
  case h_2 => exact leaveCleared_out s
  case h_3 state => simp [relabel, state]
  case h_4 state => simp [state]

theorem keepsRun_passLocate (s : State) : KeepsRun s (passLocate s) := by
  unfold passLocate
  split
  case h_1 inPass => exact keepsRun_abandonPass inPass
  case h_2 cleared => exact (keepsRun_leaveCleared cleared).trans (.of_runOf (runOf_relabel _ _))
  case h_3 => exact .of_runOf (runOf_relabel _ _)
  case h_4 => exact .refl s

/-- The state in which the plan unit is asked for the next pass at a clearing. -/
def clearedTake (s : State) : State :=
  post .takeReady (currentTake s) (post .passCleared (currentTake s) (closeTake .complete (closeWindows s)))

theorem clearedTake_closed (s : State) : .inProgress ∉ takesOf (clearedTake s) := by
  have closed := inProgress_not_mem_closeTake (o := .complete) nofun (closeWindows s)
  rwa [takesOf_of_log (t := clearedTake s) (s := closeTake .complete (closeWindows s)) (by simp [clearedTake])]

/-- A clearing with a next pass: it is prepared, CLEARED with MORE, and the DONE precedes its WINDOW (R112). -/
def clearedMore (s u : State) (a : PlanAnswer) : State :=
  offerWindow (offerInternal (.done s.agr.passNumber .cleared true)
    ((prepare a .cleared u).setPass { (prepare a .cleared u).pass with outcome := some .more }))

/-- A clearing at the end of the plan: CLEARED with NONE (R112). -/
def clearedLast (s u : State) : State :=
  offerInternal (.done s.agr.passNumber .cleared false)
    ((post .planEnd 0 (giveUpHeld (clearPins u))).setPass
      { (post .planEnd 0 (giveUpHeld (clearPins u))).pass with state := .cleared, outcome := some .none, own := none })

theorem clearPass_eq (s : State) : clearPass s =
    match (planAdvance (clearedTake s)).2 with
    | some a => clearedMore s (planAdvance (clearedTake s)).1 a
    | none => clearedLast s (planAdvance (clearedTake s)).1 := by
  show (match planAdvance (clearedTake s) with
    | (s2, some a) => clearedMore s s2 a
    | (s2, none) => clearedLast s s2) = _
  obtain ⟨u, answered⟩ := planAdvance (clearedTake s)
  cases answered <;> rfl

theorem clearPass_state (s : State) : (clearPass s).pass.state = .cleared := by
  rw [clearPass_eq]
  split <;> simp [clearedMore, clearedLast, prepare_pass]

/-- A clearing closes the take and leaves CLEARED, with a record exactly where the plan answers one (R112). -/
theorem keepsRun_clearPass {s : State} (inPass : s.pass.state = .inPass) : KeepsRun s (clearPass s) := by
  have busy : s.pass.state ≠ .idle := inPass ▸ nofun
  have out : (clearPass s).pass.state ≠ .inPass := by simp [clearPass_state]
  have closed := clearedTake_closed s
  have taken : takesOf (planAdvance (clearedTake s)).1 = takesOf (clearedTake s) := takesOf_of_log (by simp)
  have asked := fun rests => planAdvance_plan (s := clearedTake s) (by simpa [clearedTake] using rests)
  rw [clearPass_eq] at out ⊢
  cases answer : (planAdvance (clearedTake s)).2 with
  | some a =>
    simp only [answer] at out ⊢
    refine ⟨fun h => h.left busy out ?_ (by simp [clearedMore, clearedTake]) (by simp [clearedMore, clearedTake]), fun h => ?_⟩
    · rwa [clearedMore, takesOf_of_log (t := offerWindow _) (s := prepare a .cleared (planAdvance (clearedTake s)).1) (by simp),
        takesOf_prepare, taken]
    · refine ⟨?_, ?_, ?_, ?_⟩
      · simp [clearedMore, prepare_pass]
      · simp [clearedMore, prepare_pass]
      · simp [clearedMore, prepare_pass]
      · simpa [clearedMore, PlanRests] using (asked h.rest).1
  | none =>
    simp only [answer] at out ⊢
    refine ⟨fun h => h.left busy out ?_ (by simp [clearedLast, clearedTake]) (by simp [clearedLast, clearedTake]), fun h => ?_⟩
    · rwa [clearedLast, takesOf_of_log (s := (planAdvance (clearedTake s)).1) (by simp), taken]
    · have ended := (asked h.rest).2 answer
      refine ⟨?_, ?_, fun _ => ?_, ?_⟩
      · simp [clearedLast]
      · simp [clearedLast]
      · simpa [clearedLast] using ended
      · simpa [clearedLast, PlanRests] using (asked h.rest).1

theorem keepsSound_clearingTest (s : State) : KeepsSound s (clearingTest s) := by
  refine .ite (fun clears => ?_) fun _ => .refl s
  have inPass : s.pass.state = .inPass := by
    have parts := clears
    simp only [Machine.clears, Bool.and_eq_true, decide_eq_true_eq] at parts
    exact parts.1.1
  exact (keepsRun_clearPass inPass).sound fun _ again => absurd again (by simp [clearPass_state])

/-! ## Frames applied at the edge (R48 to R66) -/

theorem keepsSound_requestBuild (s : State) : KeepsSound s (requestBuild s) := .of_kept (takesOf_requestBuild s)

theorem keepsSound_offerInternal (f : QueuedFrame) (s : State) : KeepsSound s (offerInternal f s) :=
  .of_stageOf (stageOf_offerInternal f s)

/-- A roll entry at a ROLLING transport. -/
theorem keepsRun_rollEntry_sound {s u : State} (kept : KeepsRun s u) (rolling : u.agr.transport = .rolling) :
    KeepsSound s (rollEntry u) :=
  (kept.trans (keepsRun_rollEntry u)).sound fun _ _ => by simpa using rolling

theorem keepsSound_passStop {s u : State} (kept : KeepsRun s u) : KeepsSound s (passStop u) :=
  (kept.trans (keepsRun_passStop u)).sound fun _ inPass => absurd inPass (passStop_out u)

theorem keepsSound_anchorAtRest (g : Nat) (rolling : Bool) (r p : Nat) (s : State) :
    KeepsSound s (anchorAtRest g rolling r p s) := by
  refine .trans ?_ (keepsSound_requestBuild _)
  exact .ite (fun _ => keepsRun_rollEntry_sound (.of_runOf rfl) rfl) fun _ => keepsSound_passStop (.of_runOf rfl)

theorem keepsSound_anchorAtRoll (g : Nat) (rolling : Bool) (r : Nat) (s : State) :
    KeepsSound s (anchorAtRoll g rolling r s) := by
  have taken : KeepsSound s (takeRate r (takeGeneration g s)) := .of_kept rfl rfl rfl rfl ⟨rfl, rfl⟩ rfl
  have built : KeepsSound s (if (takeRate r (takeGeneration g s)).posn.rate = s.posn.rate then takeRate r (takeGeneration g s)
      else requestBuild (takeRate r (takeGeneration g s))) :=
    .ite (fun _ => taken) fun _ => taken.trans (keepsSound_requestBuild _)
  exact .ite (fun _ => built) fun _ => built.trans (keepsSound_passStop (.of_runOf rfl))

theorem runOf_takeLocate (g : Nat) (closure play : Bool) (r st n t : Nat) (s : State) :
    runOf (takeLocate g closure play r st n t s) = runOf s := by
  have left : runOf (if s.agr.transport = .rolling then leaveRolling .cueing s else s) = runOf s := by split <;> rfl
  unfold takeLocate
  generalize (if s.agr.transport = .rolling then leaveRolling .cueing s else s) = u at left ⊢
  exact left

theorem keepsSound_applyLocate (g : Nat) (closure play : Bool) (r st n t : Nat) (s : State) :
    KeepsSound s (applyLocate g closure play r st n t s) := by
  refine .ite (fun _ => .refl s) fun _ => .trans ?_ (keepsSound_requestBuild _)
  have taken : runOf (pruneWindows n (takeLocate g closure play r st n t s)) = runOf s := runOf_takeLocate g closure play r st n t s
  have located : KeepsSound s (passLocate (pruneWindows n (takeLocate g closure play r st n t s))) :=
    ((KeepsRun.of_runOf taken).trans (keepsRun_passLocate _)).sound fun _ inPass => absurd inPass (passLocate_out _)
  refine .ite (fun _ => located.trans ?_) fun _ => located
  unfold reLocate
  split
  · exact .ite (fun _ => keepsSound_offerInternal _ _) fun _ => .refl _
  · exact .refl _

/-- An adoption is made in LISTENING, where no pass runs (R65). -/
theorem keepsSound_adopt {t : Transport} {s : State} (adopted : adopts t s = true) (g n r p : Nat) :
    KeepsSound s (adopt t g n r p s) := by
  have listening : s.bus.link = .listening := by
    simp only [adopts, Bool.and_eq_true, decide_eq_true_eq] at adopted
    exact adopted.1.1
  refine .trans ?_ (keepsSound_requestBuild _)
  refine .ite (fun rolling => keepsRun_rollEntry_sound (.of_runOf rfl) rfl) fun _ => ?_
  refine KeepsRun.sound (.of_runOf (by rfl)) fun h (inPass : s.pass.state = .inPass) => ?_
  have active := h.link inPass
  simp [listening] at active

theorem keepsSound_applyBeacon (k : SlipRef) (a rc : Nat) (t : Transport) (ps : PassState) (g n r p : Nat) (s : State) :
    KeepsSound s (applyBeacon k a rc t ps g n r p s) := by
  refine .ite (fun _ => .refl s) fun _ => ?_
  have recorded : KeepsSound s (s.setSlot a { s.agr.slot a with lastBeacon := some ⟨rc, t, g, n, ps, clampRate r, s.clampPos p⟩ }) := by
    refine .of_kept rfl rfl rfl rfl ⟨rfl, rfl⟩ ?_
    exact congrArg (fun x => x.2.2.2.1) (rollOf_setSlot s a _)
  refine .ite (fun _ => ?_) fun _ => recorded
  have idled : ∀ u, KeepsSound u (idleBeacon a u) := by
    intro u
    unfold idleBeacon
    split
    · exact .ite (fun _ => .of_runOf rfl rfl) fun _ => .refl u
    · exact .refl u
  have heard := KeepsSound.ite (c := ps = .idle) (fun _ => recorded.trans (idled _)) fun _ => recorded
  refine KeepsSound.ite (fun adopted => heard.trans (keepsSound_adopt adopted _ _ _ _)) fun _ => heard.trans ?_
  refine .ite (fun _ => ?_) fun _ => .refl _
  exact .of_kept ((takesOf_landSlip _ _ _).trans (takesOf_of_log (by simp)))

theorem keepsSound_applyDone (a n : Nat) (oc : DoneOutcome) (more : Bool) (s : State) : KeepsSound s (applyDone a n oc more s) := by
  unfold applyDone
  split
  · exact .refl s
  · refine .ite (fun _ => .refl s) fun _ => ?_
    cases oc with
    | cleared | skipped | abandoned => exact .of_runOf rfl rfl

theorem keepsSound_applyPayload (k : SlipRef) (a : Nat) (x : Payload) (s : State) : KeepsSound s (applyPayload k a x s) := by
  cases x with
  | anchor g rolling r p =>
    exact .ite (fun _ => keepsSound_anchorAtRoll g rolling r s) fun _ => keepsSound_anchorAtRest g rolling r p s
  | locate g closure play r st n t => exact keepsSound_applyLocate g closure play r st n t s
  | hold lease reason => exact .of_runOf rfl rfl
  | release => exact .of_runOf rfl rfl
  | window n c i o => exact .of_runOf rfl rfl
  | done n oc more => exact keepsSound_applyDone a n oc more s
  | beacon rc t ps g n r p => exact keepsSound_applyBeacon k a rc t ps g n r p s
  | test n => exact .refl s

theorem runOf_post (k : NoticeKind) (d : Nat) (s : State) : runOf (post k d s) = runOf s := by
  simp [runOf, takesOf, linkOf]

theorem runOf_setSlot (s : State) (a : Nat) (x : PeerSlot) : runOf (s.setSlot a x) = runOf s := by
  unfold State.setSlot
  rfl

theorem runOf_presenceUpdate (f : BusFrame) (s : State) : runOf (presenceUpdate f s) = runOf s := by
  unfold presenceUpdate
  split
  · split
    · unfold beaconEqual
      dsimp only
      split
      · exact runOf_setSlot _ _ _
      · exact (runOf_post _ _ _).trans (runOf_setSlot _ _ _)
    · unfold beaconDiffers
      dsimp only
      split
      · exact runOf_setSlot _ _ _
      · exact (runOf_post _ _ _).trans rfl
  · unfold heardFrom
    dsimp only
    split
    · exact (runOf_post _ _ _).trans (runOf_setSlot _ _ _)
    · exact runOf_setSlot _ _ _

/-- An operation that leaves pass, take log and plan, and the position with its transport. -/
theorem KeepsSound.of_views {s t : State} (run : runOf t = runOf s) (roll : rollOf t = rollOf s) : KeepsSound s t :=
  .of_runOf run (congrArg (fun x => x.2.2.2.1) roll)

theorem keepsSound_applyFrame (k : SlipRef) (s : State) (h : HeardFrame) : KeepsSound s (applyFrame k s h) := by
  have updated := KeepsSound.ite (c := h.echo = true) (fun _ => .refl s)
    fun _ => .of_views (runOf_presenceUpdate h.frame s) (rollOf_presenceUpdate h.frame s)
  refine .ite (fun _ => updated) fun _ => ?_
  split
  · exact updated.trans (keepsSound_applyPayload _ _ _ _)
  · exact updated

theorem KeepsSound.foldl {α : Type} {f : State → α → State} (each : ∀ s x, KeepsSound s (f s x)) (l : List α) (s : State) :
    KeepsSound s (l.foldl f s) := by
  induction l generalizing s with
  | nil => exact .refl s
  | cons x rest ih => exact (each s x).trans (ih _)

theorem keepsSound_applyFrames (before s : State) : KeepsSound s (applyFrames before s) :=
  KeepsSound.trans (.of_runOf (t := s.setAgr { s.agr with frames := [] }) rfl rfl)
    (.foldl (keepsSound_applyFrame (slipRef before s)) _ _)

/-! ## The parts of an edge (R46) -/

theorem keepsSound_handAdvance (s : State) : KeepsSound s (handAdvance s) := .of_kept (takesOf_handAdvance s)

theorem keepsSound_edgeAdvance (s : State) : KeepsSound s (edgeAdvance s) := by
  by_cases rolling : s.agr.transport = .rolling
  · rw [edgeAdvance_of_rolling rolling]
    have moved : KeepsSound s (movedToEdge s) := .of_runOf rfl rfl
    have handed : KeepsSound s (if s.posn.p ≠ edgeTarget s then handAdvance (movedToEdge s) else movedToEdge s) :=
      .ite (fun _ => moved.trans (keepsSound_handAdvance _)) fun _ => moved
    exact .ite (fun _ => handed.trans (keepsSound_passStop (.of_runOf rfl))) fun _ => handed
  · rw [edgeAdvance, if_neg rolling]
    exact .of_runOf rfl rfl

theorem runOf_holdsStep (s : State) : runOf (holdsStep s) = runOf s := by
  have counted : runOf (countLeases s) = runOf s := by
    unfold countLeases
    dsimp only
    split
    · exact runOf_post _ _ _
    · rfl
  refine Eq.trans ?_ counted
  unfold holdsStep ownHoldMaintenance
  dsimp only
  split
  · split
    · rfl
    · exact runOf_of_passOf (passOf_of_stageOf (stageOf_offerInternal _ _)) (linkOf_of_stageOf (stageOf_offerInternal _ _))
  · split
    · exact runOf_of_passOf (passOf_of_stageOf (stageOf_offerInternal _ _)) (linkOf_of_stageOf (stageOf_offerInternal _ _))
    · rfl

theorem keepsSound_agePeer (s : State) (a : Nat) : KeepsSound s (agePeer s a) :=
  .ite (fun _ => .refl s) fun _ => .ite (fun _ => .of_stageOf (stageOf_losePeer a s)) fun _ =>
    .of_views (runOf_setSlot s a _) (rollOf_setSlot s a _)

theorem keepsSound_settleStep (s : State) : KeepsSound s (settleStep s) :=
  .ite (fun _ => .of_runOf rfl rfl) fun _ => .refl s

/-- No pass runs under a transport that cues, so that any transport may follow it (R53). -/
theorem keepsSound_rollStep (s : State) : KeepsSound s (rollStep s) := by
  unfold rollStep
  split
  case h_1 cueing _ _ =>
    refine .ite (fun _ => .ite (fun _ => keepsRun_rollEntry_sound (.of_runOf rfl) rfl) fun _ => .refl s) fun _ => ?_
    refine KeepsRun.sound (.of_runOf (by rfl)) fun h (inPass : s.pass.state = .inPass) => ?_
    exact absurd (cueing.symm.trans (h.rolls inPass)) nofun
  case h_2 => exact .refl s

theorem keepsSound_beaconStep (s : State) : KeepsSound s (beaconStep s) :=
  .ite (fun _ => .of_stageOf (stageOf_offerBeacon s)) fun _ => .of_runOf rfl rfl

/-- A link that changes leaves pass and takes in agreement where it becomes ACTIVE or LISTEN_ONLY, or no pass runs. -/
theorem keepsSound_of_linkMove {s t : State} (moved : LinkMove s t) : KeepsSound s t := by
  have pass := moved.pass
  simp only [passOf, Prod.mk.injEq] at pass
  obtain ⟨⟨state, outcome, own⟩, ⟨cursor, passes, stack⟩, takes, transport, part⟩ := pass
  have link := moved.link
  have absent : t.pass.own = none → s.pass.own = none := fun none => by simpa [none] using own.symm
  constructor
  · intro h
    obtain ⟨agree, rolls⟩ := (passSound_iff s).1 h
    refine (passSound_iff t).2 ⟨⟨?_, ?_, ?_, by rw [part, state]; exact agree.config, ?_⟩, by rw [PassRolls, state, transport]; exact rolls⟩
    · rw [state, takesOf, takes]
      exact agree.inPass
    · rw [state, takesOf, takes]
      exact agree.outside
    · intro inPass
      rw [state] at inPass
      rcases link with same | up | down | test
      · exact same ▸ agree.link inPass
      · exact .inl up
      · exact .inr down
      · exact absurd (inPass.symm.trans (agree.config (agree.test test))) nofun
    · exact fun test => part.trans (agree.test (moved.test test))
  · rintro ⟨record, outcomes, cursors, rest⟩
    exact ⟨by rwa [own, state, outcome], by rwa [outcome, state], fun none => cursor.trans (cursors (absent none)),
      by rwa [cursor, stack, passes]⟩

theorem keepsSound_listeningStep (s : State) : KeepsSound s (listeningStep s) :=
  .ite (fun _ => .ite (fun _ => keepsSound_of_linkMove (linkMove_linkUp s)) fun _ => .of_runOf rfl rfl) fun _ => .refl s

theorem keepsSound_ownEntryMaintenance (s : State) : KeepsSound s (ownEntryMaintenance s) := by
  unfold ownEntryMaintenance
  split
  · exact .ite (fun _ => .refl s) fun _ => keepsSound_offerInternal _ s
  · exact .refl s

theorem keepsSound_judgeMark (prev edge : Nat) (offered : Bool) (s : State) (n : Nat) :
    KeepsSound s (judgeMark prev edge offered s n) :=
  .ite (fun _ => .of_stageOf (stageOf_fireMark offered n s)) fun _ =>
    .ite (fun _ => .of_stageOf (stageOf_setMark s n _)) fun _ => .refl s

theorem keepsSound_judgeMarks (pair : Option (Nat × Nat)) (s : State) : KeepsSound s (judgeMarks pair s) := by
  cases pair with
  | none => exact .refl s
  | some pair => exact .foldl (fun t n => keepsSound_judgeMark pair.1 pair.2 (stopBefore pair.1 pair.2 s n) t n) _ s

theorem keepsSound_frameEdge (s : State) : KeepsSound s (frameEdge s) := by
  have applied := (keepsSound_edgeAdvance s).trans (keepsSound_applyFrames s _)
  have held := applied.trans (.of_views (runOf_holdsStep _) (rollOf_holdsStep _))
  have aged : KeepsSound s (presenceStep (holdsStep (applyFrames s (edgeAdvance s)))) :=
    held.trans (.foldl keepsSound_agePeer addresses _)
  have rolled := (aged.trans (keepsSound_settleStep _)).trans (keepsSound_rollStep _)
  have heard := (rolled.trans (keepsSound_beaconStep _)).trans (keepsSound_listeningStep _)
  have tested := (heard.trans (keepsSound_clearingTest _)).trans (keepsSound_ownEntryMaintenance _)
  have judged := (tested.trans (.of_stageOf (stageOf_closureTest _))).trans
    (keepsSound_judgeMarks (handedPair s (edgeAdvance s)) _)
  exact judged.trans (.of_runOf rfl rfl)

theorem keepsSound_tickAdvance (s : State) : KeepsSound s (tickAdvance s) := by
  refine .ite (fun _ => ?_) fun _ => .refl s
  have moved : ∀ x, KeepsSound s (s.setPosn x) := fun x => .of_runOf rfl rfl
  exact KeepsSound.ite (fun _ => moved _) fun _ => (moved _).trans (keepsSound_handAdvance _)

/-! ## The console commands (R91, R100, R101, R174, R196 to R198) -/

/-- No pass, no run and no take, as after every reset (R89, R125, R177). -/
theorem KeepsSound.of_reset {s t : State} (pass : t.pass = PassCtl.reset) (plan : t.plan = PlanUnit.reset)
    (log : t.log = TakeLog.reset) (test : t.bus.lineTest = none) : KeepsSound s t where
  pass _ := by
    refine (passSound_iff t).2 ⟨⟨?_, ?_, ?_, ?_, ?_⟩, ?_⟩ <;>
      simp [PassRolls, pass, log, test, takesOf, PassCtl.reset, TakeLog.reset]
  run _ := by constructor <;> simp [pass, plan, PassCtl.reset, PlanUnit.reset]

theorem KeepsSound.iteBody {c : Prop} [Decidable c] {s : State} {a b : Body} (yes : c → KeepsSound s a.1)
    (no : ¬ c → KeepsSound s b.1) : KeepsSound s (if c then a else b).1 := by
  split
  · exact yes ‹_›
  · exact no ‹_›

theorem takesOf_removeTake (s : State) : takesOf (removeTake s) = (s.log.records.eraseP TakeRec.closed).map TakeRec.outcome := by
  unfold removeTake
  dsimp only
  split
  · simp [takesOf]
  · rfl

/-- A record that is read away was closed (R174). -/
theorem keepsSound_removeTake (s : State) : KeepsSound s (removeTake s) := by
  have link : (removeTake s).bus.link = s.bus.link ∧ (removeTake s).bus.lineTest = s.bus.lineTest := by
    unfold removeTake
    dsimp only
    split <;> simp
  have transport : (removeTake s).agr.transport = s.agr.transport := congrArg (fun x => x.2.2.2.1) (rollOf_removeTake s)
  have kept : (removeTake s).pass = s.pass ∧ (removeTake s).plan = s.plan ∧ (removeTake s).port.part = s.port.part := by
    unfold removeTake
    dsimp only
    split <;> simp
  obtain ⟨pass, plan, part⟩ := kept
  constructor
  · intro h
    obtain ⟨agree, rolls⟩ := (passSound_iff s).1 h
    refine (passSound_iff _).2 ⟨⟨?_, ?_, by rw [pass, link.1]; exact agree.link, by rw [part, pass]; exact agree.config,
      by rw [link.2, part]; exact agree.test⟩, by rw [PassRolls, pass, transport]; exact rolls⟩
    · rw [pass, takesOf_removeTake]
      exact fun inPass => (agree.inPass inPass).eraseP_closed
    · rw [pass, takesOf_removeTake]
      exact fun out mem => agree.outside out (((List.eraseP_sublist).map _).subset mem)
  · rintro ⟨record, outcomes, cursors, rest⟩
    exact ⟨by rwa [pass], by rwa [pass], by rwa [pass, plan], by rwa [plan]⟩

/-- In RUNNING the pass controller is left in STANDBY or IDLE, with no take in progress (R104, R117, R118). -/
theorem KeepsSound.between {s t : State} (running : s.port.part = .running) (between : RunSound s → Between t)
    (rests : RunSound s → PlanRests t.plan) (out : t.pass.state ≠ .inPass) (closed : TakesAgree s → .inProgress ∉ takesOf t)
    (part : t.port.part = s.port.part := by simp) (test : t.bus.lineTest = s.bus.lineTest := by simp) : KeepsSound s t where
  pass h := by
    obtain ⟨agree, -⟩ := (passSound_iff s).1 h
    exact (passSound_iff t).2 ⟨⟨fun inPass => absurd inPass out, fun _ => closed agree, fun inPass => absurd inPass out,
      fun config => absurd (running.symm.trans (part.symm.trans config)) nofun, fun tested => part.trans (agree.test (test ▸ tested))⟩,
      fun inPass => absurd inPass out⟩
  run h := (between h).runSound (rests h)

theorem own_none_of_idle {s : State} (h : RunSound s) (idle : s.pass.state = .idle) : s.pass.own = none := by
  simpa [idle, outcome_none h (idle ▸ nofun)] using h.record

/-- A run begins from IDLE: the first pass prepared, or no set and no run (R91). -/
theorem keepsSound_planRunBody (s : State) : KeepsSound s (planRunBody s).1 := by
  refine .iteBody (fun _ => .refl s) fun judged => .iteBody (fun _ => .refl s) fun _ => ?_
  obtain ⟨run, idle⟩ : s.running = true ∧ s.pass.state = .idle := by simpa using judged
  have running : s.port.part = .running := by simpa [State.running] using run
  obtain ⟨-, planRests, ended⟩ := searchAnswer_plan (.enter 0) (s.setPlan { s.plan with stack := [] })
  change PlanRests (planStart s).1.plan at planRests
  change (planStart s).2 = none → (planStart s).1.plan.cursor = none at ended
  have kept := planStart_keeps s
  generalize planStart s = answered at planRests ended kept ⊢
  have closed : TakesAgree s → .inProgress ∉ takesOf answered.1 := fun h => by
    rw [takesOf_of_log (t := answered.1) (s := s) (by simp [kept])]
    exact h.outside (idle ▸ nofun)
  obtain ⟨u, _ | a⟩ := answered
  · dsimp only at kept
    change KeepsSound s u
    refine .between running (fun h => ?_) (fun _ => planRests) (by simp [kept, idle]) closed (by simp [kept])
      (by simp [kept])
    refine ⟨?_, .inr ⟨?_, ?_, ended rfl⟩⟩ <;> simp [kept, idle, outcome_none h (idle ▸ nofun), own_none_of_idle h idle]
  · dsimp only at kept
    change KeepsSound s (offerWindow (prepare a .standby u))
    refine .between running (fun h => ?_) (fun _ => by simpa using planRests) (by simp [prepare_pass]) (fun h => ?_)
      (by simp [kept]) (by simp [kept])
    · refine ⟨?_, .inl ?_⟩ <;> simp [prepare_pass, kept, outcome_none h (idle ▸ nofun)]
    · rw [takesOf_of_log (t := offerWindow (prepare a .standby u)) (s := prepare a .standby u) (by simp), takesOf_prepare]
      exact closed h

/-- A skip prepares the next pass, or ends the run (R118). -/
theorem keepsSound_planSkipBody (s : State) : KeepsSound s (planSkipBody s).1 := by
  refine .iteBody (fun _ => .refl s) fun judged => ?_
  obtain ⟨run, standby⟩ : s.running = true ∧ s.pass.state = .standby := by simpa using judged
  have running : s.port.part = .running := by simpa [State.running] using run
  have asked := fun rests => planGiveUp_plan (s := s) rests
  have kept := planGiveUp_keeps s
  generalize planGiveUp s = answered at asked kept ⊢
  have closed : TakesAgree s → .inProgress ∉ takesOf answered.1 := fun h => by
    rw [takesOf_of_log (t := answered.1) (s := s) (by simp [kept])]
    exact h.outside (standby ▸ nofun)
  obtain ⟨u, _ | a⟩ := answered
  · dsimp only at kept
    change KeepsSound s (post .planEnd 0 (offerInternal (.done (ownLabel s) .abandoned false) (giveUpPass u)))
    refine .between running (fun h => ?_) (fun h => by simpa using (asked h.rest).1) (by simp [giveUpPass_pass])
      (fun h => ?_) (by simp [kept]) (by simp [kept])
    · have ended : u.plan.cursor = none := (asked h.rest).2 rfl
      refine ⟨?_, .inr ?_⟩ <;> simp [giveUpPass_pass, ended]
    · rw [takesOf_of_log (s := u) (by simp)]
      exact closed h
  · dsimp only at kept
    change KeepsSound s (offerWindow (prepare a .standby
      (offerInternal (.done (ownLabel s) .abandoned true) (emptyList (clearPins u)))))
    refine .between running (fun h => ?_) (fun h => by simpa using (asked h.rest).1) (by simp [prepare_pass]) (fun h => ?_)
      (by simp [kept, emptyList]) (by simp [kept, emptyList])
    · refine ⟨?_, .inl ?_⟩ <;> simp [prepare_pass, kept, outcome_none h (standby ▸ nofun)]
    · rw [takesOf_of_log (t := offerWindow _) (s := prepare a .standby
          (offerInternal (.done (ownLabel s) .abandoned true) (emptyList (clearPins u)))) (by simp), takesOf_prepare,
        takesOf_of_log (s := u) (by simp [emptyList])]
      exact closed h

/-- PLAN ABORT leaves IDLE from every pass state (R117). -/
theorem keepsSound_planAbortBody (s : State) : KeepsSound s (planAbortBody s).1 := by
  refine .iteBody (fun _ => .refl s) fun judged => ?_
  obtain ⟨run, notIdle⟩ : s.running = true ∧ s.pass.state ≠ .idle := by simpa using judged
  have running : s.port.part = .running := by simpa [State.running] using run
  change KeepsSound s (abortByState (planEndRun s))
  have ended : ∀ t : State, t.plan = (planEndRun s).plan → t.plan.cursor = none ∧ PlanRests t.plan := fun t plan => by
    simp [plan, planEndRun, PlanRests]
  have plan : (abortByState (planEndRun s)).plan = (planEndRun s).plan := by
    unfold abortByState
    split <;> simp [abortPass]
  have pass : (abortByState (planEndRun s)).pass = { s.pass with state := .idle, outcome := none, own := none } := by
    unfold abortByState
    split
    case h_5 idle => exact absurd idle notIdle
    all_goals simp [giveUpPass_pass, abortPass, planEndRun]
  refine .between running (fun _ => ⟨by rw [pass], .inr ⟨by rw [pass], by rw [pass], (ended _ plan).1⟩⟩) (fun _ => (ended _ plan).2)
    (by rw [pass]; nofun) (fun h => ?_) ?_ ?_
  · unfold abortByState
    split
    case h_2 =>
      rw [takesOf_of_log (s := closeTake .abandoned (closeWindows (planEndRun s))) (by simp [abortPass])]
      exact inProgress_not_mem_closeTake (o := .abandoned) nofun _
    case h_5 idle => exact absurd idle notIdle
    case h_1 state =>
      rw [takesOf_of_log (s := s) (by simp [planEndRun])]
      exact h.outside ((show s.pass.state = .standby from state) ▸ nofun)
    all_goals
      rename_i state _
      rw [takesOf_of_log (s := s) (by simp [planEndRun])]
      exact h.outside ((show s.pass.state = .cleared from state) ▸ nofun)
  · unfold abortByState
    split <;> simp [abortPass, planEndRun]
  · unfold abortByState
    split <;> simp [abortPass, planEndRun]

theorem keepsSound_configureBody (r : ConfigRecord) (s : State) : KeepsSound s (configureBody r s).1 := by
  refine .iteBody (fun _ => .refl s) fun _ => ?_
  split
  · exact .refl s
  · refine .iteBody (fun _ => .refl s) fun _ => ?_
    split
    · exact .refl s
    · exact .of_runOf rfl rfl

/-- A line test begins in CONFIG, where no pass stands (R41). -/
theorem keepsSound_beginTest (m : TestMode) (count : Nat) {s : State} (config : s.port.part = .config) :
    KeepsSound s (beginTest m count s) where
  pass h := by
    obtain ⟨agree, rolls⟩ := (passSound_iff s).1 h
    refine (passSound_iff _).2 ⟨⟨agree.inPass, agree.outside, fun inPass => ?_, agree.config, fun _ => config⟩, rolls⟩
    exact absurd (inPass.symm.trans (agree.config config)) nofun
  run h := ⟨h.record, h.outcome, h.cursor, h.rest⟩

theorem keepsSound_commandBody (c : Command) (s : State) : KeepsSound s (commandBody c s).1 := by
  cases c with
  | configure r => exact keepsSound_configureBody r s
  | start => exact .iteBody (fun _ => .refl s) fun _ => .iteBody (fun _ => .refl s) fun _ => .of_reset rfl rfl rfl rfl
  | reset kind =>
    exact .iteBody (fun _ => .of_reset rfl rfl rfl rfl) fun _ =>
      .iteBody (fun _ => .iteBody (fun _ => .of_reset rfl rfl rfl rfl) fun _ => .refl s) fun _ => .refl s
  | lineTest m c =>
    refine .iteBody (fun _ => .refl s) fun config => .iteBody (fun _ => .refl s) fun _ => ?_
    split
    · exact .iteBody (fun _ => keepsSound_beginTest _ _ (part_config config)) fun _ => .refl s
    · exact .refl s
  | planRun => exact keepsSound_planRunBody s
  | planSkip => exact keepsSound_planSkipBody s
  | planAbort => exact keepsSound_planAbortBody s
  | readTake p r =>
    refine .iteBody (fun _ => .refl s) fun _ => .iteBody (fun _ => .refl s) fun _ => ?_
    split
    · exact .refl s
    · split
      · exact .refl s
      · exact KeepsSound.ite (fun _ => keepsSound_removeTake s) fun _ => .refl s
  | _ => exact .of_stageOf (stageOf_commandBody _ s rfl)

/-! ## The step -/

theorem StageMove.keepsSound {s t : State} (moved : StageMove s t) : KeepsSound s t := by
  cases moved with
  | quiet same => exact .of_stageOf same
  | command c before after => exact (KeepsSound.of_stageOf before).trans ((keepsSound_commandBody c _).trans (.of_stageOf after))
  | reset after => exact (KeepsSound.of_reset (t := fullReset s) rfl rfl rfl rfl).trans (.of_stageOf after)
  | edge running before after => exact (KeepsSound.of_stageOf before).trans ((keepsSound_frameEdge _).trans (.of_stageOf after))
  | tick running before after => exact (KeepsSound.of_stageOf before).trans ((keepsSound_tickAdvance _).trans (.of_stageOf after))
  | settle running cueing before after =>
    exact (KeepsSound.of_stageOf before).trans ((keepsSound_rollStep _).trans (.of_stageOf after))
  | link roll pass link test => exact keepsSound_of_linkMove ⟨roll, pass, link, test⟩

theorem step_keepsSound {s t : State} (stepped : step s = .next t) : KeepsSound s t := by
  rcases step_moves stepped with moved | ⟨rest, moved⟩
  · exact moved.keepsSound
  · exact .trans (.of_stageOf (t := s.setPending rest) rfl) moved.keepsSound

/-- Settles O60: the records are kept operation by operation, pass, takes and plan by what a command can do to the stage. -/
theorem stepsKeepRun : Obligations.StepsKeepRun :=
  ⟨fun _ _ h stepped => (step_keeps stepped).records h, fun _ _ h stepped => (step_keepsSound stepped).pass h,
    fun _ _ h stepped => (step_keepsSound stepped).run h⟩

end Sys2Proof.Machine

/-! PROOF. The step and the resets (R197, R198, R196, R188, R189): what a reset state reads, RESETN held low, the resets and START through the port, and the refusals of a phase. -/

namespace Sys2Proof.Machine

-- One proof after another: under the check's memory limit there is no room for a thread per proof.
set_option Elab.async false

/-! ## The front of the queue, and the state right after power-on -/

/-- Settles O1: the step by its two equations. -/
theorem stepTakesFrontCommand : Obligations.StepTakesFrontCommand := ⟨fun _ _ _ => rfl, fun _ => rfl⟩

/-- A vector of one value reads that value everywhere, past its end too. -/
theorem getD_replicate {α : Type} (n i : Nat) (x : α) : (Vector.replicate n x).getD i x = x := by
  show (Array.replicate n x).getD i x = x
  unfold Array.getD
  split
  · simp
  · rfl

theorem slot_reset (a : Nat) : Agreement.reset.slot a = ⟨.absent, 0, none⟩ := by
  unfold Agreement.slot
  split
  · rfl
  · exact getD_replicate 30 _ _

theorem mark_reset (n : Nat) : State.reset.mark n = ⟨0, 0, .enter, 0, 1, .notice, .once, false⟩ := by
  unfold State.mark
  split
  · rfl
  · exact getD_replicate 4 _ _

/-- Settles O2: each column is a field of the reset state; slots and marks are alike at every number. -/
theorem resetValues : Obligations.ResetValues := by
  refine ⟨rfl, rfl, rfl, rfl, rfl, rfl, rfl, rfl, rfl, rfl, rfl, rfl, rfl, slot_reset, rfl, rfl, rfl, rfl, rfl, rfl, rfl, mark_reset,
    rfl, rfl, rfl, rfl, rfl, rfl⟩

/-- Settles O3: every queue and table is empty, every count 0, and nothing runs. -/
theorem invariantsAtReset : Obligations.InvariantsAtReset := by
  refine ⟨by constructor <;> decide, nofun, by decide, by constructor <;> decide, by constructor <;> decide, .nil,
    ⟨.nil, .nil⟩, ?_, ⟨nofun, nofun⟩, by constructor <;> decide, by constructor <;> decide, by constructor <;> decide,
    by constructor <;> decide⟩
  constructor <;> decide

/-! ## RESETN and the power-on (R197) -/

theorem take_of_resetnLow {s : State} (low : s.resetnLow = true) (served : Bool) (body : State → Body) : take served body s = s := by
  simp [take, low]

theorem live_of_resetnLow {s : State} (low : s.resetnLow = true) : s.live = false := by simp [State.live, low]

/-- While RESETN is low the port takes nothing, and the device's own time and its ports stand still. -/
theorem exec_of_resetnLow {s : State} (low : s.resetnLow = true) {i : Instr} (noTransfer : ∀ m : List Byte, i ≠ .transfer m)
    (noPower : i ≠ .powerOn) (noReset : i ≠ .resetn) (noRelease : i ≠ .resetnRelease) : exec i s = .next s := by
  have still := live_of_resetnLow low
  cases command : i.command with
  | some c => rw [exec_of_command command, take_of_resetnLow low]
  | none =>
    cases i <;> simp only [Instr.command, reduceCtorEq] at command
    case transfer m => exact absurd rfl (noTransfer m)
    case powerOn => exact absurd rfl noPower
    case resetn => exact absurd rfl noReset
    case resetnRelease => exact absurd rfl noRelease
    case refPulse => simp [exec, execRefPulse, qualifies, still]
    case watchdogExpiry => simp [exec, execWatchdogExpiry, still]
    case synthesisedEdge => simp [exec, execSynthesisedEdge, still]
    case tick => simp [exec, execTick, still]
    case steppedEdge => simp [exec, execSteppedEdge, still]
    case holdExpired => simp [exec, execHoldExpired, still]
    case peerLost => simp [exec, execPeerLost, still]
    case settleEnd => simp [exec, execSettleEnd, still]
    case beaconDue => simp [exec, execBeaconDue, still]
    case linkActive => simp [exec, execLinkActive, still]
    case closureOffer => simp [exec, execClosureOffer, still]
    case markFired => simp [exec, execMarkFired, still]
    case transmitStart => simp [exec, execTransmitStart, low]
    case arbitrationLoss =>
      simp only [exec, execArbitrationLoss, low, Bool.not_true, Bool.false_and, Bool.false_eq_true, ↓reduceIte]
      split
      · split <;> rfl
      · rfl
    case bitError =>
      simp only [exec, execBitError, low, Bool.not_true, Bool.false_and, Bool.false_eq_true, ↓reduceIte]
      split
      · split <;> rfl
      · rfl
    case frameComplete => simp [exec, execFrameComplete, low]
    case frameDiscard => simp [exec, execFrameDiscard, low]
    case lineTestFrame => simp [exec, execLineTestFrame, low]
    case lineBusy => simp [exec, execLineBusy, low]
    case ovsync => simp [exec, execOvsync, low]
    case ovclk => simp [exec, execOvclk, low]
    case levelSample => simp [exec, execLevelSample, low]

/-- Settles O4: the three commands by their meanings, and RESETN held low over all the others. -/
theorem resetLineAndPowerOn : Obligations.ResetLineAndPowerOn :=
  ⟨fun _ => ⟨rfl, rfl, rfl⟩, fun _ _ low noTransfer noPower noReset noRelease =>
    exec_of_resetnLow low noTransfer noPower noReset noRelease⟩

/-! ## The resets and START through the port (R196 to R198) -/

theorem exec_resetFull (s : State) : exec .resetFull s = .next (take true resetFullBody s) := rfl

theorem exec_resetRejoin (s : State) : exec .resetRejoin s = .next (take true resetRejoinBody s) := rfl

theorem exec_start (s : State) : exec .start s = .next (take false startBody s) := rfl

theorem exec_resetFull_free {s : State} (free : PortFree s) :
    exec .resetFull s = .next ((resetKept false s).answered .ok .empty) := by
  have judged : resetFullBody (s.setResponse none) = answer .ok .empty ((resetKept s.resetnLow s).setResponse none) := rfl
  rw [exec_resetFull, take_served_eq_answered free judged, free.1]

/-- Settles O5: the FULL values are those of the power-on with RESETN high. -/
theorem resetFullCommand : Obligations.ResetFullCommand := fun _ free => exec_resetFull_free free

theorem mark_disarmed {s t : State} (marks : t.marks = disarmed s.marks) (n : Nat) :
    t.mark n = { s.mark n with armed := false } := by
  unfold State.mark
  split
  · rfl
  · rw [marks]
    by_cases inside : n - 1 < 4
    · simp [disarmed, Vector.getD, inside]
    · simp [disarmed, Vector.getD, inside, Mark.reset]

theorem exec_resetRejoin_running {s : State} (stage : OnStage s) :
    exec .resetRejoin s = .next ((rejoinValues s).answered .ok .empty) := by
  have running : (s.setResponse none).running = true := running_of_onStage stage
  have judged : resetRejoinBody (s.setResponse none) = answer .ok .empty ((rejoinValues s).setResponse none) := by
    rw [resetRejoinBody, running]
    rfl
  rw [exec_resetRejoin, take_served_eq_answered stage.1.1 judged]

/-- Settles O6: the REJOIN values field by field, and the refusal in CONFIG. -/
theorem resetRejoinCommand : Obligations.ResetRejoinCommand := by
  refine ⟨fun s stage => ⟨_, exec_resetRejoin_running stage, rfl, rfl, rfl, rfl, rfl, rfl, rfl, rfl, rfl, rfl, rfl,
    mark_disarmed rfl, rfl, rfl, rfl, rfl⟩, fun s free config => ?_⟩
  have halted : (s.setResponse none).running = false :=
    decide_eq_false (show ¬ s.port.part = .running from config ▸ nofun)
  have judged : resetRejoinBody (s.setResponse none) = answer .state .empty (s.setResponse none) := by
    rw [resetRejoinBody, halted]
    rfl
  rw [exec_resetRejoin, take_served_eq_answered free judged]

/-- Settles O7: the two refusals in their order, and the START values field by field. -/
theorem startCommand : Obligations.StartCommand := by
  refine ⟨fun s stage => ?_, fun s config few => ?_, fun s config held => ?_⟩
  · have judged : startBody (s.setResponse none) = answer .state .empty (s.setResponse none) :=
      if_pos (running_of_onStage stage)
    rw [exec_start, take_eq_answered stage.1 judged]
  · have halted : ¬ (s.setResponse none).running = true := Bool.eq_false_iff.1 (running_of_configurable config)
    have judged : startBody (s.setResponse none) = answer .order .empty (s.setResponse none) :=
      (if_neg halted).trans (if_pos few)
    rw [exec_start, take_eq_answered config.1 judged]
  · have halted : ¬ (s.setResponse none).running = true := Bool.eq_false_iff.1 (running_of_configurable config)
    have judged : startBody (s.setResponse none) = answer .ok .empty ((startValues s).setResponse none) :=
      (if_neg halted).trans (if_neg (show ¬ s.conf.held < 5 by omega))
    rw [exec_start, take_eq_answered config.1 judged]
    exact ⟨_, rfl, rfl, rfl, rfl, rfl, rfl, rfl, rfl, rfl, rfl, rfl, rfl, rfl, rfl, mark_disarmed rfl, rfl, rfl⟩

/-! ## The refusals of a phase (R188, R189) -/

/-- A command that CONFIG does not judge answers STATE there. -/
theorem commandBody_config {c : Command} (stage : judgedInConfig c = false) {s : State} (halted : s.running = false) :
    commandBody c s = answerPlain .state s := by
  cases c with
  | configure _ | start | reset _ | readStatus _ _ | readNotice | lineTest _ _ => cases stage
  | loadCue a => simp [commandBody, loadCueBody, halted]
  | deleteCue id => simp [commandBody, deleteCueBody, halted]
  | clearCues => simp [commandBody, clearCuesBody, halted]
  | readCue sel => simp [commandBody, readCueBody, halted]
  | planClear => simp [commandBody, planClearBody, halted]
  | planStep st => simp [commandBody, planStepBody, halted]
  | planRun => simp [commandBody, planRunBody, halted]
  | planSkip => simp [commandBody, planSkipBody, halted]
  | planAbort => simp [commandBody, planAbortBody, halted]
  | go => simp [commandBody, goBody, halted]
  | transportLocate t r p => simp [commandBody, transportLocateBody, halted]
  | transportPlay r => simp [commandBody, transportPlayBody, halted]
  | transportStop => simp [commandBody, transportStopBody, halted]
  | hold => simp [commandBody, holdBody, halted]
  | release => simp [commandBody, releaseBody, halted]
  | readPeers a => simp [commandBody, readPeersBody, halted]
  | readTake p r => simp [commandBody, readTakeBody, halted]
  | setMark a => simp [commandBody, setMarkBody, halted]
  | clearMark n => simp [commandBody, clearMarkBody, halted]
  | step c => simp [commandBody, stepBody, halted]

/-- A command through the port, by the answer of its body. -/
theorem exec_answered {i : Instr} {c : Command} {s t : State} {st : Status} {d : Reply} (command : i.command = some c)
    (ready : PortReady s) (judged : commandBody c (s.setResponse none) = answer st d (t.setResponse none)) :
    exec i s = .next (t.answered st d) := by
  rw [exec_of_command command, take_eq_answered ready judged]

/-- Settles O8: the refusal in CONFIG read off every body, and the refusal during a line test at the port. -/
theorem phaseRefusals : Obligations.PhaseRefusals := by
  refine ⟨fun i c s command stage config => ?_, fun i c s command unserved free test => ?_⟩
  · exact exec_answered command config.1 (commandBody_config stage (running_of_configurable config))
  · rw [exec_of_command command, unserved, take_of_lineTest _ free test]

end Sys2Proof.Machine

/-! PROOF. Console messages and transfers (R187 to R189, R203, R204): numbers in bytes, what a message is read as, what a transfer shifts out, and the transfers that take a command, poll, or are discarded. -/

namespace Sys2Proof.Machine

-- One proof after another: under the check's memory limit there is no room for a thread per proof.
set_option Elab.async false

open Sys2Proof.Laws

/-! ## Numbers in bytes (R200) -/

theorem bytesNum_foldl (bs : List Byte) (n : Nat) :
    bs.foldl (fun n b => 256 * n + b.toNat) n = n * 256 ^ bs.length + bytesNum bs := by
  unfold bytesNum
  induction bs generalizing n with
  | nil => simp
  | cons b rest ih =>
    rw [List.foldl_cons, List.foldl_cons, ih, ih (256 * 0 + b.toNat), List.length_cons, pow_succ]
    ring

theorem bytesNum_cons (b : Byte) (rest : List Byte) : bytesNum (b :: rest) = b.toNat * 256 ^ rest.length + bytesNum rest := by
  rw [bytesNum, List.foldl_cons, bytesNum_foldl]
  simp

@[simp] theorem numBytes_length (w n : Nat) : (numBytes w n).length = w := by
  induction w with
  | zero => rfl
  | succ w ih => simp [numBytes, ih]

theorem bytesNum_numBytes (w n : Nat) : bytesNum (numBytes w n) = n % 256 ^ w := by
  induction w with
  | zero => simp [numBytes, bytesNum, Nat.mod_one]
  | succ w ih =>
    rw [numBytes, bytesNum_cons, numBytes_length, ih, Nat.mod_pow_succ, BitVec.toNat_ofNat]
    ring

theorem toNat_halfBytes (x : Half) : bytesNum (halfBytes x) = x.toNat := by
  simp only [bytesNum, halfBytes, List.foldl_cons, List.foldl_nil, BitVec.extractLsb'_toNat, Nat.shiftRight_eq_div_pow]
  have := x.isLt
  omega

theorem toNat_quadBytes (x : Quad) : bytesNum (quadBytes x) = x.toNat := by
  simp only [bytesNum, quadBytes, List.foldl_cons, List.foldl_nil, BitVec.extractLsb'_toNat, Nat.shiftRight_eq_div_pow]
  have := x.isLt
  omega

theorem halfOf_bytes (x : Half) : halfOf (x.extractLsb' 8 8) (x.extractLsb' 0 8) = x := by
  refine BitVec.eq_of_getLsbD_eq fun i inside => ?_
  rw [halfOf, BitVec.getLsbD_append, BitVec.getLsbD_extractLsb', BitVec.getLsbD_extractLsb']
  split
  case isTrue low => simp [low]
  case isFalse high => simp [show i - 8 < 8 by omega, show 8 + (i - 8) = i by omega]

theorem quadOf_bytes (x : Quad) :
    quadOf (x.extractLsb' 24 8) (x.extractLsb' 16 8) (x.extractLsb' 8 8) (x.extractLsb' 0 8) = x := by
  refine BitVec.eq_of_getLsbD_eq fun i inside => ?_
  rw [quadOf, BitVec.getLsbD_append, BitVec.getLsbD_append, BitVec.getLsbD_append]
  simp only [BitVec.getLsbD_extractLsb']
  split_ifs with b0 b1 b2
  · simp [b0]
  · simp [show i - 8 < 8 by omega, show 8 + (i - 8) = i by omega]
  · simp [show i - 8 - 8 < 8 by omega, show 16 + (i - 8 - 8) = i by omega]
  · simp [show i - 8 - 8 - 8 < 8 by omega, show 24 + (i - 8 - 8 - 8) = i by omega]

/-! ## What a message is read as (R188, R189) -/

/-- The parameters of a well-formed command are read back by the entry of its code. -/
theorem catalogue_reads {c : Command} (wf : c.wf = true) :
    ∃ read, catalogue c.code.toNat = some read ∧ read c.params = some c := by
  cases c with
  | configure r =>
    refine ⟨_, rfl, ?_⟩
    cases r with
    | other code =>
      have named : 5 ≤ code.toNat := of_decide_eq_true wf
      have unnamed : ¬ code = 0#8 := fun zero => by simp [zero] at named
      simp [Command.params, ConfigRecord.bytes, decodeConfigure, named, unnamed]
    | _ => simp [Command.params, ConfigRecord.bytes, halfBytes, decodeConfigure, halfOf_bytes]
  | loadCue a => exact ⟨_, rfl, by simp [Command.params, CueArgs.bytes, halfBytes, quadBytes, decodeCue, halfOf_bytes, quadOf_bytes]⟩
  | deleteCue id => exact ⟨_, rfl, by simp [Command.params, halfBytes, decodeDelete, halfOf_bytes]⟩
  | readCue sel =>
    refine ⟨_, rfl, ?_⟩
    cases sel with
    | byId id => simp [Command.params, halfBytes, decodeSelector, halfOf_bytes]
    | byIndex i => simp [Command.params, decodeSelector]
    | other k =>
      have named : 2 ≤ k.toNat := of_decide_eq_true wf
      have unnamed : ¬ k = 1#8 := fun one => by simp [one] at named
      simp [Command.params, decodeSelector, named, unnamed]
  | planStep st =>
    refine ⟨_, rfl, ?_⟩
    cases st with
    | cue first run passes mode => simp [Command.params, halfBytes, decodeStep, halfOf_bytes]
    | block span repeats => simp [Command.params, decodeStep]
    | other k =>
      have named : 2 ≤ k.toNat := of_decide_eq_true wf
      have unnamed : ¬ k = 1#8 := fun one => by simp [one] at named
      simp [Command.params, decodeStep, named, unnamed]
  | transportLocate t r p => exact ⟨_, rfl, by simp [Command.params, quadBytes, decodeLocate, quadOf_bytes]⟩
  | setMark a => exact ⟨_, rfl, by simp [Command.params, quadBytes, decodeMark, quadOf_bytes]⟩
  | _ => exact ⟨_, rfl, rfl⟩

theorem decodeMessage_unknown {code : Byte} (unknown : catalogue code.toNat = none) (len : Byte) (rest : List Byte) :
    decodeMessage (code :: len :: rest) = .unknown := by
  simp [decodeMessage, unknown]

theorem decodeMessage_badLength {code len : Byte} {rest : List Byte} {read : List Byte → Option Command}
    (known : catalogue code.toNat = some read)
    (bad : 30 < len.toNat ∨ rest.length < len.toNat ∨ read (rest.take len.toNat) = none) :
    decodeMessage (code :: len :: rest) = .badLength := by
  unfold decodeMessage
  simp only [known]
  split
  · rfl
  case isFalse framed =>
    have unread : read (rest.take len.toNat) = none := by
      rcases bad with long | short | unread
      · exact absurd (.inl long) framed
      · exact absurd (.inr short) framed
      · exact unread
    simp [unread]

theorem decodeMessage_command {code len : Byte} {rest : List Byte} {read : List Byte → Option Command} {c : Command}
    (known : catalogue code.toNat = some read) (short : len.toNat ≤ 30) (whole : len.toNat ≤ rest.length)
    (reads : read (rest.take len.toNat) = some c) : decodeMessage (code :: len :: rest) = .command c := by
  have framed : ¬ (30 < len.toNat ∨ rest.length < len.toNat) := by omega
  simp only [decodeMessage, known, reads, if_neg framed]

theorem params_length_toNat (c : Command) : (BitVec.ofNat 8 c.params.length).toNat = c.params.length := by
  have len := params_length_le c
  rw [BitVec.toNat_ofNat]
  omega

/-- A well-formed command is read from its message, whatever bytes follow it (R188). -/
theorem decodeMessage_encodeMessage {c : Command} (wf : c.wf = true) (extra : List Byte) :
    decodeMessage (encodeMessage c ++ extra) = .command c := by
  obtain ⟨read, known, reads⟩ := catalogue_reads wf
  have len := params_length_le c
  have said := params_length_toNat c
  refine decodeMessage_command (rest := c.params ++ extra) known ?_ ?_ ?_
  · rw [said]
    exact len
  · rw [said]
    simp
  · rw [said, List.take_left]
    exact reads

/-- Settles O9: each entry of the catalogue reads back the bytes that it writes. -/
theorem messageRoundTrip : Obligations.MessageRoundTrip := by
  refine ⟨fun c wf => ?_, fun c => rfl, fun c => ?_, fun r => by cases r <;> rfl,
    fun x y => ⟨rfl, toNat_halfBytes x, rfl, toNat_quadBytes y⟩⟩
  · simpa using decodeMessage_encodeMessage wf []
  · cases c with
    | readCue sel => cases sel <;> rfl
    | planStep st => cases st <;> rfl
    | _ => rfl

/-! ## What a transfer shifts out (R187, R203) -/

theorem shiftedOut_low {s : State} (low : s.resetnLow = true) (n : Nat) : shiftedOut n s = List.replicate n 0 := by
  simp [shiftedOut, low]

theorem shiftedOut_busy {s : State} (high : s.resetnLow = false) (busy : s.port.stepRun.isSome = true) (n : Nat) :
    shiftedOut n s = (statusByte s :: List.replicate n 0).take n := by
  have unready : s.port.ready = false := by simp [Port.ready, Option.isNone_eq_false_iff.2 busy]
  have offered : shiftedBytes s = [statusByte s] := by
    unfold shiftedBytes
    split <;> simp [unready]
  simp [shiftedOut, high, offered]

theorem shiftedOut_free {s : State} (free : PortFree s) (n : Nat) : shiftedOut n s =
    (statusByte s :: ((s.port.response.map Response.bytes).getD [] ++ List.replicate n 0)).take n := by
  have ready : s.port.ready = true := by simp [Port.ready, free.2]
  have offered : shiftedBytes s = statusByte s :: (s.port.response.map Response.bytes).getD [] := by
    unfold shiftedBytes
    split <;> simp_all
  simp [shiftedOut, free.1, offered]

/-- The eight bits of a status byte, most significant first. -/
theorem flagByte_bits : ∀ b7 b6 b5 b4 b3 b2 : Bool,
    (BitVec.ofNat 8 (flagBits [b7, b6, b5, b4, b3, b2, false, false])).getLsbD 7 = b7 ∧
    (BitVec.ofNat 8 (flagBits [b7, b6, b5, b4, b3, b2, false, false])).getLsbD 6 = b6 ∧
    (BitVec.ofNat 8 (flagBits [b7, b6, b5, b4, b3, b2, false, false])).getLsbD 5 = b5 ∧
    (BitVec.ofNat 8 (flagBits [b7, b6, b5, b4, b3, b2, false, false])).getLsbD 4 = b4 ∧
    (BitVec.ofNat 8 (flagBits [b7, b6, b5, b4, b3, b2, false, false])).getLsbD 3 = b3 ∧
    (BitVec.ofNat 8 (flagBits [b7, b6, b5, b4, b3, b2, false, false])).getLsbD 2 = b2 ∧
    (BitVec.ofNat 8 (flagBits [b7, b6, b5, b4, b3, b2, false, false])).getLsbD 1 = false ∧
    (BitVec.ofNat 8 (flagBits [b7, b6, b5, b4, b3, b2, false, false])).getLsbD 0 = false := by decide

theorem attn_eq_decide (s : State) : s.attn = decide (s.port.notices ≠ []) := by
  unfold State.attn
  cases s.port.notices <;> rfl

/-! ## What a transfer does (R187, R188) -/

theorem exec_transfer (m : List Byte) (s : State) : exec (.transfer m) s =
    .next ((if isPoll (m.take 32) then s else runMessage (m.take 32) s).withSdo (shiftedOut m.length s)) := rfl

/-- A port that takes nothing runs no message. -/
theorem runMessage_of_closed {s : State} (closed : (s.resetnLow || !s.port.ready) = true) (m : List Byte) : runMessage m s = s := by
  have none : ∀ served body, take served body s = s := fun served body => if_pos closed
  unfold runMessage
  split <;> exact none _ _

theorem exec_transfer_closed {s : State} (closed : (s.resetnLow || !s.port.ready) = true) (m : List Byte) :
    exec (.transfer m) s = .next (s.withSdo (shiftedOut m.length s)) := by
  rw [exec_transfer, runMessage_of_closed closed, ite_self]

theorem exec_transfer_poll {m : List Byte} (poll : isPoll (m.take 32) = true) (s : State) :
    exec (.transfer m) s = .next (s.withSdo (shiftedOut m.length s)) := by
  rw [exec_transfer, if_pos poll]

theorem isPoll_of_short {m : List Byte} (poll : m.length < 2 ∨ m.head? = some 0) : isPoll (m.take 32) = true := by
  match m with
  | [] | [_] => rfl
  | a :: b :: rest =>
    rcases poll with short | zero
    · simp at short
    · simpa [isPoll] using zero

theorem exec_transfer_message {code : Byte} (coded : code ≠ 0) (len : Byte) (rest : List Byte) (s : State) :
    exec (.transfer (code :: len :: rest)) s =
      .next ((runMessage (code :: len :: rest.take 30) s).withSdo (shiftedOut (rest.length + 2) s)) := by
  have poll : isPoll ((code :: len :: rest).take 32) = false := by simpa [isPoll] using coded
  rw [exec_transfer, poll]
  rfl

theorem runMessage_command {m : List Byte} {c : Command} (read : decodeMessage m = .command c) (s : State) :
    runMessage m s = take (servedInTest c) (commandBody c) s := by
  simp only [runMessage, read]

theorem runMessage_unknown {m : List Byte} (read : decodeMessage m = .unknown) (s : State) :
    runMessage m s = take true (answerPlain .unknown) s := by
  simp only [runMessage, read]

theorem runMessage_badLength {m : List Byte} (read : decodeMessage m = .badLength) (s : State) :
    runMessage m s = take true (answerPlain .range) s := by
  simp only [runMessage, read]

/-- A message that is no command is answered alike in every part state and during a line test (R188). -/
theorem take_answerPlain {s : State} (free : PortFree s) (st : Status) : take true (answerPlain st) s = s.answered st .empty :=
  take_served_eq_answered free rfl

theorem code_ne_zero (c : Command) : c.code ≠ 0 := by cases c <;> simp [Command.code]

/-- A transfer of a command's message, with bytes after it, does what the command does (R188). -/
theorem exec_transfer_command {i : Instr} {c : Command} (command : i.command = some c) (wf : c.wf = true) (s : State)
    (extra : List Byte) : ∃ t : State, exec i s = .next t ∧ exec (.transfer (encodeMessage c ++ extra)) s =
      .next (t.withSdo (shiftedOut ((encodeMessage c).length + extra.length) s)) := by
  refine ⟨_, exec_of_command command s, ?_⟩
  have len := params_length_le c
  have cut : (c.params ++ extra).take 30 = c.params ++ extra.take (30 - c.params.length) := by
    rw [List.take_append, List.take_of_length_le len]
  have read : decodeMessage (c.code :: BitVec.ofNat 8 c.params.length :: (c.params ++ extra).take 30) = .command c := by
    rw [cut]
    exact decodeMessage_encodeMessage wf _
  have ran := exec_transfer_message (code_ne_zero c) (BitVec.ofNat 8 c.params.length) (c.params ++ extra) s
  rw [runMessage_command read] at ran
  rw [show encodeMessage c ++ extra = c.code :: BitVec.ofNat 8 c.params.length :: (c.params ++ extra) from rfl, ran]
  simp only [encodeMessage, List.length_cons, List.length_append]
  congr 3
  omega

/-- Settles O10: the message is read as its command, and the bytes after it are not. -/
theorem transferRunsItsCommand : Obligations.TransferRunsItsCommand := by
  refine ⟨fun i c s command wf _ => ?_, fun i c s extra command wf _ => exec_transfer_command command wf s extra⟩
  simpa using exec_transfer_command command wf s []

/-- Settles O11: the three transfers that take no command, the status byte bit by bit, and the bytes of numbers and responses. -/
theorem transferDiscardsAndPolls : Obligations.TransferDiscardsAndPolls := by
  refine ⟨fun m s low => ?_, fun m s high busy => ?_, fun m s free poll => ?_, fun s => ?_, fun n s low => shiftedOut_low low n,
    fun n s high busy => shiftedOut_busy high busy n, fun n s free => shiftedOut_free free n, fun r => ?_, rfl,
    fun w n => ⟨numBytes_length w n, fun fits => ?_⟩, bytesNum_cons, fun n => ⟨rfl, rfl, rfl, rfl⟩⟩
  · rw [exec_transfer_closed (by simp [low]), shiftedOut_low low]
  · rw [exec_transfer_closed (by simp [Port.ready, Option.isNone_eq_false_iff.2 busy]), shiftedOut_busy high busy]
  · rw [exec_transfer_poll (isPoll_of_short poll), shiftedOut_free free]
  · obtain ⟨ready, attn, overflow, response, running, testing, low⟩ := flagByte_bits s.port.ready s.attn s.port.overflow
      s.port.response.isSome s.running s.testing
    exact ⟨ready, attn.trans (attn_eq_decide s), overflow, response, running, testing, low⟩
  · simp [Response.bytes, b1, numBytes]
  · rw [bytesNum_numBytes, Nat.mod_eq_of_lt fits]

/-! ## Messages that are no command (R188, R198) -/

theorem catalogue_isSome (n : Nat) : (catalogue n).isSome =
    decide (n ∈ [1, 2, 3, 4, 5, 6, 16, 17, 18, 19, 32, 33, 34, 35, 36, 40, 48, 49, 50, 51, 52, 53, 64, 80, 81, 82]) := by
  unfold catalogue
  split <;> simp_all

theorem decodeMessage_reset (kind : Byte) (rest : List Byte) : decodeMessage (3 :: 1 :: kind :: rest) = .command (.reset kind) :=
  decodeMessage_command (read := decodeOne .reset) rfl (by decide) (by simp) rfl

theorem exec_transfer_reset (kind : Byte) (rest : List Byte) (s : State) : exec (.transfer (3 :: 1 :: kind :: rest)) s =
    .next ((take true (resetBody kind) s).withSdo (shiftedOut (rest.length + 3) s)) := by
  rw [exec_transfer_message (by decide), List.take_succ_cons, runMessage_command (decodeMessage_reset kind _)]
  rfl

/-- Settles O12: what the catalogue does not know, what is not framed, the first 32 bytes, and the three kinds of RESET message. -/
theorem badMessagesAnswered : Obligations.BadMessagesAnswered := by
  refine ⟨fun code len rest s free coded short unknown => ?_, fun code len rest s read free coded short known bad => ?_,
    catalogue_isSome, fun m s long => ?_, fun kind rest s free full rejoin => ?_, fun rest s free => ?_, fun rest s free => ?_⟩
  · rw [exec_transfer_message coded, runMessage_unknown (decodeMessage_unknown unknown _ _), take_answerPlain free]
  · rw [exec_transfer_message coded, List.take_of_length_le short, runMessage_badLength (decodeMessage_badLength known bad),
      take_answerPlain free]
  · refine ⟨_, exec_transfer _ s, ?_⟩
    rw [exec_transfer, List.take_take, Nat.min_self]
    rfl
  · have judged : resetBody kind (s.setResponse none) = answer .range .empty (s.setResponse none) :=
      (if_neg full).trans (if_neg rejoin)
    rw [exec_transfer_reset, take_served_eq_answered free judged]
  · have ran : take true (resetBody 0) s = (resetKept false s).answered .ok .empty :=
      Host.Outcome.next.inj (exec_resetFull_free free)
    rw [exec_transfer_reset, ran]
  · exact ⟨_, rfl, exec_transfer_reset 1 rest s⟩

end Sys2Proof.Machine

/-! PROOF. The port's own commands (R191, R193 to R195, R199): ranges and refusals of CONFIGURE, the sections of READ STATUS with their bytes, and the posting of a notice. -/

namespace Sys2Proof.Machine

-- One proof after another: under the check's memory limit there is no room for a thread per proof.
set_option Elab.async false

/-! ## CONFIGURE (R193 to R195) -/

theorem clamp_eq {lo hi : Nat} (upright : lo ≤ hi) (x : Nat) : clamp lo hi x = max lo (min hi x) := by
  unfold clamp
  split
  · omega
  · split <;> omega

theorem clamp_zero_eq (hi x : Nat) : clamp 0 hi x = min hi x := by rw [clamp_eq (Nat.zero_le hi), Nat.zero_max]

theorem addressInRange_iff {a : Nat} : addressInRange a = true ↔ 1 ≤ a ∧ a ≤ 30 := by simp [addressInRange]

theorem exec_configure (r : ConfigRecord) (s : State) : exec (.configure r) s = .next (take false (configureBody r) s) := rfl

theorem configureBody_running {s : State} (r : ConfigRecord) (running : s.running = true) : configureBody r s = answerPlain .state s :=
  if_pos running

theorem configureBody_unknown {s : State} {r : ConfigRecord} (halted : s.running = false) (unknown : recordPlace r = none) :
    configureBody r s = answerPlain .range s := by
  simp [configureBody, halted, unknown]

theorem configureBody_order {s : State} {r : ConfigRecord} {k : Nat} (halted : s.running = false) (place : recordPlace r = some k)
    (skips : s.conf.held + 1 < k) : configureBody r s = answerPlain .order s := by
  simp [configureBody, halted, place, skips]

theorem configureBody_refused {s : State} {r : ConfigRecord} {k : Nat} (halted : s.running = false) (place : recordPlace r = some k)
    (next : k ≤ s.conf.held + 1) (refused : writeRecord s.conf r = none) : configureBody r s = answerPlain .range s := by
  simp [configureBody, halted, place, next.not_gt, refused]

theorem configureBody_written {s : State} {r : ConfigRecord} {k : Nat} {c : Conf} {clamped : Bool} (halted : s.running = false)
    (place : recordPlace r = some k) (next : k ≤ s.conf.held + 1) (written : writeRecord s.conf r = some (c, clamped)) :
    configureBody r s = answerPlain (okStatus clamped) (s.setConf c) := by
  simp [configureBody, halted, place, next.not_gt, written]

theorem exec_configure_refused {s : State} {r : ConfigRecord} {k : Nat} (config : Configurable s) (place : recordPlace r = some k)
    (next : k ≤ s.conf.held + 1) (refused : writeRecord s.conf r = none) :
    exec (.configure r) s = .next (s.answered .range .empty) := by
  have judged := configureBody_refused (s := s.setResponse none) (running_of_configurable config) place next refused
  rw [exec_configure, take_eq_answered config.1 judged]

theorem exec_configure_written {s : State} {r : ConfigRecord} {k : Nat} {c : Conf} {clamped : Bool} (config : Configurable s)
    (place : recordPlace r = some k) (next : k ≤ s.conf.held + 1) (written : writeRecord s.conf r = some (c, clamped)) :
    exec (.configure r) s = .next ((s.setConf c).answered (if clamped then .okClamped else .ok) .empty) := by
  have judged : configureBody r (s.setResponse none) = answer (okStatus clamped) .empty ((s.setConf c).setResponse none) :=
    configureBody_written (s := s.setResponse none) (running_of_configurable config) place next written
  rw [exec_configure, take_eq_answered config.1 judged]
  rfl

/-- A record is written with the records before it kept and those after it gone (R194). -/
theorem writeRecord_places {c d : Conf} {r : ConfigRecord} {k : Nat} {clamped : Bool} (place : recordPlace r = some k)
    (written : writeRecord c r = some (d, clamped)) :
    (k = 1 ∧ ∃ x, d = ⟨some x, none, none, none, none⟩) ∨ (k = 2 ∧ ∃ x, d = ⟨c.timing, some x, none, none, none⟩) ∨
      (k = 3 ∧ ∃ x, d = ⟨c.timing, c.station, some x, none, none⟩) ∨
      (k = 4 ∧ ∃ x, d = ⟨c.timing, c.station, c.outputs, some x, none⟩) ∨
      (k = 5 ∧ ∃ x, d = ⟨c.timing, c.station, c.outputs, c.defaults, some x⟩) := by
  cases r with
  | timing rate divider source bus =>
    obtain ⟨x, -, same⟩ := Option.map_eq_some_iff.1 written
    cases place
    exact .inl ⟨rfl, x, (congrArg Prod.fst same).symm⟩
  | station a b h g st sl =>
    obtain ⟨-, same⟩ := Option.ite_none_right_eq_some.1 written
    cases place
    exact .inr (.inl ⟨rfl, _, (congrArg Prod.fst (Option.some.inj same)).symm⟩)
  | outputs o p i q w l f x =>
    obtain ⟨-, same⟩ := Option.ite_none_right_eq_some.1 written
    cases place
    exact .inr (.inr (.inl ⟨rfl, _, (congrArg Prod.fst (Option.some.inj same)).symm⟩))
  | cueDefaults l b sp pre post hin hout =>
    cases place
    exact .inr (.inr (.inr (.inl ⟨rfl, _, (congrArg Prod.fst (Option.some.inj written)).symm⟩)))
  | onset a t d e =>
    cases place
    exact .inr (.inr (.inr (.inr ⟨rfl, _, (congrArg Prod.fst (Option.some.inj written)).symm⟩)))
  | other code => cases place

/-- The records held after a record is written in its turn are those up to it (R194). -/
theorem held_of_written {c d : Conf} {r : ConfigRecord} {k : Nat} {clamped : Bool} (place : recordPlace r = some k)
    (next : k ≤ c.held + 1) (written : writeRecord c r = some (d, clamped)) : d.held = k ∧ (1 < k → d.timing = c.timing) ∧
      (2 < k → d.station = c.station) ∧ (3 < k → d.outputs = c.outputs) ∧ (4 < k → d.defaults = c.defaults) := by
  unfold Conf.held at next
  rcases writeRecord_places place written with ⟨rfl, x, rfl⟩ | ⟨rfl, x, rfl⟩ | ⟨rfl, x, rfl⟩ | ⟨rfl, x, rfl⟩ | ⟨rfl, x, rfl⟩
  all_goals refine ⟨?_, by simp, by simp, by simp, by simp⟩
  all_goals
    unfold Conf.held
    dsimp only
    split_ifs at next ⊢ <;> simp_all

theorem frameRateOfCode_code {n : Nat} (known : n ≤ 5) : ∃ f, frameRateOfCode n = some f ∧ f.code = n := by
  interval_cases n
  · exact ⟨.f24, rfl, rfl⟩
  · exact ⟨.f25, rfl, rfl⟩
  · exact ⟨.f30, rfl, rfl⟩
  · exact ⟨.f48, rfl, rfl⟩
  · exact ⟨.f50, rfl, rfl⟩
  · exact ⟨.f60, rfl, rfl⟩

theorem frameRateOfCode_unknown {n : Nat} (unknown : 5 < n) : frameRateOfCode n = none := by
  unfold frameRateOfCode
  split
  case h_7 => rfl
  all_goals omega

theorem refSourceOfCode_eq_ite (n : Nat) : refSourceOfCode n =
    if n = 0 then some .inputRise else if n = 1 then some .inputFall else if n = 2 then some .step else none := by
  match n with
  | 0 | 1 | 2 => rfl
  | n + 3 => simp [refSourceOfCode]

theorem busRateOfCode_eq_ite (n : Nat) : busRateOfCode n =
    if n = 0 then some .k250 else if n = 1 then some .k500 else if n = 2 then some .k1000 else none := by
  match n with
  | 0 | 1 | 2 => rfl
  | n + 3 => simp [busRateOfCode]

theorem toNat_eq_zero_iff {b : Byte} : b.toNat = 0 ↔ b = 0 := by constructor <;> intro h <;> bv_omega

theorem toNat_eq_one_iff {b : Byte} : b.toNat = 1 ↔ b = 1 := by constructor <;> intro h <;> bv_omega

theorem refSourceOfCode_known {src : Byte} (known : src.toNat ≤ 2) : refSourceOfCode src.toNat =
    some (if src = 0 then .inputRise else if src = 1 then .inputFall else .step) := by
  rw [refSourceOfCode_eq_ite]
  simp only [toNat_eq_zero_iff, toNat_eq_one_iff]
  by_cases zero : src = 0
  · rw [if_pos zero, if_pos zero]
  by_cases one : src = 1
  · rw [if_neg zero, if_pos one, if_neg zero, if_pos one]
  · rw [if_neg zero, if_neg one, if_pos (by bv_omega), if_neg zero, if_neg one]

theorem busRateOfCode_known {b : Byte} (known : b.toNat ≤ 2) : busRateOfCode b.toNat =
    some (if b = 0 then .k250 else if b = 1 then .k500 else .k1000) := by
  rw [busRateOfCode_eq_ite]
  simp only [toNat_eq_zero_iff, toNat_eq_one_iff]
  by_cases zero : b = 0
  · rw [if_pos zero, if_pos zero]
  by_cases one : b = 1
  · rw [if_neg zero, if_pos one, if_neg zero, if_pos one]
  · rw [if_neg zero, if_neg one, if_pos (by bv_omega), if_neg zero, if_neg one]

/-- A TIMING of known codes and divider is taken as given (R193). -/
theorem timingOf_known {f d src b : Byte} (rate : f.toNat ≤ 5) (div : d = 1 ∨ d = 2) (source : src.toNat ≤ 2) (bus : b.toNat ≤ 2) :
    ∃ r : TimingRec, timingOf f d src b = some r ∧ r.frameRate.code = f.toNat ∧ r.refDiv = d.toNat ∧
      r.refSource = (if src = 0 then .inputRise else if src = 1 then .inputFall else .step) ∧
      r.busRate = (if b = 0 then .k250 else if b = 1 then .k500 else .k1000) := by
  obtain ⟨x, known, coded⟩ := frameRateOfCode_code rate
  refine ⟨⟨x, d.toNat, if src = 0 then .inputRise else if src = 1 then .inputFall else .step,
    if b = 0 then .k250 else if b = 1 then .k500 else .k1000⟩, ?_, coded, rfl, rfl, rfl⟩
  simp only [timingOf, known, refSourceOfCode_known source, busRateOfCode_known bus, if_pos div]

theorem timingOf_unknown {f d src b : Byte} (bad : 5 < f.toNat ∨ (d ≠ 1 ∧ d ≠ 2) ∨ 2 < src.toNat ∨ 2 < b.toNat) :
    timingOf f d src b = none := by
  unfold timingOf
  split
  case h_2 => rfl
  case h_1 x r y rate source bus =>
    refine if_neg fun div => ?_
    rcases bad with bad | ⟨one, two⟩ | bad | bad
    · simp [frameRateOfCode_unknown bad] at rate
    · exact div.elim one two
    · rw [refSourceOfCode_eq_ite, if_neg (by omega), if_neg (by omega), if_neg (by omega)] at source
      cases source
    · rw [busRateOfCode_eq_ite, if_neg (by omega), if_neg (by omega), if_neg (by omega)] at bus
      cases bus

/-- Settles O13: the record written through the port, the five records given, and their ranges. -/
theorem configureWritesRecord : Obligations.ConfigureWritesRecord := by
  refine ⟨fun s r k c clamped config place next written => ⟨exec_configure_written config place next written,
      held_of_written place next written⟩, ?timing, ?station, ?outputs, ?defaults, ?onset, ?stationRange, ?outputsRange,
    ?defaultsRange, ?onsetRange, rfl, rfl, ?top⟩
  case timing =>
    intro c f d src b rate div source bus
    obtain ⟨r, given, fields⟩ := timingOf_known rate div source bus
    exact ⟨r, by simp only [writeRecord, given, Option.map_some, Conf.withTiming], fields⟩
  case station =>
    rintro c a b h g st sl raw low high rfl
    exact if_pos (addressInRange_iff.2 ⟨low, high⟩)
  case outputs =>
    rintro c o p i q w l f x raw flag rfl
    exact if_pos flag
  case defaults =>
    rintro c l b sp hin hout pre post raw rfl
    rfl
  case onset =>
    rintro c a tr e d raw rfl
    rfl
  case stationRange =>
    intro r
    simp only [StationRec.inRange, clamp_zero_eq, clamp_eq (show 5 ≤ 50 by decide), clamp_eq (show 25 ≤ 250 by decide),
      clamp_eq (show 2 ≤ 25 by decide)]
  case outputsRange =>
    intro r
    simp only [OutputsRec.inRange, clamp_zero_eq, clamp_eq (show 64 ≤ 4094 by decide), clamp_eq (show 60 ≤ 1200 by decide),
      clamp_eq (show 1 ≤ 12 by decide)]
  case defaultsRange =>
    intro r
    simp only [DefaultsRec.inRange, clamp_zero_eq, clamp_eq (show 6 ≤ 240 by decide), clamp_eq (show 6 ≤ 120 by decide)]
  case onsetRange =>
    intro r byte
    simp only [OnsetRec.inRange, clamp_zero_eq, triggerOf]
    refine ⟨trivial, ?_, ?_, trivial, trivial⟩ <;> split <;> omega
  case top =>
    intro s r timing
    simp [State.pMax, State.timing, timing]

/-- Settles O14: each refusal in its place of the order. -/
theorem configureRefusals : Obligations.ConfigureRefusals := by
  refine ⟨fun s r stage => ?_, fun s code config => ?_, fun s r k config place skips => ?_, fun s f d src b config bad => ?_,
    fun s a b h g st sl config held bad => ?_, fun s o p i q w l f x config held bad => ?_⟩
  · have judged := configureBody_running (s := s.setResponse none) r (running_of_onStage stage)
    rw [exec_configure, take_eq_answered stage.1 judged]
  · have judged := configureBody_unknown (s := s.setResponse none) (r := .other code) (running_of_configurable config) rfl
    rw [exec_configure, take_eq_answered config.1 judged]
  · have judged := configureBody_order (s := s.setResponse none) (running_of_configurable config) place skips
    rw [exec_configure, take_eq_answered config.1 judged]
  · refine exec_configure_refused config rfl (by omega) ?_
    simp [writeRecord, timingOf_unknown bad]
  · refine exec_configure_refused config rfl (by omega) (if_neg fun inside => ?_)
    obtain ⟨low, high⟩ := addressInRange_iff.1 inside
    rcases bad with rfl | bad
    · simp at low
    · omega
  · exact exec_configure_refused config rfl (by omega) (if_neg (by omega))

/-! ## READ STATUS (R199) -/

theorem exec_readStatus (sec index : Byte) (s : State) :
    exec (.readStatus sec index) s = .next (take true (readStatusBody sec index) s) := rfl

theorem readStatusBody_plain {s : State} {sec index : Byte} (noEntry : sec ≠ 5) (noMark : sec ≠ 10) : readStatusBody sec index s =
    match plainSection sec.toNat s with
    | some d => if index = 0 then answer .ok d s else answerPlain .range s
    | none => answerPlain .range s :=
  (if_neg noEntry).trans (if_neg noMark)

/-- An answer written to the emptied buffer is an answer of the state alone: no section reads the response. -/
theorem plainSection_setResponse (code : Nat) (s : State) (r : Option Response) :
    plainSection code (s.setResponse r) = plainSection code s := rfl

theorem plainSection_isSome {code : Nat} (table : code < 10) (noEntry : code ≠ 5) (s : State) : ∃ d, plainSection code s = some d := by
  interval_cases code
  pick_goal 6
  · exact absurd rfl noEntry
  all_goals exact ⟨_, rfl⟩

theorem plainSection_eq_none {code : Nat} (beyond : 10 < code) (s : State) : plainSection code s = none := by
  unfold plainSection
  split
  case h_10 => rfl
  all_goals omega

theorem ne_ten_of_lt {sec : Byte} (table : sec.toNat < 10) : sec ≠ 10 := fun ten => by simp [ten] at table

theorem exec_readStatus_plain {s : State} {sec : Byte} {d : Reply} (free : PortFree s) (table : sec.toNat < 10) (noEntry : sec ≠ 5)
    (given : plainSection sec.toNat s = some d) : exec (.readStatus sec 0) s = .next (s.answered .ok d) := by
  have judged : readStatusBody sec 0 (s.setResponse none) = answer .ok d (s.setResponse none) := by
    rw [readStatusBody_plain noEntry (ne_ten_of_lt table), plainSection_setResponse, given]
    rfl
  rw [exec_readStatus, take_served_eq_answered free judged]

/-- A section outside the table, or an index outside a section's range. -/
theorem exec_readStatus_range {s : State} {sec index : Byte} (free : PortFree s)
    (refused : (sec ≠ 5 ∧ sec ≠ 10 ∧ (index ≠ 0 ∨ plainSection sec.toNat s = none)) ∨
      (sec = 10 ∧ ¬ (1 ≤ index.toNat ∧ index.toNat ≤ 4))) :
    exec (.readStatus sec index) s = .next (s.answered .range .empty) := by
  have judged : readStatusBody sec index (s.setResponse none) = answer .range .empty (s.setResponse none) := by
    rcases refused with ⟨noEntry, noMark, refused⟩ | ⟨rfl, outside⟩
    · rw [readStatusBody_plain noEntry noMark, plainSection_setResponse]
      cases given : plainSection sec.toNat s with
      | none => rfl
      | some d =>
        rcases refused with indexed | none
        · exact if_neg indexed
        · simp [given] at none
    · rw [readStatusBody, if_neg (by decide), if_pos rfl, if_neg (mt markInRange_iff.1 outside)]
      rfl
  rw [exec_readStatus, take_served_eq_answered free judged]

theorem exec_readStatus_mark {s : State} {index : Byte} (free : PortFree s) (low : 1 ≤ index.toNat) (high : index.toNat ≤ 4) :
    exec (.readStatus 10 index) s = .next (s.answered .ok (.mark (s.mark index.toNat) s.markStopFlag)) := by
  have judged : readStatusBody 10 index (s.setResponse none) =
      answer .ok (.mark (s.mark index.toNat) s.markStopFlag) (s.setResponse none) := by
    rw [readStatusBody, if_neg (by decide), if_pos rfl, if_pos (markInRange_iff.2 ⟨low, high⟩)]
    rfl
  rw [exec_readStatus, take_served_eq_answered free judged]

theorem exec_readStatus_entry {s : State} {index : Byte} {w : WindowEntry} (free : PortFree s)
    (present : s.pass.windows[index.toNat]? = some w) :
    exec (.readStatus 5 index) s = .next (s.answered .ok (.windowEntry w)) := by
  have judged : readStatusBody 5 index (s.setResponse none) = answer .ok (.windowEntry w) (s.setResponse none) := by
    rw [readStatusBody, if_pos rfl, show (s.setResponse none).pass.windows[index.toNat]? = some w from present]
  rw [exec_readStatus, take_served_eq_answered free judged]

theorem exec_readStatus_absent {s : State} {index : Byte} (free : PortFree s) (beyond : s.pass.windows.length ≤ index.toNat) :
    exec (.readStatus 5 index) s = .next (s.answered .absent (.count s.pass.windows.length)) := by
  have judged : readStatusBody 5 index (s.setResponse none) =
      answer .absent (.count s.pass.windows.length) (s.setResponse none) := by
    rw [readStatusBody, if_pos rfl, show (s.setResponse none).pass.windows[index.toNat]? = none from List.getElem?_eq_none beyond]
    rfl
  rw [exec_readStatus, take_served_eq_answered free judged]

/-- The held set is armed (R134). -/
theorem armed_iff (s : State) : armed s = true ↔ s.sched.held.isSome = true ∧ (s.pass.state = .inPass ∨ (s.pass.state = .standby ∧
    (∃ w : OwnWindow, s.pass.own = some w ∧ w.label = s.agr.passNumber) ∧ s.agr.transport ≠ .rolling)) := by
  simp only [armed, Bool.and_eq_true, Bool.or_eq_true, decide_eq_true_eq, Option.map_eq_some_iff, and_assoc]

theorem outputsSection_columns {o : OutputUnits} {a b : Nat}
    (columns : (∃ w : OverlayWord, o.lastWord = some w ∧ a = w.laneA ∧ b = w.laneB) ∨ (o.lastWord = none ∧ a = 4095 ∧ b = 4095)) :
    outputsSection o = .outputs (o.laneA.map fun l => (l.cue, a)) (o.laneB.map fun l => (l.cue, b)) o.flashCount o.pipCount
      o.punchCount o.pitch o.pipg o.pipp o.punch o.buffer.isSome (decide (o.shifter ≠ .idle)) := by
  rcases columns with ⟨w, word, rfl, rfl⟩ | ⟨word, rfl, rfl⟩ <;> simp [outputsSection, laneRead, word]

theorem flagBits_two (a b : Bool) : flagBits [a, b] = 2 * a.toNat + b.toNat := by simp [flagBits, bitsNum]

theorem flagBits_three (a b c : Bool) : flagBits [a, b, c] = 4 * a.toNat + 2 * b.toNat + c.toNat := by
  simp only [flagBits, bitsNum, List.foldl_cons, List.foldl_nil]
  omega

theorem Reply.bytes_pass (st : PassState) (outcome : Option PlanOutcome) (closure : Option Nat) (windows : Nat)
    (own : Option OwnWindow) : (Reply.pass st outcome closure windows own).bytes = numBytes 1 st.code ++
      numBytes 1 (4 * outcome.isSome.toNat + 2 * closure.isSome.toNat + own.isSome.toNat) ++
      numBytes 1 ((outcome.map PlanOutcome.code).getD 0) ++ numBytes 2 (closure.getD 0) ++ numBytes 1 windows ++
      match own with
      | none => List.replicate 14 0
      | some w => numBytes 2 w.label ++ numBytes 1 w.stepIndex ++ numBytes 1 w.mode.code ++ numBytes 2 w.firstCue ++
        numBytes 4 w.pIn ++ numBytes 4 w.pOut := by
  rw [← flagBits_three]
  cases own <;> rfl

theorem Reply.bytes_scheduler (n o p i q : Nat) (head : Option Event) (held arm : Bool) :
    (Reply.scheduler n head held arm o p i q).bytes =
    numBytes 1 n ++ numBytes 1 (2 * head.isSome.toNat + (head.bind Event.pip).isSome.toNat) ++
      (match head with
      | none => List.replicate 12 0
      | some e => numBytes 2 e.cue ++ numBytes 1 e.kind.code ++ numBytes 1 (e.pip.getD 0) ++ numBytes 4 e.pos ++
        numBytes 4 e.fire) ++
      numBytes 1 held.toNat ++ numBytes 1 arm.toNat ++ numBytes 2 o ++ numBytes 2 p ++ numBytes 2 i ++ numBytes 2 q := by
  rw [← flagBits_two]
  cases head <;> rfl

theorem laneBytes_eq (x : Option (Nat × Nat)) :
    laneBytes x = numBytes 2 ((x.map Prod.fst).getD 0) ++ numBytes 2 ((x.map Prod.snd).getD 0) := by
  cases x <;> rfl

theorem Reply.bytes_outputs (a b : Option (Nat × Nat)) (flash pip punchCount : Nat) (pitch : Pitch)
    (pipg pipp punch buffered shifting : Bool) :
    (Reply.outputs a b flash pip punchCount pitch pipg pipp punch buffered shifting).bytes =
    numBytes 1 (2 * a.isSome.toNat + b.isSome.toNat) ++ numBytes 2 ((a.map Prod.fst).getD 0) ++
      numBytes 2 ((a.map Prod.snd).getD 0) ++ numBytes 2 ((b.map Prod.fst).getD 0) ++
      numBytes 2 ((b.map Prod.snd).getD 0) ++ numBytes 1 flash ++ numBytes 1 pip ++ numBytes 1 punchCount ++
      numBytes 1 pitch.code ++ numBytes 1 pipg.toNat ++ numBytes 1 pipp.toNat ++ numBytes 1 punch.toNat ++
      numBytes 1 buffered.toNat ++ numBytes 1 shifting.toNat := by
  rw [← flagBits_two]
  simp only [Reply.bytes, laneBytes_eq, bFlag, b1, List.append_assoc]

/-- Settles O16: the answers by section and index, the values of each section, and the bytes of each answer. -/
theorem readStatusReports : Obligations.ReadStatusReports := by
  refine ⟨fun s sec free table noEntry => ?_, fun s sec index free table noEntry indexed => ?_,
    fun s index w free present => exec_readStatus_entry free present, fun s index free beyond => exec_readStatus_absent free beyond,
    fun s index free low high => exec_readStatus_mark free low high, fun s index free outside => ?_, fun s sec index free beyond => ?_,
    fun s => ⟨rfl, rfl⟩, fun s => ⟨rfl, rfl, fun own => ?_, fun w own => ?_, rfl⟩, fun s => ⟨armed s, rfl, armed_iff s⟩,
    fun s a b columns => congrArg some (outputsSection_columns columns), fun s => rfl, fun _ _ _ _ _ _ test _ => ?_,
    fun _ _ _ => rfl, fun _ _ _ _ => rfl, Reply.bytes_pass, fun _ _ => ⟨rfl, rfl⟩, Reply.bytes_scheduler, Reply.bytes_outputs,
    fun _ => ⟨rfl, ?_⟩, fun _ _ _ _ _ _ => rfl, fun _ _ => rfl, ?_⟩
  · obtain ⟨d, given⟩ := plainSection_isSome table (fun five => noEntry (by bv_omega)) s
    exact ⟨d, given, exec_readStatus_plain free table noEntry given⟩
  · exact exec_readStatus_range free (.inl ⟨noEntry, ne_ten_of_lt table, .inl indexed⟩)
  · refine exec_readStatus_range free (.inr ⟨rfl, fun inside => ?_⟩)
    rcases outside with rfl | outside
    · simp at inside
    · omega
  · refine exec_readStatus_range free (.inl ⟨fun five => ?_, fun ten => ?_, .inr (plainSection_eq_none beyond s)⟩)
    · simp [five] at beyond
    · simp [ten] at beyond
  · simp [plainSection, own]
  · simp [plainSection, own]
  · cases test <;> rfl
  · simp only [Reply.bytes, lastWordBytes, bFlag, b1, b2, Option.isSome_some, Bool.toNat_true, List.append_assoc]
  · exact ⟨rfl, rfl, rfl, rfl, rfl, rfl, rfl, rfl, rfl, rfl, rfl, rfl, rfl, rfl, rfl⟩

/-! ## The posting of a notice (R190, R191) -/

/-- Settles O18: the two ways of a post, ATTN by the queue, and the bytes and codes of a notice. -/
theorem noticePosting : Obligations.NoticePosting := by
  refine ⟨fun k d s room => if_pos room, fun k d s full => if_neg (by simpa using full), fun s => ?_, fun _ _ _ => rfl, rfl⟩
  rw [attn_eq_decide, decide_eq_true_iff]

end Sys2Proof.Machine

/-! PROOF. The cue store at the port (R73 to R81): LOAD CUE, DELETE CUE and READ CUE judged in order, the table they leave, and the bytes of a record. -/

namespace Sys2Proof.Machine

-- One proof after another: under the check's memory limit there is no room for a thread per proof.
set_option Elab.async false

/-! ## The search of the table by id -/

theorem findCue_id {cues : List CueRec} {id : Nat} {c : CueRec} (found : findCue cues id = some c) : c.id = id := by
  simpa [findCue] using List.find?_some found

theorem findCue_mem {cues : List CueRec} {id : Nat} {c : CueRec} (found : findCue cues id = some c) : c ∈ cues :=
  List.mem_of_find?_eq_some found

theorem findCue_eq_none_of {cues : List CueRec} {id : Nat} (absent : ∀ c ∈ cues, c.id ≠ id) : findCue cues id = none := by
  rw [findCue_eq_none_iff, List.mem_map]
  rintro ⟨c, mem, same⟩
  exact absent c mem same

/-- Where ids are unique, the one record of an id stands between records of other ids. -/
theorem removeCue_split {before after : List CueRec} {c : CueRec} (unique : ((before ++ c :: after).map CueRec.id).Nodup) :
    removeCue c.id (before ++ c :: after) = before ++ after := by
  simp only [List.map_append, List.map_cons, List.nodup_append, List.nodup_cons, List.mem_map, List.mem_cons] at unique
  obtain ⟨-, ⟨later, -⟩, apart⟩ := unique
  have kept : ∀ l : List CueRec, (∀ x ∈ l, x.id ≠ c.id) → l.filter (fun x => x.id != c.id) = l := fun l other =>
    List.filter_eq_self.2 fun x mem => by simpa using other x mem
  unfold removeCue
  rw [List.filter_append, List.filter_cons_of_neg (by simp), kept before, kept after]
  · exact fun x mem same => later ⟨x, mem, same⟩
  · exact fun x mem => apart x.id ⟨x, mem, rfl⟩ c.id (.inl rfl)

theorem removeCue_length {cues : List CueRec} {id : Nat} {c : CueRec} (found : findCue cues id = some c)
    (ordered : CuesOrdered cues) : (removeCue id cues).length + 1 = cues.length := by
  obtain ⟨before, after, rfl⟩ := List.append_of_mem (findCue_mem found)
  obtain rfl := findCue_id found
  rw [removeCue_split ordered.unique]
  simp only [List.length_append, List.length_cons]
  omega

/-! ## LOAD CUE (R73 to R78) -/

theorem fieldFits_iff {lo hi : Nat} {x : Option Nat} : fieldFits lo hi x = true ↔ ∀ v, x = some v → lo ≤ v ∧ v ≤ hi := by
  cases x <;> simp [fieldFits]

theorem cueFits_iff (f : FrameRate) (c : CueRec) : cueFits f c = true ↔
    c.id ≠ 0 ∧ c.s + 1 ≤ f.fps * 86400 * 120 - 1 ∧ c.s < c.e ∧ c.e ≤ f.fps * 86400 * 120 - 1 ∧
    c.e - c.s ≤ f.fps * 7200 ∧ (∀ v : Nat, c.lead = some v → 6 ≤ v ∧ v ≤ 240) ∧
    (∀ v : Nat, c.beeps = some v → v ≤ 4) ∧ (∀ v : Nat, c.spacing = some v → 6 ≤ v ∧ v ≤ 120) ∧
    (∀ v : Nat, c.preroll = some v → v ≤ 1200) ∧ (∀ v : Nat, c.postroll = some v → v ≤ 1200) ∧
    (∀ v : Nat, c.handleIn = some v → v ≤ 240) ∧ (∀ v : Nat, c.handleOut = some v → v ≤ 240) ∧ c.tag ≤ 15 := by
  rw [← FrameRate.pMax]
  simp only [cueFits, Bool.and_eq_true, decide_eq_true_eq, fieldFits_iff, Nat.zero_le, true_and, and_assoc]

theorem beepsReduced_iff (c : CueRec) : beepsReduced c = true ↔ c.beeps = some 4 ∧ c.silentLast = false := by
  simp [beepsReduced]

theorem loadCueBody_range {s : State} {a : CueArgs} (running : s.running = true) (bad : cueFits s.timing.frameRate (rawCue a) = false) :
    loadCueBody a s = answerPlain .range s := by
  simp [loadCueBody, running, bad]

theorem loadCueBody_exists {s : State} {a : CueArgs} {old : CueRec} (running : s.running = true)
    (fits : cueFits s.timing.frameRate (rawCue a) = true) (found : findCue s.cues a.id.toNat = some old)
    (keep : replaceFlag a = false) : loadCueBody a s = answerPlain .exists_ s := by
  simp [loadCueBody, running, fits, show findCue s.cues (rawCue a).id = some old from found, keep]

theorem loadCueBody_busy {s : State} {a : CueArgs} {old : CueRec} (running : s.running = true)
    (fits : cueFits s.timing.frameRate (rawCue a) = true) (found : findCue s.cues a.id.toNat = some old)
    (replace : replaceFlag a = true) (pinned : old.pinned = true) : loadCueBody a s = answerPlain .busy s := by
  simp [loadCueBody, running, fits, show findCue s.cues (rawCue a).id = some old from found, replace, pinned]

theorem loadCueBody_full {s : State} {a : CueArgs} (running : s.running = true)
    (fits : cueFits s.timing.frameRate (rawCue a) = true) (absent : findCue s.cues a.id.toNat = none)
    (full : 256 ≤ s.cues.length) : loadCueBody a s = answerPlain .full s := by
  simp [loadCueBody, running, fits, show findCue s.cues (rawCue a).id = none from absent, full]

theorem loadCueBody_insert {s : State} {a : CueArgs} (running : s.running = true)
    (fits : cueFits s.timing.frameRate (rawCue a) = true) (absent : findCue s.cues a.id.toNat = none)
    (room : s.cues.length < 256) : loadCueBody a s =
      answerPlain (okStatus (beepsReduced (rawCue a))) (s.setCues (insertCue (storedCue (rawCue a)) s.cues)) := by
  simp [loadCueBody, running, fits, show findCue s.cues (rawCue a).id = none from absent, room.not_ge]

theorem loadCueBody_replace {s : State} {a : CueArgs} {old : CueRec} (running : s.running = true)
    (fits : cueFits s.timing.frameRate (rawCue a) = true) (found : findCue s.cues a.id.toNat = some old)
    (replace : replaceFlag a = true) (free : old.pinned = false) : loadCueBody a s =
      answerPlain (okStatus (beepsReduced (rawCue a)))
        (s.setCues (insertCue (storedCue (rawCue a)) (removeCue a.id.toNat s.cues))) := by
  have found' : findCue s.cues (rawCue a).id = some old := found
  simp only [loadCueBody, running, fits, found', replace, free, Bool.not_true, Bool.false_eq_true, ↓reduceIte]
  rfl

/-- Settles O19: each judgement of the body through the port, with what the inserted and the replaced table hold. -/
theorem loadCueJudged : Obligations.LoadCueJudged := by
  refine ⟨fun s a config => exec_answered rfl config.1 (commandBody_config rfl (running_of_configurable config)),
    fun s a stage bad => exec_answered rfl stage.1 (loadCueBody_range (s := s.setResponse none) (running_of_onStage stage) bad),
    fun s a old stage fits found keep => exec_answered rfl stage.1
      (loadCueBody_exists (s := s.setResponse none) (running_of_onStage stage) fits found keep),
    fun s a old stage fits found replace pinned => exec_answered rfl stage.1
      (loadCueBody_busy (s := s.setResponse none) (running_of_onStage stage) fits found replace pinned),
    fun s a stage fits absent full => exec_answered rfl stage.1
      (loadCueBody_full (s := s.setResponse none) (running_of_onStage stage) fits absent full),
    fun s a stage fits absent room => ?insert, fun s a old stage fits found replace free => ?replace,
    fun s a free test => ?testing, cueFits_iff, fun a => ⟨rfl, rfl⟩,
    fun c => ⟨beepsReduced_iff c, fun reduced => if_pos reduced, fun whole => if_neg (by simp [whole])⟩⟩
  case insert =>
    refine ⟨insertCue (storedCue (rawCue a)) s.cues, exec_answered (st := okStatus (beepsReduced (rawCue a))) rfl stage.1
      (loadCueBody_insert (s := s.setResponse none) (running_of_onStage stage) fits absent room), ?_, fun c => ?_, fun ordered => ?_⟩
    · exact (insertCue_perm _ _).length_eq
    · rw [(insertCue_perm _ _).mem_iff, List.mem_cons]
    · exact cuesOrdered_insertCue ordered (by rw [storedCue_id]; exact findCue_eq_none_iff.1 absent)
  case replace =>
    refine ⟨insertCue (storedCue (rawCue a)) (removeCue a.id.toNat s.cues), exec_answered (st := okStatus (beepsReduced (rawCue a)))
      rfl stage.1 (loadCueBody_replace (s := s.setResponse none) (running_of_onStage stage) fits found replace free), fun c => ?_,
      fun ordered => ⟨?_, ?_⟩⟩
    · rw [(insertCue_perm _ _).mem_iff, List.mem_cons, removeCue, List.mem_filter, bne_iff_ne]
    · exact cuesOrdered_insertCue (cuesOrdered_removeCue _ ordered) (by rw [storedCue_id]; exact removeCue_absent _ _)
    · rw [(insertCue_perm _ _).length_eq, List.length_cons, removeCue_length found ordered]
  case testing =>
    rw [exec_of_command (i := .loadCue a) rfl]
    exact congrArg _ (take_of_lineTest _ free test)

/-! ## DELETE CUE (R79) -/

theorem deleteCueBody_range {s : State} (running : s.running = true) : deleteCueBody 0 s = answerPlain .range s := by
  simp [deleteCueBody, running]

theorem deleteCueBody_absent {s : State} {id : Half} (running : s.running = true) (set : id ≠ 0)
    (absent : findCue s.cues id.toNat = none) : deleteCueBody id s = answerPlain .absent s := by
  simp only [deleteCueBody, running, absent, Bool.not_true, Bool.false_eq_true, ↓reduceIte, if_neg set]

theorem deleteCueBody_busy {s : State} {id : Half} {c : CueRec} (running : s.running = true) (set : id ≠ 0)
    (found : findCue s.cues id.toNat = some c) (pinned : c.pinned = true) : deleteCueBody id s = answerPlain .busy s := by
  simp only [deleteCueBody, running, found, pinned, Bool.not_true, Bool.false_eq_true, ↓reduceIte, if_neg set]

theorem deleteCueBody_ok {s : State} {id : Half} {c : CueRec} (running : s.running = true) (set : id ≠ 0)
    (found : findCue s.cues id.toNat = some c) (free : c.pinned = false) :
    deleteCueBody id s = answerPlain .ok (s.setCues (removeCue id.toNat s.cues)) := by
  simp only [deleteCueBody, running, found, free, Bool.not_true, Bool.false_eq_true, ↓reduceIte, if_neg set]

/-- Settles O21: the judgements of the body through the port; where ids are unique the removal takes the one record found. -/
theorem deleteCueJudged : Obligations.DeleteCueJudged := by
  refine ⟨fun s id config => exec_answered rfl config.1 (commandBody_config rfl (running_of_configurable config)),
    fun s stage => exec_answered rfl stage.1 (deleteCueBody_range (s := s.setResponse none) (running_of_onStage stage)),
    fun s id stage set absent => exec_answered rfl stage.1 (deleteCueBody_absent (s := s.setResponse none) (running_of_onStage stage) set
      (findCue_eq_none_of absent)),
    fun s id c stage set found pinned => exec_answered rfl stage.1
      (deleteCueBody_busy (s := s.setResponse none) (running_of_onStage stage) set found pinned),
    fun s id c stage set found free ordered => ?_⟩
  obtain ⟨before, after, split⟩ := List.append_of_mem (findCue_mem found)
  refine ⟨before, after, split, ?_⟩
  have removed : removeCue id.toNat s.cues = before ++ after := by
    rw [← findCue_id found, split, removeCue_split (split ▸ ordered.unique)]
  rw [← removed]
  exact exec_answered rfl stage.1 (deleteCueBody_ok (s := s.setResponse none) (running_of_onStage stage) set found free)

/-! ## READ CUE (R81) -/

theorem readCueAt_present {s : State} {k : Nat} {c : CueRec} (present : s.cues[k]? = some c) :
    readCueAt s (some k) = answer .ok (.cue s.cues.length k c) s := by
  simp only [readCueAt, present]

theorem readCueAt_beyond {s : State} {k : Nat} (beyond : s.cues[k]? = none) :
    readCueAt s (some k) = answer .absent (.cueCount s.cues.length) s := by
  simp only [readCueAt, beyond]

theorem readCueBody_byIndex {s : State} (index : Byte) (running : s.running = true) :
    readCueBody (.byIndex index) s = readCueAt s (some index.toNat) := by
  simp [readCueBody, running]

theorem readCueBody_byId {s : State} {id : Half} (running : s.running = true) (set : id ≠ 0) :
    readCueBody (.byId id) s = readCueAt s (cueIndex s.cues id.toNat) := by
  simp only [readCueBody, running, Bool.not_true, Bool.false_eq_true, ↓reduceIte, if_neg set]

theorem cueIndex_eq_none {cues : List CueRec} {id : Nat} (absent : ∀ c ∈ cues, c.id ≠ id) : cueIndex cues id = none := by
  rw [cueIndex, List.findIdx?_eq_none_iff]
  simpa using absent

/-- With unique ids the record of an id stands at one place. -/
theorem cueIndex_eq {cues : List CueRec} {k : Nat} {c : CueRec} (unique : (cues.map CueRec.id).Nodup)
    (present : cues[k]? = some c) : cueIndex cues c.id = some k := by
  obtain ⟨inside, rfl⟩ := List.getElem?_eq_some_iff.1 present
  rw [cueIndex, List.findIdx?_eq_some_iff_getElem]
  refine ⟨inside, by simp, fun j before => ?_⟩
  have apart := List.pairwise_iff_getElem.1 unique j k (by simpa using before.trans inside) (by simpa using inside) before
  simpa using apart

theorem flagBits_four (a b c d : Bool) : flagBits [a, b, c, d] = 8 * a.toNat + 4 * b.toNat + 2 * c.toNat + d.toNat := by
  simp only [flagBits, bitsNum, List.foldl_cons, List.foldl_nil]
  omega

theorem flagBits_seven (a b c d e f g : Bool) : flagBits [a, b, c, d, e, f, g] =
    64 * a.toNat + 32 * b.toNat + 16 * c.toNat + 8 * d.toNat + 4 * e.toNat + 2 * f.toNat + g.toNat := by
  simp only [flagBits, bitsNum, List.foldl_cons, List.foldl_nil]
  omega

/-- Settles O22: the record by index, by id, or its absence, and the bytes of the answer. -/
theorem readCueReports : Obligations.ReadCueReports := by
  refine ⟨fun s stage => exec_answered rfl stage.1 ?zero, fun s index c stage present => exec_answered rfl stage.1 ?present,
    fun s index stage beyond => exec_answered rfl stage.1 ?beyond, fun s id stage set absent => exec_answered rfl stage.1 ?absent,
    fun s id k c stage set ordered present same => exec_answered rfl stage.1 ?found,
    fun s selector stage => exec_answered rfl stage.1 ?other, fun n index c => ?bytes⟩
  case zero =>
    have running : (s.setResponse none).running = true := running_of_onStage stage
    simp [commandBody, readCueBody, running, answerPlain]
  case present =>
    exact (readCueBody_byIndex (s := s.setResponse none) index (running_of_onStage stage)).trans (readCueAt_present present)
  case beyond =>
    exact (readCueBody_byIndex (s := s.setResponse none) index (running_of_onStage stage)).trans
      (readCueAt_beyond (List.getElem?_eq_none beyond))
  case absent =>
    refine (readCueBody_byId (s := s.setResponse none) (running_of_onStage stage) set).trans ?_
    rw [show cueIndex (s.setResponse none).cues id.toNat = none from cueIndex_eq_none absent]
    rfl
  case found =>
    refine (readCueBody_byId (s := s.setResponse none) (running_of_onStage stage) set).trans ?_
    rw [← same, show cueIndex (s.setResponse none).cues c.id = some k from cueIndex_eq ordered.unique present]
    exact readCueAt_present present
  case other =>
    have running : (s.setResponse none).running = true := running_of_onStage stage
    simp [commandBody, readCueBody, running, answerPlain]
  case bytes =>
    rw [← flagBits_seven, ← flagBits_four]
    simp only [Reply.bytes, CueRec.bytes, b1, b2, b4, orZero, List.append_assoc]

end Sys2Proof.Machine

/-! PROOF. The stage commands that offer frames (R35, R36, R67 to R70, R124): what admission answers, the console commands by its answer, HOLD and RELEASE over the standing reasons, and READ PEERS. -/

namespace Sys2Proof.Machine

-- One proof after another: under the check's memory limit there is no room for a thread per proof.
set_option Elab.async false

/-! ## Admission by kind and room (R35, R36) -/

/-- A frame of class 0 (R24): it replaces nothing and displaces a BEACON. -/
abbrev QueuedFrame.moves (f : QueuedFrame) : Prop := f.kind = .anchor ∨ f.kind = .locate

/-- A frame that neither is a BEACON nor finds a HOLD or RELEASE to replace is judged by the room alone. -/
theorem admitTo_plain {q : List TxEntry} {f : QueuedFrame} (m : Bool) (noBeacon : f.kind ≠ .beacon)
    (replaces : ¬ ((f.kind = .hold ∨ f.kind = .release) ∧ q.any TxEntry.waitingHold = true)) : admitTo q f m =
    if q.length < Config.queueCapacity then (.admitted, q ++ [newEntry f m])
    else if f.kind.cls = 3 then (.dropped, q)
    else if q.any TxEntry.waitingBeacon then (.admitted, dropNewest TxEntry.waitingBeacon q ++ [newEntry f m])
    else (.full, q) :=
  (if_neg fun both => noBeacon both.1).trans (if_neg replaces)

theorem cls_ne_three {f : QueuedFrame} (noBeacon : f.kind ≠ .beacon) : f.kind.cls ≠ 3 := by
  cases f with
  | beacon => exact absurd rfl noBeacon
  | _ => simp [QueuedFrame.kind, FrameKind.cls]

theorem admitTo_room {q : List TxEntry} {f : QueuedFrame} (m : Bool) (noBeacon : f.kind ≠ .beacon)
    (replaces : ¬ ((f.kind = .hold ∨ f.kind = .release) ∧ q.any TxEntry.waitingHold = true)) (room : q.length < 8) :
    admitTo q f m = (.admitted, q ++ [⟨f, 0, false, m⟩]) :=
  (admitTo_plain m noBeacon replaces).trans (if_pos room)

theorem admitTo_full {q : List TxEntry} {f : QueuedFrame} (m : Bool) (noBeacon : f.kind ≠ .beacon)
    (replaces : ¬ ((f.kind = .hold ∨ f.kind = .release) ∧ q.any TxEntry.waitingHold = true)) (full : 8 ≤ q.length)
    (noWaiting : q.any TxEntry.waitingBeacon = false) : admitTo q f m = (.full, q) := by
  rw [admitTo_plain m noBeacon replaces, if_neg (by simpa using full), if_neg (cls_ne_three noBeacon), if_neg (by simp [noWaiting])]

theorem admitTo_displaces {before after : List TxEntry} {b : TxEntry} {f : QueuedFrame} (m : Bool) (noBeacon : f.kind ≠ .beacon)
    (replaces : ¬ ((f.kind = .hold ∨ f.kind = .release) ∧ (before ++ b :: after).any TxEntry.waitingHold = true))
    (full : 8 ≤ (before ++ b :: after).length) (waits : b.waitingBeacon = true) (newest : after.any TxEntry.waitingBeacon = false) :
    admitTo (before ++ b :: after) f m = (.admitted, before ++ after ++ [⟨f, 0, false, m⟩]) := by
  rw [admitTo_plain m noBeacon replaces, if_neg (by simpa using full), if_neg (cls_ne_three noBeacon), if_pos (by simp [waits]),
    dropNewest_split _ _ _ _ waits newest]
  rfl

theorem admitTo_replacesHold {before after : List TxEntry} {b : TxEntry} {f : QueuedFrame} (m : Bool)
    (kind : f.kind = .hold ∨ f.kind = .release) (waits : b.waitingHold = true) (newest : after.any TxEntry.waitingHold = false) :
    admitTo (before ++ b :: after) f m = (.admitted, before ++ after ++ [⟨f, 0, false, m⟩]) := by
  have noBeacon : f.kind ≠ .beacon := by rcases kind with kind | kind <;> simp [kind]
  refine (if_neg fun both => noBeacon both.1).trans ((if_pos ⟨kind, by simp [waits]⟩).trans ?_)
  rw [dropNewest_split _ _ _ _ waits newest]
  rfl

theorem offer_closed {s : State} (closed : s.bus.link.admits = false) (f : QueuedFrame) (m : Bool) : offer f m s = (.closed, s) := by
  simp [offer, closed]

theorem offer_open {s : State} (opened : s.bus.link.admits = true) (f : QueuedFrame) (m : Bool) : offer f m s =
    ((admitTo s.bus.queue f m).1, s.setBus { s.bus with queue := (admitTo s.bus.queue f m).2 }) := by
  simp [offer, opened]

theorem offer_setResponse (f : QueuedFrame) (m : Bool) (s : State) (r : Option Response) :
    offer f m (s.setResponse r) = ((offer f m s).1, (offer f m s).2.setResponse r) := by
  cases opened : s.bus.link.admits with
  | true => rw [offer_open opened, offer_open (s := s.setResponse r) opened]; rfl
  | false => rw [offer_closed opened, offer_closed (s := s.setResponse r) opened]

theorem moves_noBeacon {f : QueuedFrame} (moves : f.moves) : f.kind ≠ .beacon := by
  rcases moves with kind | kind <;> simp [kind]

theorem moves_noReplace {f : QueuedFrame} (moves : f.moves) (q : List TxEntry) :
    ¬ ((f.kind = .hold ∨ f.kind = .release) ∧ q.any TxEntry.waitingHold = true) := by
  rcases moves with kind | kind <;> simp [kind]

/-! ## A frame of class 0 offered from the console -/

/-- The command is answered as admission of its frame says (R35, R36, R67, R68). -/
structure AnsweredByAdmission (i : Instr) (s : State) (f : QueuedFrame) (st : Status) : Prop where
  room : s.bus.link.admits = true → s.bus.queue.length < 8 → exec i s =
    .next ((s.setBus { s.bus with queue := s.bus.queue ++ [⟨f, 0, false, false⟩] }).answered st .empty)
  closed : s.bus.link.admits = false → exec i s = .next (s.answered .state .empty)
  full : s.bus.link.admits = true → 8 ≤ s.bus.queue.length → s.bus.queue.any TxEntry.waitingBeacon = false →
    exec i s = .next (s.answered .queueFull .empty)
  displaces : ∀ (before after : List TxEntry) (b : TxEntry), s.bus.link.admits = true → 8 ≤ s.bus.queue.length →
    s.bus.queue = before ++ b :: after → b.waitingBeacon = true → after.any TxEntry.waitingBeacon = false →
    exec i s = .next ((s.setBus { s.bus with queue := before ++ after ++ [⟨f, 0, false, false⟩] }).answered st .empty)

theorem consoleOffer_admitted {s t : State} {f : QueuedFrame} {accept : State → Body} (admitted : offer f false s = (.admitted, t)) :
    consoleOffer f accept s = accept t := by
  rw [consoleOffer, admitted]
  rfl

theorem consoleOffer_closed {s : State} {f : QueuedFrame} (accept : State → Body) (closed : (offer f false s).1 = .closed) :
    consoleOffer f accept s = answerPlain .state s := by
  rw [consoleOffer, closed]
  rfl

theorem consoleOffer_full {s : State} {f : QueuedFrame} (accept : State → Body) (full : (offer f false s).1 = .full) :
    consoleOffer f accept s = answerPlain .queueFull s := by
  rw [consoleOffer, full]
  rfl

theorem answeredByAdmission {i : Instr} {c : Command} {s : State} {f : QueuedFrame} {st : Status} (command : i.command = some c)
    (ready : PortReady s) (moves : f.moves)
    (body : commandBody c (s.setResponse none) = consoleOffer f (answerPlain st) (s.setResponse none)) :
    AnsweredByAdmission i s f st := by
  have accepted : ∀ q, s.bus.link.admits = true → admitTo s.bus.queue f false = (.admitted, q) →
      exec i s = .next ((s.setBus { s.bus with queue := q }).answered st .empty) := fun q opened admitted => by
    refine exec_answered command ready (body.trans (consoleOffer_admitted ?_))
    rw [offer_setResponse, offer_open opened, admitted]
  refine ⟨fun opened room => ?_, fun closed => ?_, fun opened full none => ?_, fun before after b opened full split waits newest => ?_⟩
  · exact accepted _ opened (admitTo_room false (moves_noBeacon moves) (moves_noReplace moves _) room)
  · refine exec_answered command ready (body.trans (consoleOffer_closed _ ?_))
    rw [offer_setResponse, offer_closed closed]
  · refine exec_answered command ready (body.trans (consoleOffer_full _ ?_))
    rw [offer_setResponse, offer_open opened, admitTo_full false (moves_noBeacon moves) (moves_noReplace moves _) full none]
  · refine accepted _ opened ?_
    rw [split] at full ⊢
    exact admitTo_displaces false (moves_noBeacon moves) (moves_noReplace moves _) full waits newest

theorem clampRate_eq (r : Nat) : clampRate r = min 240 (max 60 r) := by
  rw [clampRate, clamp_eq (by decide)]
  omega

theorem answeredByAdmission_stop {s : State} (stage : OnStage s) :
    AnsweredByAdmission .transportStop s (.anchor false s.posn.rate s.posn.pEdge) .ok := by
  refine answeredByAdmission rfl stage.1 (.inl rfl) ?_
  have running : (s.setResponse none).running = true := running_of_onStage stage
  simp only [commandBody, transportStopBody, running, Bool.not_true, Bool.false_eq_true, ↓reduceIte]
  rfl

theorem answeredByAdmission_play {s : State} (rate : Byte) (stage : OnStage s) :
    AnsweredByAdmission (.transportPlay rate) s (.anchor true (min 240 (max 60 rate.toNat)) (playPosition s))
      (if rate.toNat < 60 ∨ 240 < rate.toNat then .okClamped else .ok) := by
  have running : (s.setResponse none).running = true := running_of_onStage stage
  have told : okStatus (decide (clampRate rate.toNat ≠ rate.toNat)) =
      if rate.toNat < 60 ∨ 240 < rate.toNat then .okClamped else .ok := by
    unfold okStatus
    congr 1
    rw [decide_eq_true_iff, clampRate_eq, eq_iff_iff]
    omega
  rw [← clampRate_eq]
  refine answeredByAdmission rfl stage.1 (.inl rfl) ?_
  simp only [commandBody, transportPlayBody, running, Bool.not_true, Bool.false_eq_true, ↓reduceIte, told]
  rfl

theorem answeredByAdmission_locate {s : State} (target : Quad) (rate : Byte) {play : Byte} (stage : OnStage s) (flag : play.toNat ≤ 1) :
    AnsweredByAdmission (.transportLocate target rate play) s
      (.locate false (decide (play = 1)) (min 240 (max 60 rate.toNat)) s.station.settle ((s.agr.passNumber + 1) % 65536)
        (min target.toNat s.pMax))
      (if s.pMax < target.toNat ∨ rate.toNat < 60 ∨ 240 < rate.toNat then .okClamped else .ok) := by
  have running : (s.setResponse none).running = true := running_of_onStage stage
  have good : badFlag play = false := decide_eq_false (by omega)
  have told : okStatus (decide ((s.setResponse none).clampPos target.toNat ≠ target.toNat) ||
      decide (clampRate rate.toNat ≠ rate.toNat)) =
      if s.pMax < target.toNat ∨ rate.toNat < 60 ∨ 240 < rate.toNat then .okClamped else .ok := by
    unfold okStatus
    congr 1
    rw [Bool.or_eq_true, decide_eq_true_iff, decide_eq_true_iff, clampRate_eq, State.clampPos, State.setResponse_pMax, eq_iff_iff]
    omega
  rw [← clampRate_eq]
  refine answeredByAdmission rfl stage.1 (.inr rfl) ?_
  simp only [commandBody, transportLocateBody, running, good, Bool.not_true, Bool.false_eq_true, ↓reduceIte, told]
  rfl

theorem exec_transportLocate_range {s : State} (target : Quad) (rate : Byte) {play : Byte} (stage : OnStage s) (bad : 1 < play.toNat) :
    exec (.transportLocate target rate play) s = .next (s.answered .range .empty) := by
  refine exec_answered rfl stage.1 ?_
  have running : (s.setResponse none).running = true := running_of_onStage stage
  have refused : badFlag play = true := decide_eq_true bad
  simp [commandBody, transportLocateBody, running, refused, answerPlain]

/-- Settles O29: the three commands where admission has room, and the position that PLAY carries. -/
theorem transportFramesOffered : Obligations.TransportFramesOffered :=
  ⟨fun _ target rate _ stage opened room flag => (answeredByAdmission_locate target rate stage flag).room opened room,
    fun _ target rate _ stage bad => exec_transportLocate_range target rate stage bad,
    fun _ rate stage opened room => (answeredByAdmission_play rate stage).room opened room,
    fun _ stage opened room => (answeredByAdmission_stop stage).room opened room,
    fun _ l cueing present => by simp [playPosition, cueing, present], fun _ rest => if_neg rest⟩

/-- Settles O30: the three commands where admission has no room. -/
theorem consoleAdmission : Obligations.ConsoleAdmission := by
  refine ⟨fun s i f st stage given => ?_, fun l => by cases l <;> decide⟩
  have admission : AnsweredByAdmission i s f st := by
    rcases given with ⟨rfl, rfl, rfl⟩ | ⟨rate, rfl, rfl, rfl⟩ | ⟨target, rate, play, rfl, flag, rfl, rfl⟩
    · exact answeredByAdmission_stop stage
    · exact answeredByAdmission_play rate stage
    · exact answeredByAdmission_locate target rate stage flag
  exact ⟨admission.closed, admission.full, admission.displaces⟩

/-! ## GO (R124) -/

/-- The windows that GO looks at: the ANNOUNCED entries of pass n or n + 1. -/
def goWindows (s : State) : List WindowEntry :=
  s.pass.windows.filter fun w => decide (w.status = .announced) && inClosureSet s.agr.passNumber w

theorem mem_goWindows {s : State} {w : WindowEntry} : w ∈ goWindows s ↔ w ∈ s.pass.windows ∧ w.status = .announced ∧
    (w.passNumber = s.agr.passNumber ∨ w.passNumber = nextPass s.agr.passNumber) := by
  simp [goWindows, inClosureSet]

theorem foldl_min_le (l : List Nat) (x : Nat) : l.foldl min x ≤ x ∧ ∀ y ∈ l, l.foldl min x ≤ y := by
  induction l generalizing x with
  | nil => simp
  | cons a rest ih =>
    obtain ⟨first, others⟩ := ih (min x a)
    refine ⟨first.trans (Nat.min_le_left _ _), fun y mem => ?_⟩
    rcases List.mem_cons.1 mem with rfl | mem
    · exact first.trans (Nat.min_le_right _ _)
    · exact others y mem

theorem foldl_min_mem (l : List Nat) (x : Nat) : l.foldl min x ∈ x :: l := by
  induction l generalizing x with
  | nil => simp
  | cons a rest ih =>
    rcases List.mem_cons.1 (ih (min x a)) with same | mem
    · rw [List.foldl_cons, same]
      rcases Nat.le_total x a with le | le
      · simp [Nat.min_eq_left le]
      · simp [Nat.min_eq_right le]
    · exact List.mem_cons_of_mem _ (List.mem_cons_of_mem _ mem)

theorem goTarget_eq_none {s : State} (none : goWindows s = []) : goTarget s = Option.none := by
  rw [goTarget, show (s.pass.windows.filter _) = [] from none]
  rfl

/-- GO aims at the smallest P_in among the windows that it looks at. -/
theorem goTarget_eq {s : State} {w : WindowEntry} (mem : w ∈ goWindows s) (least : ∀ x ∈ goWindows s, w.pIn ≤ x.pIn) :
    goTarget s = some w.pIn := by
  have listed : ∃ x rest, (goWindows s).map WindowEntry.pIn = x :: rest := by
    cases windows : goWindows s with
    | nil => simp [windows] at mem
    | cons x rest => exact ⟨_, _, rfl⟩
  obtain ⟨x, rest, listed⟩ := listed
  have target : goTarget s = some (rest.foldl min x) := by
    unfold goTarget
    rw [show (s.pass.windows.filter _).map WindowEntry.pIn = x :: rest from listed]
  obtain ⟨first, others⟩ := foldl_min_le rest x
  have here : w.pIn ∈ x :: rest := listed ▸ List.mem_map_of_mem mem
  have below : rest.foldl min x ≤ w.pIn := by
    rcases List.mem_cons.1 here with same | mem
    · rw [same]
      exact first
    · exact others _ mem
  have there : rest.foldl min x ∈ (goWindows s).map WindowEntry.pIn := listed ▸ foldl_min_mem rest x
  obtain ⟨y, memY, same⟩ := List.mem_map.1 there
  rw [target, Nat.le_antisymm below (same ▸ least y memY)]

theorem goBody_offers {s : State} {t : Nat} (running : s.running = true) (rest : s.agr.transport ≠ .rolling)
    (target : goTarget s = some t) : goBody s = consoleOffer (operatorLocate t 120 true s) (answerPlain .ok) s := by
  simp [goBody, running, rest, target]

/-- Settles O28: the two refusals, and the locate to the smallest P_in answered as admission says. -/
theorem goOffersLocate : Obligations.GoOffersLocate := by
  refine ⟨fun s stage rolling => exec_answered rfl stage.1 ?_, fun s stage none => exec_answered rfl stage.1 ?_,
    fun s w stage rest mem announced pass least => ?_⟩
  · have running : (s.setResponse none).running = true := running_of_onStage stage
    have rolls : (s.setResponse none).agr.transport = .rolling := rolling
    simp [commandBody, goBody, running, rolls, answerPlain]
  · have running : (s.setResponse Option.none).running = true := running_of_onStage stage
    have empty : goWindows (s.setResponse Option.none) = [] := List.eq_nil_iff_forall_not_mem.2 fun w mem => by
      obtain ⟨mem, announced, pass⟩ := mem_goWindows.1 mem
      obtain ⟨this, next⟩ := none w mem announced
      exact pass.elim this next
    simp [commandBody, goBody, running, goTarget_eq_none empty, answerPlain]
  · have target : goTarget (s.setResponse none) = some w.pIn :=
      goTarget_eq (mem_goWindows.2 ⟨mem, announced, pass⟩) fun x memX => by
        obtain ⟨memX, announcedX, passX⟩ := mem_goWindows.1 memX
        exact least x memX announcedX passX
    have admission : AnsweredByAdmission .go s
        (.locate false true 120 s.station.settle ((s.agr.passNumber + 1) % 65536) w.pIn) .ok :=
      answeredByAdmission rfl stage.1 (.inr rfl) (goBody_offers (running_of_onStage stage) rest target)
    exact ⟨admission.room, admission.closed, admission.full, admission.displaces⟩

/-! ## HOLD and RELEASE (R69) -/

/-- A command with a HOLD or RELEASE frame is answered as admission says, and writes the reasons where it admits. -/
theorem answeredByOffer {i : Instr} {c : Command} {s : State} {f : QueuedFrame} {r : OwnReasons} (command : i.command = some c)
    (ready : PortReady s) (body : commandBody c (s.setResponse none) =
      consoleOffer f (fun t => answerPlain .ok (t.setReasons r)) (s.setResponse none)) :
    ((offer f false s).1 = .admitted → exec i s = .next (((offer f false s).2.setReasons r).answered .ok .empty)) ∧
    ((offer f false s).1 = .closed → exec i s = .next (s.answered .state .empty)) ∧
    ((offer f false s).1 = .full → exec i s = .next (s.answered .queueFull .empty)) := by
  have first : (offer f false (s.setResponse none)).1 = (offer f false s).1 := by rw [offer_setResponse]
  refine ⟨fun admitted => ?_, fun closed => ?_, fun full => ?_⟩
  · refine exec_answered command ready (body.trans (consoleOffer_admitted (t := (offer f false s).2.setResponse none) ?_))
    rw [offer_setResponse, admitted]
  · exact exec_answered command ready (body.trans (consoleOffer_closed _ (first.trans closed)))
  · exact exec_answered command ready (body.trans (consoleOffer_full _ (first.trans full)))

/-- Settles O31: the bodies over every set of reasons, and admission of a HOLD or RELEASE. -/
theorem holdAndReleaseCommands : Obligations.HoldAndReleaseCommands := by
  refine ⟨fun s stage console => exec_answered rfl stage.1 ?_, fun s stage console stands => exec_answered rfl stage.1 ?_,
    fun s stage reasons => answeredByOffer rfl stage.1 ?_, fun s stage console mark => exec_answered rfl stage.1 ?_,
    fun s stage stands logFull => exec_answered rfl stage.1 ?_, fun s stage stands logFull => answeredByOffer rfl stage.1 ?_,
    fun f m s => ⟨fun closed => offer_closed closed f m, fun opened => offer_open opened f m⟩,
    fun f m before after b kind waits newest => admitTo_replacesHold m kind waits newest, fun f m q kind none => ?_⟩
  · have running : (s.setResponse none).running = true := running_of_onStage stage
    have standing : (s.setResponse none).agr.reasons.console = true := console
    simp [commandBody, holdBody, running, standing, answerPlain]
  · have running : (s.setResponse none).running = true := running_of_onStage stage
    have lowered : (s.setResponse none).agr.reasons.console = false := console
    have standing : (s.setResponse none).agr.reasons.any = true := by
      show (s.agr.reasons.console || s.agr.reasons.logFull || s.agr.reasons.mark) = true
      rcases stands with logFull | mark
      · simp [logFull]
      · simp [mark]
    simp only [commandBody, holdBody, running, lowered, standing, Bool.not_true, Bool.false_eq_true, ↓reduceIte]
    rfl
  · have running : (s.setResponse none).running = true := running_of_onStage stage
    have lowered : (s.setResponse none).agr.reasons = ⟨false, false, false⟩ := reasons
    simp only [commandBody, holdBody, running, lowered, OwnReasons.any, Bool.or_self, Bool.not_true, Bool.false_eq_true, ↓reduceIte]
    rfl
  · have running : (s.setResponse none).running = true := running_of_onStage stage
    have lowered : (s.setResponse none).agr.reasons.console = false ∧ (s.setResponse none).agr.reasons.mark = false :=
      ⟨console, mark⟩
    simp [commandBody, releaseBody, running, lowered, answerPlain]
  · have running : (s.setResponse none).running = true := running_of_onStage stage
    have standing : (!(s.setResponse none).agr.reasons.console && !(s.setResponse none).agr.reasons.mark) = false := by
      show (!s.agr.reasons.console && !s.agr.reasons.mark) = false
      rcases stands with console | mark
      · simp [console]
      · simp [mark]
    have full : (s.setResponse none).agr.reasons.logFull = true := logFull
    simp only [commandBody, releaseBody, running, standing, full, Bool.not_true, Bool.false_eq_true, ↓reduceIte]
    rfl
  · have running : (s.setResponse none).running = true := running_of_onStage stage
    have standing : (!(s.setResponse none).agr.reasons.console && !(s.setResponse none).agr.reasons.mark) = false := by
      show (!s.agr.reasons.console && !s.agr.reasons.mark) = false
      rcases stands with console | mark
      · simp [console]
      · simp [mark]
    have free : (s.setResponse none).agr.reasons.logFull = false := logFull
    simp only [commandBody, releaseBody, running, standing, free, Bool.not_true, Bool.false_eq_true, ↓reduceIte]
  · have noBeacon : f.kind ≠ .beacon := by rcases kind with kind | kind <;> simp [kind]
    have replaces : ¬ ((f.kind = .hold ∨ f.kind = .release) ∧ q.any TxEntry.waitingHold = true) := by simp [none]
    refine ⟨fun room => admitTo_room m noBeacon replaces room, fun full noWaiting => admitTo_full m noBeacon replaces full noWaiting,
      fun before after b full split waits newest => ?_⟩
    subst split
    exact admitTo_displaces m noBeacon replaces full waits newest

/-! ## READ PEERS (R70) -/

theorem mem_addressesIn {p : Presence} {s : State} {a : Nat} :
    a ∈ addressesIn p s ↔ 1 ≤ a ∧ a ≤ 30 ∧ (s.agr.slot a).presence = p := by
  simp only [addressesIn, addresses, List.mem_filter, List.mem_map, List.mem_range, decide_eq_true_eq]
  constructor
  · rintro ⟨⟨k, inside, rfl⟩, presence⟩
    exact ⟨by omega, by omega, presence⟩
  · rintro ⟨low, high, presence⟩
    exact ⟨⟨a - 1, by omega, by omega⟩, presence⟩

theorem readPeersBody_summary {s : State} (running : s.running = true) :
    readPeersBody 0 s = answer .ok (.peers (peersSummary s)) s := by
  simp [readPeersBody, running]

theorem readPeersBody_range {s : State} {a : Byte} (running : s.running = true) (beyond : 30 < a.toNat) :
    readPeersBody a s = answerPlain .range s := by
  simp [readPeersBody, running, beyond]

theorem readPeersBody_one {s : State} {a : Byte} (running : s.running = true) (low : 1 ≤ a.toNat) (high : a.toNat ≤ 30) :
    readPeersBody a s =
      answer .ok (.peer (peerSlotRead s a.toNat) ((holdOf s.agr.holds a.toNat).map fun h => (h.lease, h.reason))) s := by
  have set : a ≠ 0 := fun zero => by simp [zero] at low
  simp only [readPeersBody, running, Bool.not_true, Bool.false_eq_true, ↓reduceIte, if_neg high.not_gt, if_neg set]

theorem addressSet_eq (as : List Nat) : addressSet as = numBytes 4 (as.map (2 ^ ·)).sum := by
  rw [addressSet, b4, ← List.sum_eq_foldl]

theorem Reply.bytes_peer (slot : PeerSlot) (hold : Option (Nat × Nat)) : (Reply.peer slot hold).bytes =
    numBytes 1 (match slot.presence with | .absent => 0 | .present => 1 | .mismatched => 2) ++ numBytes 1 slot.age ++
    numBytes 1 (2 * slot.lastBeacon.isSome.toNat + hold.isSome.toNat) ++
    (match slot.lastBeacon with
    | none => List.replicate 11 0
    | some b => numBytes 1 b.rateCode ++ numBytes 1 b.transport.code ++ numBytes 1 b.generation ++
      numBytes 2 b.passNumber ++ numBytes 1 b.passState.code ++ numBytes 1 b.rate ++ numBytes 4 b.pEdge) ++
    numBytes 1 ((hold.map Prod.fst).getD 0) ++ numBytes 1 ((hold.map Prod.snd).getD 0) := by
  rw [← flagBits_two]
  obtain ⟨presence, age, beacon⟩ := slot
  cases presence <;> cases beacon <;> rfl

/-- Settles O32: the summary, one address, the refusal, and the bytes of both answers. -/
theorem readPeersReports : Obligations.ReadPeersReports := by
  refine ⟨fun s stage => ⟨peersSummary s, exec_answered rfl stage.1
      (readPeersBody_summary (s := s.setResponse none) (running_of_onStage stage)), rfl, rfl, rfl, rfl, rfl, rfl, rfl, rfl,
      fun a => mem_addressesIn, fun a => mem_addressesIn, fun a => List.mem_map⟩,
    fun s a stage low high other => ?_, fun s a stage low high own => ?_,
    fun s a stage beyond => exec_answered rfl stage.1 (readPeersBody_range (s := s.setResponse none) (running_of_onStage stage) beyond),
    fun x => ?_, Reply.bytes_peer⟩
  · have judged := readPeersBody_one (s := s.setResponse none) (running_of_onStage stage) low high
    rw [peerSlotRead, if_neg (show a.toNat ≠ (s.setResponse none).address from other)] at judged
    exact exec_answered rfl stage.1 judged
  · have judged := readPeersBody_one (s := s.setResponse none) (running_of_onStage stage) low high
    rw [peerSlotRead, if_pos (show a.toNat = (s.setResponse none).address from own)] at judged
    exact exec_answered rfl stage.1 judged
  · rw [← flagBits_three]
    obtain ⟨_, _, _, _, _, _, _, join, _, _, _⟩ := x
    cases join <;> simp only [Reply.bytes, addressSet_eq] <;> rfl

end Sys2Proof.Machine

/-! PROOF. The unit's own time (chapters 1, 3 and 10): REF_PULSE by the lock state, the watchdog, ticks, STEP and its edges, and the parts of a frame edge that fall due on their own. -/

namespace Sys2Proof.Machine

-- One proof after another: under the check's memory limit there is no room for a thread per proof.
set_option Elab.async false

/-! ## When events act -/

theorem live_iff {s : State} : s.live = true ↔ Live s := by
  simp [State.live, State.running]

theorem live_eq_false {s : State} (still : ¬ Live s) : s.live = false := by
  rw [Bool.eq_false_iff]
  exact fun live => still (live_iff.1 live)

/-! ## Candidate edges (R1, R2) -/

theorem takes_iff {src : RefSource} {t : RefTransition} :
    src.takes t = true ↔ src = (match t with | .rise => .inputRise | .fall => .inputFall) := by
  cases src <;> cases t <;> decide

theorem qualifies_iff {t : RefTransition} {held : Nat} {s : State} :
    qualifies t held s = true ↔ Live s ∧ s.timing.refSource = (match t with | .rise => .inputRise | .fall => .inputFall) ∧
      2000 ≤ held := by
  rw [qualifies, Bool.and_eq_true, Bool.and_eq_true, live_iff, takes_iff, decide_eq_true_iff, and_assoc]

theorem exec_refPulse_ignored {t : RefTransition} {held : Nat} {s : State} (x : Nat) (ignored : qualifies t held s = false) :
    exec (.refPulse t held x) s = .next s := by
  show execRefPulse t held x s = _
  simp [execRefPulse, ignored]

/-- A pulse that is passed on is judged as an edge once the divider has moved on. -/
theorem exec_refPulse_candidate {t : RefTransition} {held : Nat} {s : State} (x : Nat) (passed : Candidate t held s) :
    exec (.refPulse t held x) s = .next (candidateEdge x (s.setRef { s.ref with dividerPhase := phasePassed s })) := by
  show execRefPulse t held x s = _
  obtain ⟨live, source, wide, phase⟩ := passed
  have qualified : qualifies t held s = true := qualifies_iff.2 ⟨live, source, wide⟩
  by_cases one : s.timing.refDiv = 1
  · rw [execRefPulse, if_pos qualified, if_pos one, phasePassed, if_pos one]
    rfl
  · simp [execRefPulse, qualified, one, phasePassed, phase.resolve_left one]

theorem measuredPeriod_none (o x : Nat) : measuredPeriod none o x = periodSince o x := rfl

theorem measuredPeriod_some (p o x : Nat) : measuredPeriod (some p) o x = periodWithin p o x := rfl

theorem edgeAgrees_eq (p o x : Nat) : edgeAgrees p o x = decide (EdgeAgrees p o x) :=
  Bool.eq_iff_iff.2 ((edgeAgrees_iff p o x).trans decide_eq_true_iff.symm)

/-- At the moment of the watchdog's expiry the period is T + T div 2, and the edge does not agree (R3). -/
theorem periodWithin_expiry {p : Nat} (o : Nat) (pos : 1 ≤ p) (fits : p + p / 2 ≤ 16777215) :
    periodWithin p o (o + p + p / 2 + 1) = p + p / 2 := by
  unfold periodWithin
  omega

theorem not_edgeAgrees_expiry (p o : Nat) : ¬ EdgeAgrees p o (o + p + p / 2 + 1) := fun ⟨near, _⟩ => by omega

section
variable {s : State} {t : RefTransition} {held x o p : Nat} (passed : Candidate t held s) (origin : s.ref.timingOrigin = some o)
include passed

theorem exec_refPulse_noRef (lock : s.ref.lock = .noRef) :
    exec (.refPulse t held x) s = .next (frameEdge (s.setRef ⟨.acquiring, phasePassed s, some x, none, 0, 0⟩)) := by
  rw [exec_refPulse_candidate x passed]
  simp [candidateEdge, lock, candidateNoRef, RefUnit.atOrigin]

theorem exec_refPulse_acquiring_fresh (lock : s.ref.lock = .acquiring) (none : s.ref.timingOrigin = none) :
    exec (.refPulse t held x) s = .next (frameEdge (s.setRef ⟨.acquiring, phasePassed s, some x, Option.none, 0, 0⟩)) := by
  rw [exec_refPulse_candidate x passed]
  simp [candidateEdge, lock, none, RefUnit.atOrigin]

include origin

theorem exec_refPulse_acquiring_first (lock : s.ref.lock = .acquiring) (none : s.ref.heldPeriod = none) :
    exec (.refPulse t held x) s =
      .next (frameEdge (s.setRef ⟨.acquiring, phasePassed s, some x, some (periodSince o x), 1, 0⟩)) := by
  rw [exec_refPulse_candidate x passed]
  simp [candidateEdge, lock, origin, candidateAcquiring, acquiredCount, none, RefUnit.atOrigin, measuredPeriod_none]

variable (period : s.ref.heldPeriod = some p)
include period

theorem exec_refPulse_acquiring_disagrees (lock : s.ref.lock = .acquiring) (differs : ¬ EdgeAgrees p o x) :
    exec (.refPulse t held x) s =
      .next (frameEdge (s.setRef ⟨.acquiring, phasePassed s, some x, some (periodWithin p o x), 1, 0⟩)) := by
  rw [exec_refPulse_candidate x passed]
  simp [candidateEdge, lock, origin, candidateAcquiring, acquiredCount, period, RefUnit.atOrigin, measuredPeriod_some,
    edgeAgrees_eq, decide_eq_false differs]

theorem exec_refPulse_acquiring_counts (lock : s.ref.lock = .acquiring) (agrees : EdgeAgrees p o x) (low : s.ref.lockCount < 7) :
    exec (.refPulse t held x) s = .next (frameEdge
      (s.setRef ⟨.acquiring, phasePassed s, some x, some (periodWithin p o x), s.ref.lockCount + 1, 0⟩)) := by
  rw [exec_refPulse_candidate x passed]
  have more : ¬ Config.lockPeriods ≤ s.ref.lockCount + 1 := by simpa [Config.lockPeriods] using low
  simp [candidateEdge, lock, origin, candidateAcquiring, acquiredCount, period, RefUnit.atOrigin, measuredPeriod_some,
    edgeAgrees_eq, decide_eq_true agrees, more]

theorem exec_refPulse_acquiring_locks (lock : s.ref.lock = .acquiring) (agrees : EdgeAgrees p o x) (seven : s.ref.lockCount = 7) :
    exec (.refPulse t held x) s = .next (frameEdge (post .refLocked 0
      (s.setRef ⟨.locked, phasePassed s, some x, some (periodWithin p o x), 8, 0⟩))) := by
  rw [exec_refPulse_candidate x passed]
  simp [candidateEdge, lock, origin, candidateAcquiring, acquiredCount, period, RefUnit.atOrigin, measuredPeriod_some,
    edgeAgrees_eq, decide_eq_true agrees, seven]

theorem exec_refPulse_locked_agrees (lock : s.ref.lock = .locked) (agrees : EdgeAgrees p o x) :
    exec (.refPulse t held x) s = .next (frameEdge
      (s.setRef ⟨.locked, phasePassed s, some x, some (periodWithin p o x), s.ref.lockCount, 0⟩)) := by
  rw [exec_refPulse_candidate x passed]
  simp [candidateEdge, lock, origin, candidateLocked, period, RefUnit.atOrigin, measuredPeriod_some, edgeAgrees_eq,
    decide_eq_true agrees]

theorem exec_refPulse_locked_disagrees (lock : s.ref.lock = .locked) (differs : ¬ EdgeAgrees p o x) :
    exec (.refPulse t held x) s = .next (frameEdge (flagRefUnstable
      (s.setRef ⟨.acquiring, phasePassed s, some x, some (periodWithin p o x), 1, 0⟩))) := by
  rw [exec_refPulse_candidate x passed]
  simp [candidateEdge, lock, origin, candidateLocked, period, RefUnit.atOrigin, measuredPeriod_some, edgeAgrees_eq,
    decide_eq_false differs]

theorem exec_refPulse_holdover (lock : s.ref.lock = .holdover) :
    exec (.refPulse t held x) s =
      .next (if x - o ≤ p / 2 then s.setRef ⟨.acquiring, phasePassed s, some x, some p, 1, 0⟩
        else frameEdge (s.setRef ⟨.acquiring, phasePassed s, some x, some p, 1, 0⟩)) := by
  rw [exec_refPulse_candidate x passed]
  simp [candidateEdge, lock, origin, candidateHoldover, period, RefUnit.atOrigin]

end

/-- Settles O37: the pulse through qualification and divider, then each lock state's judgement of a candidate edge. -/
theorem refPulseJudged : Obligations.RefPulseJudged := by
  refine ⟨fun s t held x ignored => exec_refPulse_ignored x ?ignored, fun s t held x live wide source two one => ?divided,
    fun s t held x passed lock => exec_refPulse_noRef passed lock,
    fun s t held x passed lock none => exec_refPulse_acquiring_fresh passed lock none,
    fun s t held x o passed lock origin none => exec_refPulse_acquiring_first passed origin lock none,
    fun s t held x o p passed lock origin period differs =>
      exec_refPulse_acquiring_disagrees passed origin period lock differs,
    fun s t held x o p passed lock origin period agrees =>
      ⟨exec_refPulse_acquiring_counts passed origin period lock agrees,
        exec_refPulse_acquiring_locks passed origin period lock agrees⟩,
    fun s t held x o p passed lock origin period =>
      ⟨exec_refPulse_locked_agrees passed origin period lock, exec_refPulse_locked_disagrees passed origin period lock⟩,
    fun s t held x o p passed lock origin period => ?holdover,
    fun s t held o p passed origin period pos fits => ?expiry, fun p o x fits near => ?distance⟩
  case ignored =>
    rw [Bool.eq_false_iff]
    intro qualified
    obtain ⟨live, source, wide⟩ := qualifies_iff.1 qualified
    rcases ignored with dead | short | step | ⟨rise, rfl⟩ | ⟨fall, rfl⟩
    · exact dead live
    · omega
    · cases t <;> rw [step] at source <;> cases source
    · rw [rise] at source; cases source
    · rw [fall] at source; cases source
  case divided =>
    have qualified : qualifies t held s = true := qualifies_iff.2 ⟨live, source, wide⟩
    show execRefPulse t held x s = _
    simp [execRefPulse, qualified, two, one]
  case holdover =>
    rw [exec_refPulse_holdover passed origin period lock]
    exact ⟨fun near => by rw [if_pos near], fun far => by rw [if_neg (by omega)]⟩
  case expiry =>
    have differs := not_edgeAgrees_expiry p o
    have measured := periodWithin_expiry o pos fits
    exact ⟨fun lock => (exec_refPulse_acquiring_disagrees passed origin period lock differs).trans (by rw [measured]),
      fun lock => (exec_refPulse_locked_disagrees passed origin period lock differs).trans (by rw [measured])⟩
  case distance =>
    unfold periodWithin
    omega

/-! ## The watchdog and holdover (R3, R6, R8, R9) -/

/-- Settles O38: the watchdog and the synthesised edge by the lock state. -/
theorem watchdogAndHoldover : Obligations.WatchdogAndHoldover := by
  have expiry : ∀ s, exec .watchdogExpiry s = execWatchdogExpiry s := fun s => rfl
  have synthesised : ∀ s, exec .synthesisedEdge s = execSynthesisedEdge s := fun s => rfl
  refine ⟨fun s o p live lock origin period => ?_, fun s o p live lock origin period => ?_, fun s idle => ?_,
    fun s o p live lock origin period => ?_, fun s idle => ?_⟩
  · simp [expiry, execWatchdogExpiry, live_iff.2 live, lock, origin, period, expireAcquiring]
  · simp [expiry, execWatchdogExpiry, live_iff.2 live, lock, origin, period, enterHoldover, RefUnit.atOrigin, watchdogMoment]
  · rcases idle with dead | none | none | lock | lock
    · simp [expiry, execWatchdogExpiry, live_eq_false dead]
    · simp [expiry, execWatchdogExpiry, none]
    · simp [expiry, execWatchdogExpiry, none]
    · simp [expiry, execWatchdogExpiry, lock]
    · simp [expiry, execWatchdogExpiry, lock]
  · simp [synthesised, execSynthesisedEdge, live_iff.2 live, lock, origin, period, RefUnit.atOrigin]
  · rcases idle with dead | lock
    · simp [synthesised, execSynthesisedEdge, live_eq_false dead]
    · simp [synthesised, execSynthesisedEdge, lock]

/-! ## Ticks (R11, R19, R20) -/

theorem ticks_iff {l : LockState} : l.ticks = true ↔ l = .locked ∨ l = .holdover := by cases l <;> decide

/-- The position after one tick of a roll (R19). -/
def tickedPosn (s : State) : Position :=
  { s.posn with p := min (s.posn.p + (s.posn.acc + s.posn.rate) / 120) (tickCap s), acc := (s.posn.acc + s.posn.rate) % 120 }

/-- The tick number after one tick (R11). -/
def tickedRef (s : State) : RefUnit := { s.ref with tickNumber := min 255 (s.ref.tickNumber + 1) }

section
variable {s : State} (live : Live s) (lock : s.ref.lock = .locked ∨ s.ref.lock = .holdover)
include live lock

theorem exec_tick : exec .tick s = .next (tickAdvance (s.setRef (tickedRef s))) := by
  show execTick s = _
  simp [execTick, live_iff.2 live, ticks_iff.2 lock, tickedRef]

theorem exec_tick_rest (rest : s.agr.transport ≠ .rolling ∨ s.agr.rollFresh = true) :
    exec .tick s = .next (s.setRef (tickedRef s)) := by
  rw [exec_tick live lock, tickAdvance, if_neg]
  rintro ⟨rolling, later⟩
  exact rest.elim (· rolling) fun fresh => by simp [fresh] at later

variable (rolling : s.agr.transport = .rolling) (later : s.agr.rollFresh = false)
include rolling later

/-- A tick of a roll writes the position, and hands the advance on where p moves. -/
theorem exec_tick_roll : exec .tick s = .next (if (tickedPosn s).p = s.posn.p then (s.setRef (tickedRef s)).setPosn (tickedPosn s)
    else handAdvance ((s.setRef (tickedRef s)).setPosn (tickedPosn s))) := by
  rw [exec_tick live lock, tickAdvance, if_pos ⟨rolling, later⟩]
  rfl

end

/-- What k ticks leave of the roll: the premises of the next tick, and the position that k ticks give. -/
structure TickedFrom (s : State) (k : Nat) (t : State) : Prop where
  live : Live t
  lock : t.ref.lock = .locked ∨ t.ref.lock = .holdover
  agr : t.agr = s.agr
  conf : t.conf = s.conf
  edge : t.posn.pEdge = s.posn.pEdge
  rate : t.posn.rate = s.posn.rate
  p : t.posn.p = min (s.posn.pEdge + k * s.posn.rate / 120) (tickCap s)
  acc : t.posn.acc = k * s.posn.rate % 120

/-- Whole subframes and the accumulator add up over the ticks of a frame. -/
theorem subframes_succ (k r : Nat) : k * r / 120 + (k * r % 120 + r) / 120 = (k + 1) * r / 120 ∧
    (k * r % 120 + r) % 120 = (k + 1) * r % 120 := by
  rw [Nat.succ_mul]
  omega

theorem TickedFrom.tick {s t : State} {k : Nat} (ticked : TickedFrom s k t) (rolling : s.agr.transport = .rolling)
    (later : s.agr.rollFresh = false) : ∃ u, exec .tick t = .next u ∧ TickedFrom s (k + 1) u := by
  obtain ⟨live, lock, agr, conf, edge, rate, p, acc⟩ := ticked
  refine ⟨_, exec_tick_roll live lock (agr ▸ rolling) (agr ▸ later), ?_⟩
  obtain ⟨whole, part⟩ := subframes_succ k s.posn.rate
  have cap : tickCap t = tickCap s := by rw [tickCap, edge, rate, State.pMax_of_conf conf, tickCap]
  have reached : (tickedPosn t).p = min (s.posn.pEdge + (k + 1) * s.posn.rate / 120) (tickCap s) := by
    simp only [tickedPosn, cap, p, acc, rate]
    omega
  have gained : (tickedPosn t).acc = (k + 1) * s.posn.rate % 120 := by simp only [tickedPosn, acc, rate, part]
  split
  · exact ⟨live, lock, agr, conf, edge, rate, reached, gained⟩
  · exact ⟨by simpa [Live] using live, by simpa [tickedRef] using lock, by simpa using agr, by simpa using conf,
      by simpa [tickedPosn] using edge, by simpa [tickedPosn] using rate, by simpa using reached, by simpa using gained⟩

theorem runCommands_cons {i : Instr} {s t : State} (rest : List Instr) (ran : exec i s = .next t) :
    runCommands (i :: rest) s = runCommands rest t := by
  rw [runCommands, ran]

theorem TickedFrom.ticks {s t : State} {k : Nat} (n : Nat) (ticked : TickedFrom s k t) (rolling : s.agr.transport = .rolling)
    (later : s.agr.rollFresh = false) : ∃ u, runCommands (List.replicate n .tick) t = .next u ∧ TickedFrom s (k + n) u := by
  induction n generalizing k t with
  | zero => exact ⟨t, rfl, ticked⟩
  | succ n ih =>
    obtain ⟨u, ran, next⟩ := ticked.tick rolling later
    obtain ⟨v, rest, last⟩ := ih next
    exact ⟨v, (runCommands_cons _ ran).trans rest, by rwa [Nat.add_right_comm] at last⟩

/-- Settles O39: one tick by its case, and k ticks by the subframes gained so far. -/
theorem tickInterpolates : Obligations.TickInterpolates := by
  refine ⟨fun s live lock rolling later => ⟨_, exec_tick_roll live lock rolling later, ?_⟩,
    fun s live lock rest => exec_tick_rest live lock rest, fun s idle => ?idle,
    fun s k live lock rolling later acc edge inRange rate => ?many⟩
  · split
    case isTrue still =>
      exact ⟨rfl, rfl, fun _ => ⟨rfl, rfl, rfl, rfl⟩, fun moved => absurd still moved, rfl, rfl, rfl, rfl, rfl, rfl, rfl, rfl, rfl⟩
    case isFalse moved =>
      refine ⟨by simp [tickedRef], by simp [tickedPosn, tickCap], fun still => absurd (by simpa using still) moved, fun _ => ?_, ?_⟩
      · simp [handAdvance]
      · simp
  case idle =>
    show execTick s = _
    rcases idle with dead | lock | lock
    · simp [execTick, live_eq_false dead]
    · simp [execTick, lock, LockState.ticks]
    · simp [execTick, lock, LockState.ticks]
  case many =>
    have cap : s.posn.pEdge ≤ tickCap s := by unfold tickCap; omega
    have start : TickedFrom s 0 s := ⟨live, lock, rfl, rfl, rfl, rfl, by rw [edge]; omega, by omega⟩
    obtain ⟨t, ran, ticked⟩ := start.ticks k rolling later
    rw [Nat.zero_add] at ticked
    exact ⟨t, ran, ticked.p, ticked.edge, ticked.acc⟩

/-! ## STEP and its edges (R184) -/

section
variable {s : State} (stage : OnStage s)
include stage

theorem exec_step_accepted {count : Byte} (source : s.timing.refSource = .step) (low : 1 ≤ count.toNat) (high : count.toNat ≤ 250) :
    exec (.step count) s = .next (s.setPort { s.port with stepRun := some ⟨count.toNat, count.toNat⟩, response := none }) := by
  have running : (s.setResponse none).running = true := running_of_onStage stage
  have stepping : (s.setResponse none).timing.refSource = .step := source
  have good : ¬ (count = 0 ∨ 250 < count.toNat) := by
    rintro (rfl | far)
    · exact absurd low (by decide)
    · omega
  rw [exec_of_command rfl, take_of_portReady _ _ stage.1]
  simp only [commandBody, stepBody, running, stepping, good, Bool.not_true, ne_eq, not_true_eq_false, decide_false, Bool.or_false,
    Bool.false_eq_true, ↓reduceIte]
  rfl

end

theorem exec_steppedEdge {s : State} {r : StepRun} (live : Live s) (run : s.port.stepRun = some r) : exec .steppedEdge s =
    .next (if r.left ≤ 1 then answerStep r.asked (frameEdge s)
      else (frameEdge s).setPort { (frameEdge s).port with stepRun := some { r with left := r.left - 1 } }) := by
  show execSteppedEdge s = _
  simp only [execSteppedEdge, live_iff.2 live, run, ↓reduceIte]
  split <;> rfl

/-- The remaining edges of a STEP run to its answer. -/
theorem runCommands_edges {s : State} {asked left : Nat} (live : Live s) (run : s.port.stepRun = some ⟨asked, left + 1⟩) :
    ∃ t, runCommands (List.replicate (left + 1) .steppedEdge) s = .next t ∧ t.port.stepRun = none ∧
      t.port.response = some ⟨.ok, .stepped asked t.agr.transport t.posn.pEdge⟩ ∧ t.port.part = .running ∧ t.ref = s.ref ∧
      t.conf = s.conf ∧ t.pending = s.pending := by
  have edge := exec_steppedEdge live run
  induction left generalizing s with
  | zero =>
    refine ⟨_, runCommands_cons [] edge, ?_⟩
    obtain ⟨-, running⟩ := live
    simp [answerStep, running]
  | succ left ih =>
    rw [if_neg (by simp)] at edge
    have stays : ((frameEdge s).setPort { (frameEdge s).port with stepRun := some ⟨asked, left + 1⟩ }).port.stepRun =
      some ⟨asked, left + 1⟩ := rfl
    obtain ⟨t, ran, free, answer, part, ref, conf, pending⟩ := ih (by simpa [Live] using live) stays
      (exec_steppedEdge (by simpa [Live] using live) stays)
    exact ⟨t, (runCommands_cons _ edge).trans ran, free, answer, part, ref.trans (by simp), conf.trans (by simp),
      pending.trans (by simp)⟩

/-- Settles O36: the refusals, each edge, and the whole command by induction on the edges left. -/
theorem stepDeliversEdges : Obligations.StepDeliversEdges := by
  refine ⟨fun s count config => exec_answered rfl config.1 (commandBody_config rfl (running_of_configurable config)),
    fun s count stage other => exec_answered rfl stage.1 ?other, fun s count stage source bad => exec_answered rfl stage.1 ?bad,
    fun s count stage source low high => exec_step_accepted stage source low high,
    fun s asked left live run more => (exec_steppedEdge live run).trans (by rw [if_neg (by simpa using more)]),
    fun s asked left live run last => (exec_steppedEdge live run).trans (by rw [if_pos last, answerStep]),
    fun s count stage source low high => ?whole, fun n p tr => by cases tr <;> rfl⟩
  case other =>
    have running : (s.setResponse none).running = true := running_of_onStage stage
    have another : (s.setResponse none).timing.refSource ≠ .step := other
    simp [commandBody, stepBody, running, another, answerPlain]
  case bad =>
    have running : (s.setResponse none).running = true := running_of_onStage stage
    have stepping : (s.setResponse none).timing.refSource = .step := source
    simp only [commandBody, stepBody, running, stepping, bad, Bool.not_true, ne_eq, not_true_eq_false, decide_false, Bool.or_false,
      Bool.false_eq_true, ↓reduceIte, answerPlain]
  case whole =>
    obtain ⟨left, count_eq⟩ : ∃ left, count.toNat = left + 1 := ⟨count.toNat - 1, by omega⟩
    have accepted := exec_step_accepted stage source low high
    rw [count_eq] at accepted ⊢
    obtain ⟨⟨⟨high, -⟩, -⟩, part⟩ := stage
    obtain ⟨t, ran, rest⟩ := runCommands_edges (s := s.setPort { s.port with stepRun := some ⟨left + 1, left + 1⟩, response := none })
      (asked := left + 1) ⟨high, part⟩ rfl
    exact ⟨t, (runCommands_cons _ accepted).trans ran, rest⟩

end Sys2Proof.Machine

/-! PROOF. The parts of a frame edge that fall due on their own (R53, R57, R61, R63, R38), the search of the plan unit move by move (R92, R93, R96, R97) with the active set (R94), and READ TAKE (R173 to R175) with the bytes of its answers. -/

namespace Sys2Proof.Machine

-- One proof after another: under the check's memory limit there is no room for a thread per proof.
set_option Elab.async false

/-! ## Leases and ages (R57, R61) -/

theorem exec_holdExpired_due {s : State} {a : Nat} {h : HoldEntry} (live : Live s) (held : holdOf s.agr.holds a = some h)
    (counted : h.fresh = false) (lease : h.lease ≤ 1) :
    exec (.holdExpired a) s = .next (if a = s.address then post .holdExpired s.address (dropHold a s) else dropHold a s) := by
  show execHoldExpired a s = _
  simp [execHoldExpired, live_iff.2 live, leaseDue, held, counted, lease]

theorem exec_holdExpired_idle {s : State} {a : Nat} (idle : leaseDue s a = false) : exec (.holdExpired a) s = .next s := by
  show execHoldExpired a s = _
  simp [execHoldExpired, idle]

theorem peerDue_iff {s : State} {a : Nat} :
    peerDue s a = true ↔ (s.agr.slot a).presence ≠ .absent ∧ 3 * s.station.beaconInterval < (s.agr.slot a).age + 1 := by
  rw [peerDue, Bool.and_eq_true, decide_eq_true_iff, decide_eq_true_iff]

theorem exec_peerLost_due {s : State} {a : Nat} (live : Live s) (due : peerDue s a = true) :
    exec (.peerLost a) s = .next (losePeer a s) := by
  show execPeerLost a s = _
  simp [execPeerLost, live_iff.2 live, due]

theorem exec_peerLost_idle {s : State} {a : Nat} (idle : peerDue s a = false) : exec (.peerLost a) s = .next s := by
  show execPeerLost a s = _
  simp [execPeerLost, idle]

theorem Agreement.setSlot_eq (g : Agreement) (a : Nat) (x : PeerSlot) : g.setSlot a x = { g with peers := (g.setSlot a x).peers } := by
  unfold Agreement.setSlot
  split <;> rfl

/-- A slot reads from the peers alone. -/
theorem Agreement.slot_congr {g g' : Agreement} (same : g'.peers = g.peers) (a : Nat) : g'.slot a = g.slot a := by
  simp only [Agreement.slot, same]

/-- What a lost peer leaves in the agreement unit and in the window table. -/
theorem losePeer_agr (a : Nat) (s : State) : (losePeer a s).agr =
    { s.agr.setSlot a { s.agr.slot a with presence := .absent, age := (s.agr.slot a).age + 1 } with
      holds := s.agr.holds.filter fun h => decide (h.address ≠ a) } := by
  simp only [losePeer, post_keeps, dropWindow, State.setWindows, State.setPass_agr, dropHold, State.setSlot, State.setAgr_agr]
  rw [show (s.agr.setSlot a _).holds = s.agr.holds from by rw [Agreement.setSlot_eq]]

theorem losePeer_pass (a : Nat) (s : State) :
    (losePeer a s).pass = { s.pass with windows := s.pass.windows.filter fun w => decide (w.address ≠ a) } := by
  simp [losePeer, dropWindow, State.setWindows, dropHold, State.setSlot]

theorem losePeer_port (a : Nat) (s : State) : (losePeer a s).port = (post .peerLost a s).port :=
  post_port_congr _ _ rfl

theorem losePeer_slots {s : State} {a : Nat} (low : 1 ≤ a) (high : a ≤ 30) :
    (losePeer a s).agr.slot a = ⟨.absent, (s.agr.slot a).age + 1, (s.agr.slot a).lastBeacon⟩ ∧
      ∀ b : Nat, b ≠ a → (losePeer a s).agr.slot b = s.agr.slot b := by
  rw [losePeer_agr]
  exact ⟨(Agreement.slot_congr rfl a).trans (Agreement.slot_setSlot_self _ _ _ low high),
    fun b other => (Agreement.slot_congr rfl b).trans (Agreement.slot_setSlot_ne _ _ _ _ other)⟩

theorem agePeer_ages {s : State} {a : Nat} (there : (s.agr.slot a).presence ≠ .absent)
    (young : (s.agr.slot a).age + 1 ≤ 3 * s.station.beaconInterval) :
    agePeer s a = s.setSlot a { s.agr.slot a with age := (s.agr.slot a).age + 1 } := by
  have young : ¬ 3 * s.station.beaconInterval < (s.agr.slot a).age + 1 := by omega
  simp only [agePeer, there, young, if_false]

theorem agePeer_loses {s : State} {a : Nat} (due : peerDue s a = true) : agePeer s a = losePeer a s := by
  obtain ⟨there, old⟩ := peerDue_iff.1 due
  simp only [agePeer, there, old, if_true, if_false]

/-- Settles O41: the two events where they are due and where not, and step 4 of an edge slot by slot. -/
theorem leaseAndPresenceEnd : Obligations.LeaseAndPresenceEnd := by
  refine ⟨fun s a h live held counted lease => ?hold, fun s a idle => exec_holdExpired_idle ?kept,
    fun s a live low high there old => ⟨_, exec_peerLost_due live (peerDue_iff.2 ⟨there, old⟩), ?lost⟩,
    fun s a idle => exec_peerLost_idle ?young, fun s a gone => by simp only [agePeer, gone, if_true],
    fun s a low high there => ⟨fun young => ?ages, fun live old => ?loses⟩⟩
  case hold =>
    rw [exec_holdExpired_due live held counted lease]
    exact ⟨fun own => by rw [if_pos own, ← own]; rfl, fun other => by rw [if_neg other]; rfl⟩
  case kept =>
    rcases idle with none | ⟨h, held, fresh | long⟩
    · simp [leaseDue, none]
    · simp [leaseDue, held, fresh]
    · simp [leaseDue, held, long]
  case lost =>
    obtain ⟨slot, others⟩ := losePeer_slots (s := s) low high
    refine ⟨slot, others, ?_, losePeer_pass a s, losePeer_port a s, by simp⟩
    rw [losePeer_agr, Agreement.setSlot_eq]
  case young =>
    rw [Bool.eq_false_iff]
    intro due
    obtain ⟨there, old⟩ := peerDue_iff.1 due
    rcases idle with gone | young
    · exact there gone
    · omega
  case ages =>
    rw [agePeer_ages there young]
    exact ⟨congrArg s.setAgr (Agreement.setSlot_eq ..), Agreement.slot_setSlot_self _ _ _ low high,
      fun b other => Agreement.slot_setSlot_ne _ _ _ _ other⟩
  case loses =>
    have due := peerDue_iff.2 ⟨there, old⟩
    rw [exec_peerLost_due live due, agePeer_loses due]

/-! ## Settle and roll (R53) -/

theorem rollEntry_resting {s : State} (resting : s.pass.state = .idle ∨ s.pass.state = .cleared) : rollEntry s = s := by
  rcases resting with state | state <;> simp [rollEntry, state]

theorem rollStep_of_locate {s : State} {l : LocateRec} (cueing : s.agr.transport = .cueing) (settled : s.agr.settle = 0)
    (locate : s.agr.locate = some l) : rollStep s =
      if l.thenPlay then
        if s.agr.holds.isEmpty then
          rollEntry (s.setAgr { s.agr with transport := .rolling, rollFresh := true, locate := none })
        else s
      else s.setAgr { s.agr with transport := .stopped, locate := none } := by
  simp only [rollStep, cueing, settled, locate, Agreement.entersRoll]

theorem rollStep_waits {s : State} (waits : s.agr.transport ≠ .cueing ∨ 0 < s.agr.settle) : rollStep s = s := by
  unfold rollStep
  split
  case h_1 cueing settled _ => exact waits.elim (absurd cueing) (by omega)
  case h_2 => rfl

theorem exec_settleEnd_due {s : State} (live : Live s) (cueing : s.agr.transport = .cueing) (settle : s.agr.settle = 1) :
    exec .settleEnd s = .next (rollStep (s.setAgr { s.agr with settle := 0 })) := by
  show execSettleEnd s = _
  simp [execSettleEnd, live_iff.2 live, cueing, settle]

theorem settleStep_counts {s : State} (cueing : s.agr.transport = .cueing) (later : s.agr.settleFresh = false) :
    settleStep s = s.setAgr { s.agr with settle := s.agr.settle - 1 } := by
  simp [settleStep, cueing, later]

/-- Settles O42: the event by the roll condition, and steps 5 and 6 of an edge. -/
theorem settleEnds : Obligations.SettleEnds := by
  refine ⟨fun s l live cueing settle locate => ?_, fun s idle => ?_, fun s other => if_neg other, fun s cueing => ?_,
    fun s waits => rollStep_waits waits, fun s l cueing settled locate => ?_⟩
  · rw [exec_settleEnd_due live cueing settle, rollStep_of_locate (s := s.setAgr { s.agr with settle := 0 }) cueing rfl locate]
    refine ⟨fun halts => by simp [halts], fun plays held => by simp [plays, held], fun plays free => ⟨by simp [plays, free], ?_⟩⟩
    intro resting
    rw [if_pos plays, if_pos (by simp [free]), rollEntry_resting (by simpa using resting)]
    rfl
  · show execSettleEnd s = _
    rcases idle with dead | other | other
    · simp [execSettleEnd, live_eq_false dead]
    · simp [execSettleEnd, other]
    · simp [execSettleEnd, other]
  · refine ⟨fun fresh => by simp [settleStep, cueing, fresh], fun later => ?_, fun later settle live => ?_⟩
    · exact settleStep_counts cueing later
    · rw [exec_settleEnd_due live cueing settle, settleStep_counts cueing later, settle]
  · rw [rollStep_of_locate cueing settled locate]
    exact ⟨fun halts => by simp [halts], fun plays held => by simp [plays, held], fun plays free => by simp [plays, free]⟩

/-! ## Beacons and the listening period (R38, R63) -/

theorem admitTo_beacon_waiting {before after : List TxEntry} {b : TxEntry} (waits : b.waitingBeacon = true)
    (newest : after.any TxEntry.waitingBeacon = false) :
    admitTo (before ++ b :: after) .beacon false = (.admitted, before ++ after ++ [⟨.beacon, 0, false, false⟩]) := by
  refine (if_pos ⟨rfl, by simp [waits]⟩).trans ?_
  rw [dropNewest_split _ _ _ _ waits (by simpa using newest)]
  rfl

theorem admitTo_beacon {q : List TxEntry} (none : q.any TxEntry.waitingBeacon = false) : admitTo q .beacon false =
    if q.length < 8 then (.admitted, q ++ [⟨.beacon, 0, false, false⟩]) else (.dropped, q) := by
  simp [admitTo, none, QueuedFrame.kind, FrameKind.cls, Config.queueCapacity, newEntry]

theorem admitTo_beacon_not_full (q : List TxEntry) : (admitTo q .beacon false).1 ≠ .full := by
  unfold admitTo
  split
  · nofun
  · simp only [QueuedFrame.kind, FrameKind.cls, if_true, reduceCtorEq, or_self, false_and, if_false]
    split <;> nofun

theorem offer_beacon_not_full (s : State) : (offer .beacon false s).1 ≠ .full := by
  unfold offer
  split
  · exact admitTo_beacon_not_full _
  · nofun

theorem offerBeacon_agr (s : State) : (offerBeacon s).agr = { s.agr with beaconCountdown := s.station.beaconInterval } := by
  simp [offerBeacon]

theorem offerBeacon_bus (s : State) : (offerBeacon s).bus = (offer .beacon false s).2.bus := by
  rw [offerBeacon, offerInternal_bus]
  exact (offer_bus_congr _ _ (by simp)).1

theorem offerBeacon_port (s : State) : (offerBeacon s).port = s.port := by
  rw [offerBeacon, offerInternal_port _ _ (offer_beacon_not_full _)]
  rfl

theorem offer_bus_open {s : State} (opened : s.bus.link.admits = true) (f : QueuedFrame) (m : Bool) :
    (offer f m s).2.bus = { s.bus with queue := (admitTo s.bus.queue f m).2 } := by
  rw [offer_open opened]
  rfl

theorem linkUp_bus (s : State) : (linkUp s).bus =
    { s.bus with link := .active, listeningCount := 0, queue := (admitTo s.bus.queue .beacon false).2 } := by
  rw [linkUp, offerBeacon_bus]
  exact offer_bus_open rfl _ _

theorem exec_beaconDue {s : State} (live : Live s) (due : s.agr.beaconCountdown = 1) : exec .beaconDue s = .next (offerBeacon s) := by
  show execBeaconDue s = _
  simp [execBeaconDue, live_iff.2 live, due]

theorem exec_linkActive {s : State} (live : Live s) (listening : s.bus.link = .listening) (due : s.bus.listeningCount = 1) :
    exec .linkActive s = .next (linkUp s) := by
  show execLinkActive s = _
  simp [execLinkActive, live_iff.2 live, listening, due]

/-- Settles O43: the two events, the two counts of an edge, and the admission of a BEACON. -/
theorem beaconAndLinkEvents : Obligations.BeaconAndLinkEvents := by
  refine ⟨fun s live due => ⟨_, exec_beaconDue live due, offerBeacon_agr s, offerBeacon_bus s, offerBeacon_port s, by simp⟩,
    fun s live listening due => ⟨_, exec_linkActive live listening due, ?up, linkUp_bus s, ?port, by simp⟩,
    fun s => ⟨fun more => if_neg (by omega), fun live due => ?beacon, fun other => if_neg other, fun listening more => ?listen,
      fun live listening due => ?active⟩,
    fun s idle => ?noBeacon, fun s idle => ?noLink, fun q none room => (admitTo_beacon none).trans (if_pos room),
    fun q none full => (admitTo_beacon none).trans (if_neg (by omega)),
    fun before after b waits newest => admitTo_beacon_waiting waits newest⟩
  case up =>
    rw [linkUp, offerBeacon_agr]
    rfl
  case port => exact offerBeacon_port _
  case beacon => rw [exec_beaconDue live due, beaconStep, if_pos (by omega)]
  case listen => rw [listeningStep, if_pos listening, if_neg (by omega)]
  case active => rw [exec_linkActive live listening due, listeningStep, if_pos listening, if_pos (by omega)]
  case noBeacon =>
    show execBeaconDue s = _
    simp [execBeaconDue, idle]
  case noLink =>
    show execLinkActive s = _
    rcases idle with other | other <;> simp [execLinkActive, other]

/-! ## The search, move by move (R92, R93, R96, R97) -/

theorem search_none_stack (steps : List PlanStep) (cues : List CueRec) (moves : Nat) (stack : List (StackEntry × Bool))
    (pos : SearchPos) (none : (search steps cues moves stack pos).found = Option.none) :
    (search steps cues moves stack pos).stack = [] := by
  induction moves generalizing stack pos with
  | zero => rfl
  | succ moves ih =>
    cases pos with
    | enter i =>
      unfold search at none ⊢
      split
      · rfl
      · rename_i block
        rw [block] at none
        exact ih _ _ none
      · rename_i cue
        rw [cue] at none
        dsimp only at none
        split
        case isTrue present =>
          rw [if_pos present] at none
          cases none
        case isFalse absent =>
          rw [if_neg absent] at none
          exact ih _ _ none
    | leave i =>
      cases stack with
      | nil => exact ih _ _ none
      | cons entry rest =>
        unfold search at none ⊢
        split
        case isTrue elsewhere =>
          rw [if_pos elsewhere] at none
          exact ih _ _ none
        case isFalse ends =>
          rw [if_neg ends] at none
          split
          case isTrue spent =>
            rw [if_pos spent] at none
            exact ih _ _ none
          case isFalse again =>
            rw [if_neg again] at none
            exact ih _ _ none

/-- The set of a first cue in the table: the ids from that cue on, as many as the run asks for (R94). -/
theorem activeSet_split {cues : List CueRec} {c : CueRec} (mem : c ∈ cues) :
    ∃ before d rest, cues = before ++ d :: rest ∧ d.id = c.id ∧
      ∀ run, activeSet cues c.id run = ((d :: rest).take run).map CueRec.id := by
  have split := List.takeWhile_append_dropWhile (p := fun x : CueRec => x.id != c.id) (l := cues)
  cases tail : cues.dropWhile fun x => x.id != c.id with
  | nil =>
    have all := List.dropWhile_eq_nil_iff.1 tail c mem
    simp at all
  | cons d rest =>
    have head := List.head_dropWhile_not (fun x : CueRec => x.id != c.id) (l := cues) (by simp [tail])
    simp only [tail, List.head_cons] at head
    exact ⟨_, d, rest, by rw [← tail, split], by simpa using head, fun run => by rw [activeSet, tail]⟩

/-- Settles O27: the step that a search ends at, the active set, and the walk by its equations. -/
theorem searchFindsActiveSet : Obligations.SearchFindsActiveSet := by
  refine ⟨fun s pos i found => ?found, fun cues first run c ordered mem id pos => ?set,
    fun s pos => ⟨rfl, search_none_stack _ _ _ _ _⟩, fun steps cues moves stack i =>
      ⟨fun span repeats block => by rw [search, block], fun first run passes mode cue => ⟨fun present => ?present, fun absent => ?absent⟩,
        fun past => by rw [search, List.getElem?_eq_none past], by rw [search],
        fun top whole => ⟨fun elsewhere => by rw [search, if_pos elsewhere], fun ends begun more => ?repeats, fun ends spent => ?spent⟩⟩⟩
  case found =>
    obtain ⟨first, run, passes, mode, step, present⟩ := search_found _ _ _ found
    obtain ⟨c, found⟩ := Option.isSome_iff_exists.1 present
    exact ⟨first, run, passes, mode, c, step, findCue_mem found, findCue_id found⟩
  case set =>
    obtain ⟨before, d, rest, cues_eq, d_id, set⟩ := activeSet_split mem
    rw [id] at d_id set
    have whole : (d :: rest).map CueRec.id = activeSet cues first run ++ ((d :: rest).drop run).map CueRec.id := by
      rw [set, ← List.map_append, List.take_append_drop]
    have ids : cues.map CueRec.id = before.map CueRec.id ++ activeSet cues first run ++ ((d :: rest).drop run).map CueRec.id := by
      rw [List.append_assoc, ← whole, ← List.map_append, ← cues_eq]
    refine ⟨_, _, ids, ?_, ?_, ?_, fun short => ?_⟩
    · obtain ⟨n, rfl⟩ : ∃ n, run = n + 1 := ⟨run - 1, by omega⟩
      simp [set, d_id]
    · refine ordered.unique.sublist ?_
      rw [ids, List.append_assoc]
      exact (List.sublist_append_left _ _).trans (List.sublist_append_right _ _)
    · simp [set]
    · rw [set, List.length_map, List.length_take] at short
      rw [List.drop_eq_nil_of_le (by omega), List.map_nil]
  case present =>
    obtain ⟨c, mem, id⟩ := present
    have found : (findCue cues first).isSome = true := by
      rw [findCue, List.find?_isSome]
      exact ⟨c, mem, by simp [id]⟩
    simp only [search, cue, found, if_true]
  case absent =>
    simp only [search, cue, findCue_eq_none_of absent, Option.isSome_none, Bool.false_eq_true, if_false]
  case repeats =>
    have again : (whole || decide (top.remaining ≤ 1)) = false := by simp [begun, more]
    simp only [search, ends, again, ne_eq, not_true_eq_false, Bool.false_eq_true, if_false]
  case spent =>
    have given : (whole || decide (top.remaining ≤ 1)) = true := by simpa using spent
    simp only [search, ends, given, ne_eq, not_true_eq_false, if_false, if_true]

/-! ## READ TAKE (R173, R174) -/

theorem takePart_cases {part : Byte} (known : part.toNat ≤ 2) : part = 0 ∨ part = 1 ∨ part = 2 := by
  rcases (by omega : part.toNat = 0 ∨ part.toNat = 1 ∨ part.toNat = 2) with code | code | code
  · exact .inl (BitVec.eq_of_toNat_eq code)
  · exact .inr (.inl (BitVec.eq_of_toNat_eq code))
  · exact .inr (.inr (BitVec.eq_of_toNat_eq code))

theorem takePartOfCode_none {n : Nat} (unknown : 2 < n) : takePartOfCode n = none := by
  obtain ⟨k, rfl⟩ : ∃ k, n = k + 3 := ⟨n - 3, by omega⟩
  rfl

theorem closed_iff {r : TakeRec} : r.closed = true ↔ r.outcome ≠ .inProgress := decide_eq_true_iff

/-- The oldest closed record is the first one behind records that are in progress. -/
theorem find_closed {before after : List TakeRec} {r : TakeRec} (running : ∀ x ∈ before, x.outcome = .inProgress)
    (closed : r.outcome ≠ .inProgress) : (before ++ r :: after).find? TakeRec.closed = some r := by
  rw [List.find?_append, List.find?_eq_none.2 fun x mem => by simp [closed_iff, running x mem], Option.none_or,
    List.find?_cons_of_pos (closed_iff.2 closed)]

theorem eraseP_closed {before after : List TakeRec} {r : TakeRec} (running : ∀ x ∈ before, x.outcome = .inProgress)
    (closed : r.outcome ≠ .inProgress) : (before ++ r :: after).eraseP TakeRec.closed = before ++ after := by
  rw [List.eraseP_append_right _ fun x mem => by simp [closed_iff, running x mem], List.eraseP_cons_of_pos (closed_iff.2 closed)]

/-- The data that READ TAKE gives of a record. -/
def takeData (part : Byte) (records : Nat) (r : TakeRec) : Reply :=
  if part = 0 then .takeHead records r
  else if part = 1 then .takeCues records r.number (r.cues.take 4)
  else .takeCues records r.number ((r.cues.drop 4).take 4)

theorem takeReply_eq {part : Byte} (known : part.toNat ≤ 2) (records : Nat) (r : TakeRec) :
    ∃ p, takePartOfCode part.toNat = some p ∧ takeReply p records r = takeData part records r := by
  rcases takePart_cases known with rfl | rfl | rfl
  · exact ⟨.head, rfl, rfl⟩
  · exact ⟨.cuesLow, rfl, rfl⟩
  · exact ⟨.cuesHigh, rfl, rfl⟩

section
variable {s : State} {part remove : Byte} (running : s.running = true)
include running

theorem readTakeBody_range (bad : 2 < part.toNat ∨ 1 < remove.toNat) : readTakeBody part remove s = answerPlain .range s := by
  rw [readTakeBody, running]
  by_cases flag : badFlag remove = true
  · simp [flag]
  · have unknown : 2 < part.toNat := bad.resolve_right fun far => flag (decide_eq_true far)
    simp [flag, takePartOfCode_none unknown]

variable (known : part.toNat ≤ 2) (flag : remove.toNat ≤ 1)
include known flag

theorem readTakeBody_none (progress : ∀ r ∈ s.log.records, r.outcome = .inProgress) :
    readTakeBody part remove s = answer .none (.count s.log.records.length) s := by
  obtain ⟨p, code⟩ : ∃ p, takePartOfCode part.toNat = some p := by
    rcases takePart_cases known with rfl | rfl | rfl <;> exact ⟨_, rfl⟩
  have good : badFlag remove = false := decide_eq_false (by omega)
  have none : s.log.records.find? TakeRec.closed = none := List.find?_eq_none.2 fun x mem => by simp [closed_iff, progress x mem]
  simp [readTakeBody, running, good, code, none]

theorem readTakeBody_reads {r : TakeRec} (found : s.log.records.find? TakeRec.closed = some r) : readTakeBody part remove s =
    answer .ok (takeData part s.log.records.length r) (if remove = 1 then removeTake s else s) := by
  obtain ⟨p, code, data⟩ := takeReply_eq known s.log.records.length r
  have good : badFlag remove = false := decide_eq_false (by omega)
  simp [readTakeBody, running, good, code, found, data]

end

theorem exec_readTake {s : State} (stage : OnStage s) (part remove : Byte) : exec (.readTake part remove) s =
    .next ((readTakeBody part remove (s.setResponse none)).1.setResponse (readTakeBody part remove (s.setResponse none)).2) := by
  rw [exec_of_command rfl, take_of_portReady _ _ stage.1]
  rfl

/-- A removal leaves fewer records, and where fewer than 16 are left LOG_FULL clears (R173). -/
theorem removeTake_eq {s : State} {records : List TakeRec} (left : s.log.records.eraseP TakeRec.closed = records) :
    removeTake s = if records.length < 16 then clearLogFull (s.setLog { s.log with records := records })
      else s.setLog { s.log with records := records } := by
  simp only [removeTake, left, TakeLog.free, State.setLog_log, decide_eq_true_eq, Config.takeCapacity]

theorem clearLogFull_reasons (s : State) : (clearLogFull s).agr = { s.agr with reasons := { s.agr.reasons with logFull := false } } := by
  unfold clearLogFull
  split
  case isTrue =>
    split
    · rfl
    · simp [State.setReasons]
  case isFalse clear =>
    rw [Bool.not_eq_true] at clear
    rw [← clear]

/-- A RELEASE is offered where LOG_FULL was the last standing reason, and no frame and no notice elsewhere. -/
theorem clearLogFull_last {s : State} (last : s.agr.reasons = ⟨false, true, false⟩) :
    (clearLogFull s).bus = (offer .release false s).2.bus := by
  simp only [clearLogFull, last, if_true, Bool.or_self, Bool.false_eq_true, if_false, offerInternal_bus]
  exact (offer_bus_congr _ _ (by simp [State.setReasons])).1

theorem clearLogFull_quiet {s : State} (other : s.agr.reasons ≠ ⟨false, true, false⟩) :
    (clearLogFull s).bus = s.bus ∧ (clearLogFull s).port = s.port := by
  unfold clearLogFull
  split
  case isTrue full =>
    split
    · exact ⟨rfl, rfl⟩
    case isFalse alone =>
      refine absurd ?_ other
      rw [Bool.or_eq_true, not_or, Bool.not_eq_true, Bool.not_eq_true] at alone
      obtain ⟨noConsole, noMark⟩ := alone
      calc s.agr.reasons = ⟨s.agr.reasons.console, s.agr.reasons.logFull, s.agr.reasons.mark⟩ := rfl
        _ = ⟨false, true, false⟩ := by rw [noConsole, full, noMark]
  case isFalse => exact ⟨rfl, rfl⟩

/-! ## The bytes of a take (R175, R204) -/

/-- The eight bits of a flag byte, most significant first. -/
theorem flagByte_all : ∀ b7 b6 b5 b4 b3 b2 b1 b0 : Bool,
    (BitVec.ofNat 8 (flagBits [b7, b6, b5, b4, b3, b2, b1, b0])).getLsbD 7 = b7 ∧
    (BitVec.ofNat 8 (flagBits [b7, b6, b5, b4, b3, b2, b1, b0])).getLsbD 6 = b6 ∧
    (BitVec.ofNat 8 (flagBits [b7, b6, b5, b4, b3, b2, b1, b0])).getLsbD 5 = b5 ∧
    (BitVec.ofNat 8 (flagBits [b7, b6, b5, b4, b3, b2, b1, b0])).getLsbD 4 = b4 ∧
    (BitVec.ofNat 8 (flagBits [b7, b6, b5, b4, b3, b2, b1, b0])).getLsbD 3 = b3 ∧
    (BitVec.ofNat 8 (flagBits [b7, b6, b5, b4, b3, b2, b1, b0])).getLsbD 2 = b2 ∧
    (BitVec.ofNat 8 (flagBits [b7, b6, b5, b4, b3, b2, b1, b0])).getLsbD 1 = b1 ∧
    (BitVec.ofNat 8 (flagBits [b7, b6, b5, b4, b3, b2, b1, b0])).getLsbD 0 = b0 := by decide

theorem byteAt_of_div {b : List Byte} {i n : Nat} (there : b[i]? = some (BitVec.ofNat 8 (n / 256 ^ 0))) :
    b[i]? = some (BitVec.ofNat 8 n) := by
  rwa [pow_zero, Nat.div_one] at there

theorem bytesNum_of_lt {w n : Nat} (fits : n < 256 ^ w) : bytesNum (numBytes w n) = n := by
  rw [bytesNum_numBytes, Nat.mod_eq_of_lt fits]

@[simp] theorem takeCue_length (c : TakeCue) : c.bytes.length = 6 := rfl

theorem takeCues_length (cues : List TakeCue) : (cues.flatMap TakeCue.bytes).length = 6 * cues.length := by
  simp [List.length_flatMap, Nat.mul_comm]

/-- The entry of a cue stands at six times its place. -/
theorem takeCues_entry {cues : List TakeCue} {i : Nat} {c : TakeCue} (there : cues[i]? = some c) :
    ((cues.flatMap TakeCue.bytes).drop (6 * i)).take 6 = c.bytes := by
  induction cues generalizing i with
  | nil => simp at there
  | cons d rest ih =>
    cases i with
    | zero =>
      cases there
      rw [List.flatMap_cons, Nat.mul_zero, List.drop_zero, List.take_append_of_le_length (by simp),
        List.take_of_length_le (by simp)]
    | succ i =>
      rw [List.flatMap_cons, Nat.mul_succ, Nat.add_comm, ← List.drop_drop, List.drop_left' (takeCue_length d)]
      exact ih there

theorem signed3_nonneg {x : Int} (low : 0 ≤ x) (high : x < 8388608) : (bytesNum (signed3 x) : Int) = x := by
  rw [signed3, b3, bytesNum_numBytes]
  omega

theorem signed3_neg {x : Int} (low : -8388608 ≤ x) (high : x < 0) : (bytesNum (signed3 x) : Int) = x + 16777216 := by
  rw [signed3, b3, bytesNum_numBytes]
  omega

/-- Settles O33: the judgements of the body, the removal with LOG_FULL, and the bytes of head, parts and entries. -/
theorem readTakeReports : Obligations.ReadTakeReports := by
  refine ⟨fun s part remove stage bad => ?range, fun s part remove stage known flag closed => ?none,
    fun s before after r stage log running closed => ?reads, fun s part before after r stage known log running closed => ?removes,
    fun n r b given => ?head, fun n number cues b given => ?parts, fun c b given => ?entry⟩
  case range => exact exec_answered rfl stage.1 (readTakeBody_range (running_of_onStage stage) bad)
  case none => exact exec_answered rfl stage.1 (readTakeBody_none (running_of_onStage stage) known flag closed)
  case reads =>
    have reads : ∀ part : Byte, part.toNat ≤ 2 →
        exec (.readTake part 0) s = .next (s.answered .ok (takeData part s.log.records.length r)) := fun part known =>
      exec_answered rfl stage.1 <|
        (readTakeBody_reads (s := s.setResponse none) (remove := 0) (running_of_onStage stage) known (by decide)
          (log ▸ find_closed running closed)).trans (by rw [if_neg (by decide)]; rfl)
    exact ⟨reads 0 (by decide), reads 1 (by decide), reads 2 (by decide)⟩
  case removes =>
    have body := readTakeBody_reads (s := s.setResponse none) (remove := 1) (running_of_onStage stage) known (by decide)
      (log ▸ find_closed running closed)
    have removed := removeTake_eq (s := s.setResponse none) (records := before ++ after) (log ▸ eraseP_closed running closed)
    have count : s.log.records.length = (before ++ after).length + 1 := by simp [log]; omega
    refine ⟨_, exec_readTake stage part 1, ?_⟩
    rw [body, if_pos rfl, removed]
    by_cases few : (before ++ after).length < 16
    · rw [if_pos few]
      refine ⟨by simp [answer, State.setResponse], rfl, ?_, fun _ => ?_, fun many => by omega, fun _ last => ?_, fun other => ?_, ?_⟩
      · simp [answer, State.setResponse, clearLogFull_reasons]
      · simp [answer, State.setResponse, clearLogFull_reasons]
      · exact (clearLogFull_last (s := (s.setResponse none).setLog _) last).trans (offer_bus_congr _ _ (by simp [State.setResponse])).1
      · obtain ⟨bus, port⟩ := clearLogFull_quiet (s := (s.setResponse none).setLog { s.log with records := before ++ after }) other
        exact ⟨bus, show (clearLogFull _).port.notices = (s.setResponse none).port.notices from congrArg Port.notices port⟩
      · simp [answer, State.setResponse]
    · rw [if_neg few]
      exact ⟨rfl, rfl, rfl, fun low => by omega, fun _ => ⟨rfl, rfl⟩, fun low => by omega, fun _ => ⟨rfl, rfl⟩, rfl, rfl, rfl, rfl,
        rfl, rfl, rfl, rfl, rfl, rfl, rfl⟩
  case head =>
    subst given
    obtain ⟨b7, b6, b5, b4, b3, b2, b1, b0⟩ := flagByte_all r.punchIn.isSome r.punchOut.isSome false false r.flags.syncSuspect
      r.flags.refUnstable r.flags.rxOverrun r.flags.lateEvents
    refine ⟨rfl, fun fits => bytesNum_of_lt (w := 1) fits, fun fits => bytesNum_of_lt (w := 2) fits,
      fun fits => bytesNum_of_lt (w := 2) fits, fun fits => bytesNum_of_lt (w := 1) fits, ?_, fun done => ?_, fun done => ?_,
      ⟨_, byteAt_of_div rfl, b7, b6, b5, b4, b3, b2, b1, b0⟩, fun x punched fits => ?_, fun none => ?_, fun x punched fits => ?_, fun none => ?_,
      fun fits => bytesNum_of_lt (w := 1) fits⟩
    · show bytesNum (numBytes 1 r.mode.code) = _
      cases r.mode <;> rfl
    · show bytesNum (numBytes 1 r.outcome.code) = _
      rw [done]
      rfl
    · show bytesNum (numBytes 1 r.outcome.code) = _
      rw [done]
      rfl
    · show bytesNum (numBytes 4 (orZero r.punchIn)) = _
      rw [punched]
      exact bytesNum_of_lt (w := 4) fits
    · show numBytes 4 (orZero r.punchIn) = _
      rw [none]
      rfl
    · show bytesNum (numBytes 4 (orZero r.punchOut)) = _
      rw [punched]
      exact bytesNum_of_lt (w := 4) fits
    · show numBytes 4 (orZero r.punchOut) = _
      rw [none]
      rfl
  case parts =>
    subst given
    have bytes : (Reply.takeCues n number cues).bytes =
      numBytes 1 n ++ numBytes 2 number ++ numBytes 1 cues.length ++ cues.flatMap TakeCue.bytes := rfl
    refine ⟨?_, fun fits => bytesNum_of_lt (w := 1) fits, fun fits => bytesNum_of_lt (w := 2) fits,
      fun fits => bytesNum_of_lt (w := 1) fits, fun i c there => ?_⟩
    · simp only [bytes, List.length_append, numBytes_length, takeCues_length]
    · rw [bytes, ← List.drop_drop]
      exact takeCues_entry there
  case entry =>
    subst given
    obtain ⟨b7, b6, b5, b4, b3, b2, b1, b0⟩ := flagByte_all c.onset.isSome false false false false false c.overlap c.noOnset
    refine ⟨rfl, fun fits => bytesNum_of_lt (w := 2) fits, ⟨_, byteAt_of_div rfl, b7, b6, b5, b4, b3, b2, b1, b0⟩, fun none => ?_, fun x given => ?_⟩
    · show signed3 (c.onset.getD 0) = _
      rw [none]
      rfl
    · have data : c.bytes.drop 3 = signed3 x := by
        show signed3 (c.onset.getD 0) = _
        rw [given]
        rfl
      rw [data]
      exact ⟨signed3_nonneg, signed3_neg⟩

end Sys2Proof.Machine

/-! PROOF. Loop closure with its duty slots and the admission of an INTERNAL frame (R119 to R121, R35, R36), then the tables that hold one entry per address: the hold set with its leases and the own hold, and the window table with own-entry maintenance (R55 to R59, R106, R107, R109). -/

namespace Sys2Proof.Machine

-- One proof after another: under the check's memory limit there is no room for a thread per proof.
set_option Elab.async false

/-! ## The closure condition and the duty slots (R119, R120) -/

theorem inClosureSet_iff {n : Nat} {w : WindowEntry} :
    inClosureSet n w = true ↔ w.passNumber = n ∨ w.passNumber = (n + 1) % 65536 := by
  rw [inClosureSet, Bool.or_eq_true, decide_eq_true_iff, decide_eq_true_iff, nextPass]

theorem closureCondition_iff {s : State} : closureCondition s = true ↔ s.agr.transport = .rolling ∧ s.pass.state ≠ .inPass ∧
    (∃ w ∈ s.pass.windows, w.address = s.address ∧
      (w.passNumber = s.agr.passNumber ∨ w.passNumber = (s.agr.passNumber + 1) % 65536)) ∧
    ∀ w ∈ s.pass.windows, w.passNumber = s.agr.passNumber → w.status ≠ .announced ∧ w.more ≠ some true := by
  have own : (closureSet s).any (fun w => decide (w.address = s.address)) = true ↔ ∃ w ∈ s.pass.windows,
      w.address = s.address ∧ (w.passNumber = s.agr.passNumber ∨ w.passNumber = (s.agr.passNumber + 1) % 65536) := by
    simp only [closureSet, List.any_eq_true, List.mem_filter, inClosureSet_iff, decide_eq_true_eq]
    exact ⟨fun ⟨w, ⟨mem, near⟩, here⟩ => ⟨w, mem, here, near⟩, fun ⟨w, mem, here, near⟩ => ⟨w, ⟨mem, near⟩, here⟩⟩
  have done : (s.pass.windows.all fun w => !(decide (w.passNumber = s.agr.passNumber) &&
      (decide (w.status = .announced) || decide (w.more = some true)))) = true ↔
      ∀ w ∈ s.pass.windows, w.passNumber = s.agr.passNumber → w.status ≠ .announced ∧ w.more ≠ some true := by
    simp only [List.all_eq_true, Bool.not_eq_true', Bool.and_eq_false_iff, decide_eq_false_iff_not, Bool.or_eq_false_iff]
    exact forall₂_congr fun _ _ => imp_iff_not_or.symm
  rw [closureCondition, Bool.and_eq_true, Bool.and_eq_true, Bool.and_eq_true, decide_eq_true_iff, decide_eq_true_iff, own, done,
    and_assoc, and_assoc]

theorem closureSet_length (s : State) : (closureSet s).length = (s.pass.windows.filter fun w =>
    decide (w.passNumber = s.agr.passNumber ∨ w.passNumber = (s.agr.passNumber + 1) % 65536)).length := by
  rw [closureSet, List.filter_congr fun w _ => Bool.eq_iff_iff.2 (inClosureSet_iff.trans decide_eq_true_iff.symm)]

theorem dutyRank_eq (s : State) : dutyRank s = (s.pass.windows.filter fun w =>
    decide ((w.passNumber = s.agr.passNumber ∨ w.passNumber = (s.agr.passNumber + 1) % 65536) ∧ w.address < s.address)).length := by
  rw [dutyRank, closureSet, List.countP_filter, List.countP_eq_length_filter]
  congr 1
  refine List.filter_congr fun w _ => ?_
  rw [Bool.eq_iff_iff, Bool.and_eq_true, inClosureSet_iff, decide_eq_true_iff, decide_eq_true_iff, and_comm]

/-- A count is a duty slot where it lies a whole number of rounds behind the station's own turn (R120). -/
theorem dutySlot_iff {k m grace c : Nat} : dutySlot k m grace c = true ↔ ∃ j, c = k * grace + j * (m * grace) := by
  rw [dutySlot, Bool.and_eq_true, decide_eq_true_iff, decide_eq_true_iff]
  constructor
  · rintro ⟨from_, whole⟩
    obtain ⟨j, rounds⟩ := Nat.dvd_of_mod_eq_zero whole
    exact ⟨j, by rw [Nat.mul_comm j, ← rounds]; omega⟩
  · rintro ⟨j, rfl⟩
    rw [Nat.add_sub_cancel_left]
    exact ⟨Nat.le_add_right _ _, Nat.mul_mod_left _ _⟩

/-! ## The closing frame (R121) -/

/-- A running minimum over a list is reached by the entry that no other undercuts. -/
theorem foldl_min_eq {α : Type} {f : α → Nat} {l : List α} {x : Nat} {rest : List Nat} {w : α} (listed : l.map f = x :: rest)
    (mem : w ∈ l) (least : ∀ y ∈ l, f w ≤ f y) : rest.foldl min x = f w := by
  obtain ⟨first, others⟩ := foldl_min_le rest x
  have there : rest.foldl min x ∈ l.map f := listed ▸ foldl_min_mem rest x
  obtain ⟨y, memY, same⟩ := List.mem_map.1 there
  refine Nat.le_antisymm ?_ (same ▸ least y memY)
  rcases List.mem_cons.1 (listed ▸ List.mem_map_of_mem mem) with same | mem
  · rw [same]
    exact first
  · exact others _ mem

theorem closingFrame_stop {s : State} (none : ∀ w ∈ s.pass.windows, w.passNumber ≠ (s.agr.passNumber + 1) % 65536) :
    closingFrame s = .anchor false s.posn.rate s.posn.pEdge := by
  have empty : (s.pass.windows.filter fun w => decide (w.passNumber = nextPass s.agr.passNumber)) = [] :=
    List.filter_eq_nil_iff.2 fun w mem here => none w mem (of_decide_eq_true here)
  rw [closingFrame, empty]
  rfl

theorem closingFrame_locate {s : State} {w : WindowEntry} (mem : w ∈ s.pass.windows)
    (next : w.passNumber = (s.agr.passNumber + 1) % 65536)
    (least : ∀ x ∈ s.pass.windows, x.passNumber = (s.agr.passNumber + 1) % 65536 → w.pIn ≤ x.pIn) :
    closingFrame s = .locate true true s.posn.rate s.station.settle ((s.agr.passNumber + 1) % 65536) w.pIn := by
  have here : w ∈ s.pass.windows.filter fun w => decide (w.passNumber = nextPass s.agr.passNumber) :=
    List.mem_filter.2 ⟨mem, decide_eq_true next⟩
  unfold closingFrame
  split
  case h_1 none =>
    rw [List.map_eq_nil_iff.1 none] at here
    cases here
  case h_2 x rest listed =>
    rw [foldl_min_eq listed here fun y memY => least y (List.mem_filter.1 memY).1 (of_decide_eq_true (List.mem_filter.1 memY).2)]
    rfl

/-! ## The test of a frame edge and its event (R119 to R121) -/

theorem closureTest_fails {s : State} (fails : closureCondition s = false) :
    exec .closureOffer s = .next s ∧ closureTest s = s.setPass { s.pass with closureCount := none } := by
  refine ⟨?_, by simp [closureTest, fails]⟩
  show execClosureOffer s = _
  simp [execClosureOffer, fails]

theorem closureTest_holds {s : State} {c : Nat} (holds : closureCondition s = true)
    (count : nextClosureCount s.pass.closureCount = c) : closureTest s =
      if dutyDue s c then offerInternal (closingFrame s) (s.setPass { s.pass with closureCount := some c })
      else s.setPass { s.pass with closureCount := some c } := by
  simp only [closureTest, holds, count, if_true]

theorem exec_closureOffer_due {s : State} {c : Nat} (live : Live s) (holds : closureCondition s = true)
    (count : nextClosureCount s.pass.closureCount = c) (due : dutyDue s c = true) :
    exec .closureOffer s = .next (closureTest s) := by
  show execClosureOffer s = _
  simp [execClosureOffer, live_iff.2 live, holds, count, due]

theorem exec_closureOffer_early {s : State} {c : Nat} (count : nextClosureCount s.pass.closureCount = c)
    (early : dutyDue s c = false) : exec .closureOffer s = .next s := by
  show execClosureOffer s = _
  simp [execClosureOffer, count, early]

/-! ## An INTERNAL frame (R35, R36) -/

theorem offerInternal_closed {s : State} (closed : s.bus.link.admits = false) (f : QueuedFrame) : offerInternal f s = s := by
  simp [offerInternal, offerTagged, offer_closed closed]

theorem offerTagged_admitted {s : State} {f : QueuedFrame} {m : Bool} {q : List TxEntry} (opened : s.bus.link.admits = true)
    (admitted : admitTo s.bus.queue f m = (.admitted, q)) : offerTagged f m s = s.setBus { s.bus with queue := q } := by
  simp [offerTagged, offer_open opened, admitted]

theorem offerTagged_full {s : State} {f : QueuedFrame} {m : Bool} (opened : s.bus.link.admits = true)
    (full : admitTo s.bus.queue f m = (.full, s.bus.queue)) : offerTagged f m s = post .txOverflow s.address s := by
  simp only [offerTagged, offer_open opened, full, if_true]
  rfl

/-- Settles O44: the condition and the slots of R119 and R120 spelled out, the closing frame, and admission. -/
theorem closureOffered : Obligations.ClosureOffered := by
  refine ⟨fun s own k m c j live rolling between mem here near done mEq kEq cEq slot => ?due, fun s fails => closureTest_fails ?fails,
    fun f s kind opened room => offerTagged_admitted opened (admitTo_room _ (moves_noBeacon kind) (moves_noReplace kind _) room),
    fun f s closed => offerInternal_closed closed f, fun f s opened full noBeacon noHold => ?full,
    fun s own k m c rolling between mem here near done mEq kEq cEq => ?test⟩
  case due =>
    have holds := closureCondition_iff.2 ⟨rolling, between, ⟨own, mem, here, near⟩, done⟩
    have count : nextClosureCount s.pass.closureCount = c := by rw [cEq]; cases s.pass.closureCount <;> rfl
    have due : dutyDue s c = true := dutySlot_iff.2 ⟨j, by rw [dutyRank_eq, closureSet_length, ← kEq, ← mEq, slot]⟩
    rw [exec_closureOffer_due live holds count due, closureTest_holds holds count, if_pos due]
    exact ⟨fun none => by rw [closingFrame_stop none], fun w memW next least => by rw [closingFrame_locate memW next least]⟩
  case fails =>
    rw [Bool.eq_false_iff]
    intro holds
    obtain ⟨rolling, between, ⟨own, mem, here, near⟩, done⟩ := closureCondition_iff.1 holds
    rcases fails with other | inPass | ⟨w, memW, now, open_⟩ | absent
    · exact other rolling
    · exact between inPass
    · obtain ⟨status, more⟩ := done w memW now
      exact open_.elim status more
    · obtain ⟨notNow, notNext⟩ := absent own mem here
      exact near.elim notNow notNext
  case full =>
    have replaces : ¬ ((f.kind = .hold ∨ f.kind = .release) ∧ s.bus.queue.any TxEntry.waitingHold = true) :=
      fun ⟨kind, waits⟩ => by simp [noHold kind] at waits
    refine ⟨fun none => offerTagged_full opened (admitTo_full _ noBeacon replaces full none), fun before after b queue waits newest => ?_⟩
    refine offerTagged_admitted opened ?_
    rw [queue] at replaces full ⊢
    exact admitTo_displaces false noBeacon replaces full waits newest
  case test =>
    have holds := closureCondition_iff.2 ⟨rolling, between, ⟨own, mem, here, near⟩, done⟩
    have count : nextClosureCount s.pass.closureCount = c := by rw [cEq]; cases s.pass.closureCount <;> rfl
    have slots : dutyDue s c = true ↔ ∃ j, c = k * s.station.closureGrace + j * (m * s.station.closureGrace) := by
      rw [dutyDue, dutySlot_iff, dutyRank_eq, closureSet_length, ← kEq, ← mEq]
    refine ⟨fun j slot live => exec_closureOffer_due live holds count (slots.2 ⟨j, slot⟩), fun none => ?_⟩
    have early : dutyDue s c = false := by
      rw [Bool.eq_false_iff]
      intro due
      obtain ⟨j, slot⟩ := slots.1 due
      exact none j slot
    exact ⟨(closureTest_holds holds count).trans (by simp [early]), exec_closureOffer_early count early⟩

/-! ## Tables of one entry per address (R55, R105) -/

section
variable {α : Type} (address : α → Nat)

theorem find_filter_out {l : List α} {p : α → Bool} {a : Nat} (out : ∀ x, p x = true → address x ≠ a) :
    (l.filter p).find? (fun x => address x == a) = none := by
  rw [List.find?_eq_none]
  intro x mem
  simpa using out x (List.mem_filter.1 mem).2

theorem find_filter_in {l : List α} {p : α → Bool} {a : Nat} (inside : ∀ x, address x = a → p x = true) :
    (l.filter p).find? (fun x => address x == a) = l.find? (fun x => address x == a) := by
  rw [List.find?_filter]
  congr 1
  funext x
  by_cases here : address x = a
  · simp [here, inside x here]
  · simp [here]

theorem find_dropped (l : List α) (a : Nat) :
    (l.filter fun x => decide (address x ≠ a)).find? (fun x => address x == a) = none :=
  find_filter_out address fun _ => of_decide_eq_true

theorem find_dropped_other (l : List α) {a b : Nat} (other : b ≠ a) :
    (l.filter fun x => decide (address x ≠ a)).find? (fun x => address x == b) = l.find? (fun x => address x == b) :=
  find_filter_in address fun _ here => decide_eq_true (here ▸ other)

theorem find_put {l : List α} (e : α) : (l.filter (fun x => decide (address x < address e)) ++ e ::
    l.filter (fun x => decide (address e < address x))).find? (fun x => address x == address e) = some e := by
  rw [List.find?_append, find_filter_out address fun x below => (of_decide_eq_true below).ne, Option.none_or,
    List.find?_cons_of_pos (by simp)]

theorem find_put_other {l : List α} (e : α) {b : Nat} (other : b ≠ address e) :
    (l.filter (fun x => decide (address x < address e)) ++ e ::
      l.filter (fun x => decide (address e < address x))).find? (fun x => address x == b) = l.find? (fun x => address x == b) := by
  rw [List.find?_append, List.find?_cons_of_neg (by simpa using other.symm)]
  rcases Nat.lt_or_gt_of_ne other with low | high
  · rw [find_filter_in address fun x here => decide_eq_true (here ▸ low),
      find_filter_out address fun x above here => absurd (of_decide_eq_true above) (by omega), Option.or_none]
  · rw [find_filter_out address fun x below here => absurd (of_decide_eq_true below) (by omega), Option.none_or,
      find_filter_in address fun x here => decide_eq_true (here ▸ high)]

/-- In a table of rising addresses an entry that a round keeps or drops is found as that round leaves it. -/
theorem find_filterMap {l : List α} {f : α → Option α} (kept : ∀ x y, f x = some y → address y = address x)
    (rising : l.Pairwise fun x y => address x < address y) {a : Nat} {e : α} (found : l.find? (fun x => address x == a) = some e) :
    (l.filterMap f).find? (fun x => address x == a) = f e := by
  induction l with
  | nil => cases found
  | cons x rest ih =>
    obtain ⟨above, rising⟩ := List.pairwise_cons.1 rising
    by_cases here : address x = a
    · rw [List.find?_cons_of_pos (by simpa using here)] at found
      cases found
      cases kind : f e with
      | some y => rw [List.filterMap_cons_some kind, List.find?_cons_of_pos (by simpa [kept e y kind] using here)]
      | none =>
        rw [List.filterMap_cons_none kind, List.find?_eq_none]
        intro y mem
        obtain ⟨z, memZ, same⟩ := List.mem_filterMap.1 mem
        have := above z memZ
        have := kept z y same
        simp only [beq_iff_eq]
        omega
    · rw [List.find?_cons_of_neg (by simpa using here)] at found
      cases kind : f x with
      | some y =>
        rw [List.filterMap_cons_some kind, List.find?_cons_of_neg (by simpa [kept x y kind] using here)]
        exact ih rising found
      | none =>
        rw [List.filterMap_cons_none kind]
        exact ih rising found

theorem find_map {l : List α} {f : α → α} (kept : ∀ x, address (f x) = address x) (a : Nat) :
    (l.map f).find? (fun x => address x == a) = (l.find? fun x => address x == a).map f := by
  rw [List.find?_map]
  congr 2
  funext x
  simp [kept x]

end

/-! ## Holds and leases (R55 to R59) -/

theorem holdOf_dropHold (a : Nat) (s : State) : holdOf (dropHold a s).agr.holds a = none ∧
    ∀ b : Nat, b ≠ a → holdOf (dropHold a s).agr.holds b = holdOf s.agr.holds b :=
  ⟨find_dropped HoldEntry.address _ _, fun _ other => find_dropped_other HoldEntry.address _ other⟩

theorem holdOf_applyHold (a lease reason : Nat) (s : State) :
    holdOf (applyHold a lease reason s).agr.holds a = some ⟨a, max 1 lease, reason, true⟩ ∧
      ∀ b : Nat, b ≠ a → holdOf (applyHold a lease reason s).agr.holds b = holdOf s.agr.holds b :=
  ⟨find_put HoldEntry.address ⟨a, max 1 lease, reason, true⟩,
    fun _ other => find_put_other HoldEntry.address ⟨a, max 1 lease, reason, true⟩ other⟩

/-- The own lease runs out at this count. -/
def ownRanOut (s : State) : Bool := s.agr.holds.any fun h => decide (h.address = s.address) && h.count.isNone

theorem holdCount_isNone {h : HoldEntry} : h.count.isNone = true ↔ h.fresh = false ∧ h.lease ≤ 1 := by
  unfold HoldEntry.count
  split
  case isTrue fresh => simp [fresh]
  case isFalse counted => split <;> simp_all

theorem ownRanOut_iff {s : State} :
    ownRanOut s = true ↔ ∃ h ∈ s.agr.holds, h.address = s.address ∧ h.fresh = false ∧ h.lease ≤ 1 := by
  simp only [ownRanOut, List.any_eq_true, Bool.and_eq_true, decide_eq_true_eq, holdCount_isNone]

theorem countLeases_eq (s : State) : countLeases s =
    if ownRanOut s then post .holdExpired s.address (s.setAgr { s.agr with holds := s.agr.holds.filterMap HoldEntry.count })
    else s.setAgr { s.agr with holds := s.agr.holds.filterMap HoldEntry.count } := rfl

theorem countLeases_agr (s : State) : (countLeases s).agr = { s.agr with holds := s.agr.holds.filterMap HoldEntry.count } := by
  rw [countLeases_eq]
  split <;> simp

theorem holdCount_not_fresh {h h' : HoldEntry} (counted : h.count = some h') : h'.fresh = false := by
  unfold HoldEntry.count at counted
  split at counted
  · cases counted
    rfl
  case isFalse old =>
    split at counted
    · cases counted
    · cases counted
      simpa using old

theorem ownHoldMaintenance_eq (s : State) : ownHoldMaintenance s =
    if s.agr.reasons.any then
      if ((holdOf s.agr.holds s.address).map fun h => decide (s.station.holdLease / 2 < h.lease)).getD false || s.queued .hold then s
      else offerInternal (.hold s.station.holdLease s.agr.reasons.lowest) s
    else if (holdOf s.agr.holds s.address).isSome && !s.queued .hold && !s.queued .release then offerInternal .release s
    else s := rfl

/-! ## The window table (R106, R107, R109) -/

theorem windowOf_applyWindow (a n c i o : Nat) (s : State) :
    windowOf (applyWindow a n c i o s).pass.windows a = some ⟨a, n, c, s.clampPos i, s.clampPos o, .announced, none⟩ ∧
      ∀ b : Nat, b ≠ a → windowOf (applyWindow a n c i o s).pass.windows b = windowOf s.pass.windows b :=
  ⟨find_put WindowEntry.address ⟨a, n, c, s.clampPos i, s.clampPos o, .announced, none⟩,
    fun _ other => find_put_other WindowEntry.address ⟨a, n, c, s.clampPos i, s.clampPos o, .announced, none⟩ other⟩

theorem windowOf_dropWindow (a : Nat) (s : State) : windowOf (dropWindow a s).pass.windows a = none ∧
    ∀ b : Nat, b ≠ a → windowOf (dropWindow a s).pass.windows b = windowOf s.pass.windows b :=
  ⟨find_dropped WindowEntry.address _ _, fun _ other => find_dropped_other WindowEntry.address _ other⟩

theorem windowOf_markWindow (a n : Nat) (st : WindowStatus) (more : Bool) (s : State) (b : Nat) :
    windowOf (markWindow a n st more s).pass.windows b = (windowOf s.pass.windows b).map fun w =>
      if w.address = a ∧ w.passNumber = n then { w with status := st, more := some more } else w :=
  find_map WindowEntry.address (fun w => by split <;> rfl) b

theorem windowOf_address {ws : List WindowEntry} {a : Nat} {w : WindowEntry} (found : windowOf ws a = some w) : w.address = a := by
  simpa using List.find?_some found

/-- A mark falls on the one entry of its address, where that is of its pass. -/
theorem windowOf_marked {a n : Nat} {s : State} {w : WindowEntry} (st : WindowStatus) (more : Bool)
    (found : windowOf s.pass.windows a = some w) (pass : w.passNumber = n) :
    windowOf (markWindow a n st more s).pass.windows a = some { w with status := st, more := some more } ∧
      ∀ b : Nat, b ≠ a → windowOf (markWindow a n st more s).pass.windows b = windowOf s.pass.windows b := by
  refine ⟨?_, fun b other => ?_⟩
  · rw [windowOf_markWindow, found, Option.map_some, if_pos ⟨windowOf_address found, pass⟩]
  · rw [windowOf_markWindow]
    cases there : windowOf s.pass.windows b with
    | none => rfl
    | some x => rw [Option.map_some, if_neg fun ⟨here, _⟩ => other (windowOf_address there ▸ here)]

theorem applyDone_other {a n : Nat} {s : State} (oc : DoneOutcome) (more : Bool) (other : windowOf s.pass.windows a = none ∨
    ∃ w : WindowEntry, windowOf s.pass.windows a = some w ∧ w.passNumber ≠ n) : applyDone a n oc more s = s := by
  rcases other with none | ⟨w, found, pass⟩
  · simp only [applyDone, none]
  · simp only [applyDone, found, if_pos pass]

theorem applyDone_of_pass {a n : Nat} {s : State} {w : WindowEntry} (oc : DoneOutcome) (more : Bool)
    (found : windowOf s.pass.windows a = some w) (pass : w.passNumber = n) : applyDone a n oc more s =
      match oc with
      | .cleared => markWindow a n .cleared more s
      | .skipped => markWindow a n .skipped more s
      | .abandoned => dropWindow a s := by
  cases oc <;> simp only [applyDone, found, pass, ne_eq, not_true_eq_false, if_false]

theorem ownEntryMaintenance_offers {s : State} {f : QueuedFrame} (due : maintenanceFrame s = some f)
    (free : s.queued f.kind = false) : ownEntryMaintenance s = offerInternal f s := by
  simp [ownEntryMaintenance, due, free]

theorem ownEntryMaintenance_rests {s : State} (rests : ∀ f, maintenanceFrame s = some f → s.queued f.kind = true) :
    ownEntryMaintenance s = s := by
  unfold ownEntryMaintenance
  split
  case h_1 f due => rw [if_pos (rests f due)]
  case h_2 => rfl

theorem maintenanceFrame_own {s : State} {w : OwnWindow} (own : s.pass.own = some w) : maintenanceFrame s =
    if (windowOf s.pass.windows s.address).map WindowEntry.passNumber = some w.label then none else some (windowFrame w) := by
  simp only [maintenanceFrame, own]

theorem maintenanceFrame_done {s : State} {f : QueuedFrame} (none : s.pass.own = none) (due : maintenanceFrame s = some f) :
    f.kind = .done ∧ (windowOf s.pass.windows s.address).isSome = true := by
  simp only [maintenanceFrame, none] at due
  split at due
  case h_1 there _ =>
    split at due
    · cases due
      exact ⟨rfl, by rw [there]; rfl⟩
    · cases due
  case h_2 there _ =>
    split at due
    · cases due
      exact ⟨rfl, by rw [there]; rfl⟩
    · cases due
  case h_3 => cases due

/-- Settles O46: the hold set, the own hold, the window table and own-entry maintenance, part by part. -/
theorem holdSetKept : Obligations.HoldSetKept := by
  refine ⟨fun a lease reason s => ⟨rfl, (holdOf_applyHold a lease reason s).1, (holdOf_applyHold a lease reason s).2,
      (keeps_applyHold a lease reason s).tables⟩,
    fun a s => ⟨rfl, (holdOf_dropHold a s).1, (holdOf_dropHold a s).2⟩, fun s a h ordered held => ?leases,
    fun s => ⟨by rw [countLeases_agr], ?counted, fun ran => ?expired, fun none => ?silent⟩,
    fun s reasons free low => ?offers, fun s h reasons held noHold noRelease => ?releases, fun s rests => ?rests,
    fun a n c i o s => ⟨rfl, (windowOf_applyWindow a n c i o s).1, (windowOf_applyWindow a n c i o s).2,
      (keeps_applyWindow a n c i o s).tables⟩,
    fun a n oc more s other => applyDone_other oc more other, fun a n oc more w s found pass => ?done,
    fun s w own => ⟨fun lacks free => ?announces, fun kept => ?announced⟩, fun s e none found free => ?entry,
    fun s none idle => ownEntryMaintenance_rests fun f due => ?idle⟩
  case leases =>
    have found := find_filterMap HoldEntry.address (fun _ _ => holdCount_address) ordered.holds held
    rw [countLeases_agr]
    refine ⟨fun fresh => found.trans ?_, fun old more => found.trans ?_, fun old last => found.trans ?_⟩
    · simp [HoldEntry.count, fresh]
    · simp [HoldEntry.count, old, Nat.not_le.2 more]
    · simp [HoldEntry.count, old, last]
  case counted =>
    rw [countLeases_agr]
    intro h mem
    obtain ⟨x, -, counted⟩ := List.mem_filterMap.1 mem
    exact holdCount_not_fresh counted
  case expired =>
    rw [countLeases_eq, if_pos (ownRanOut_iff.2 ran)]
    exact post_port_congr _ _ rfl
  case silent =>
    rw [countLeases_eq, if_neg]
    · rfl
    · intro ran
      obtain ⟨h, mem, here, old, last⟩ := ownRanOut_iff.1 ran
      rcases none h mem here with fresh | more
      · simp [old] at fresh
      · omega
  case offers =>
    have low : ((holdOf s.agr.holds s.address).map fun h => decide (s.station.holdLease / 2 < h.lease)).getD false = false := by
      cases held : holdOf s.agr.holds s.address with
      | none => rfl
      | some h => simpa using low h held
    simp only [ownHoldMaintenance_eq, reasons, low, free, Bool.or_self, Bool.false_eq_true, if_true, if_false]
  case releases =>
    simp only [ownHoldMaintenance_eq, reasons, held, noHold, noRelease, Option.isSome_some, Bool.not_false, Bool.and_self,
      Bool.false_eq_true, if_true, if_false]
  case rests =>
    rw [ownHoldMaintenance_eq]
    rcases rests with ⟨reasons, queued | ⟨h, held, high⟩⟩ | ⟨reasons, none | queued | queued⟩
    · simp [reasons, queued]
    · simp [reasons, held, high]
    · simp [reasons, none]
    · simp [reasons, queued]
    · simp [reasons, queued]
  case done =>
    rw [applyDone_of_pass oc more found pass]
    cases oc with
    | cleared =>
      obtain ⟨here, others⟩ := windowOf_marked .cleared more found pass
      exact ⟨rfl, fun _ => here, nofun, nofun, others⟩
    | skipped =>
      obtain ⟨here, others⟩ := windowOf_marked .skipped more found pass
      exact ⟨rfl, nofun, fun _ => here, nofun, others⟩
    | abandoned =>
      obtain ⟨gone, others⟩ := windowOf_dropWindow a s
      exact ⟨rfl, nofun, nofun, fun _ => gone, others⟩
  case announces =>
    exact ownEntryMaintenance_offers (f := windowFrame w) ((maintenanceFrame_own own).trans (if_neg lacks)) free
  case announced =>
    refine ownEntryMaintenance_rests fun f due => ?_
    rw [maintenanceFrame_own own] at due
    split at due
    case isTrue => cases due
    case isFalse lacks =>
      cases due
      exact kept.resolve_left lacks
  case entry =>
    refine ⟨fun cleared now announced => ?_, fun idle open_ => ?_, fun cleared other => ?_, fun idle status more => ?_⟩
    · exact ownEntryMaintenance_offers (f := .done s.agr.passNumber .cleared false)
        (by simp [maintenanceFrame, none, found, cleared, now, announced]) free
    · exact ownEntryMaintenance_offers (f := .done e.passNumber .abandoned false)
        (by simp [maintenanceFrame, none, found, idle, open_]) free
    · refine ownEntryMaintenance_rests fun f due => ?_
      have neither : ¬ (e.passNumber = s.agr.passNumber ∧ e.status = .announced) := fun ⟨now, status⟩ =>
        other.elim (· now) (· status)
      simp [maintenanceFrame, none, found, cleared, neither] at due
    · refine ownEntryMaintenance_rests fun f due => ?_
      simp [maintenanceFrame, none, found, idle, status, more] at due
  case idle =>
    obtain ⟨kind, there⟩ := maintenanceFrame_done none due
    rw [kind]
    exact idle.resolve_left fun absent => by simp [absent] at there

end Sys2Proof.Machine

/-! PROOF. The marks (R178 to R181): what an acting mark leaves by its action and its re-arming, and how the four marks judge a handed pair. -/

namespace Sys2Proof.Machine

-- One proof after another: under the check's memory limit there is no room for a thread per proof.
set_option Elab.async false

/-! ## The mark written back (R180) -/

theorem Mark.afterActing_once {m : Mark} (once : m.rearm = .once) : m.afterActing = { m with count := 0, armed := false } := by
  simp only [Mark.afterActing, once]

theorem Mark.afterActing_repeating {m : Mark} (again : m.rearm = .repeating) : m.afterActing = { m with count := m.reload } := by
  simp only [Mark.afterActing, again]

theorem State.setMark_eq_setMarks {s t : State} (same : t.marks = s.marks) {n : Nat} (low : 1 ≤ n) (m : Mark) :
    t.setMark n m = t.setMarks (s.setMark n m).marks := by
  have there : n ≠ 0 := by omega
  simp only [State.setMark, there, same, if_false, State.setMarks_marks]

theorem State.mark_congr {s t : State} (same : t.marks = s.marks) (n : Nat) : t.mark n = s.mark n := by
  simp only [State.mark, same]

/-- A mark acts and is written back as its re-arming says; no other mark changes. -/
theorem fireMark_marks {s : State} {n : Nat} (offered : Bool) (low : 1 ≤ n) (high : n ≤ 4) :
    (fireMark offered n s).mark n = (s.mark n).afterActing ∧ ∀ k : Nat, k ≠ n → (fireMark offered n s).mark k = s.mark k := by
  have kept : (markAction offered (s.mark n).action (post .markFired n s)).marks = s.marks := by simp
  exact ⟨State.mark_setMark_self _ _ _ low high, fun k other => (State.mark_setMark_ne _ _ _ _ other).trans (State.mark_congr kept k)⟩

theorem fireMark_bus (offered : Bool) (n : Nat) (s : State) :
    (fireMark offered n s).bus = (markAction offered (s.mark n).action (post .markFired n s)).bus := by simp [fireMark]

theorem fireMark_agr_action (offered : Bool) (n : Nat) (s : State) :
    (fireMark offered n s).agr = (markAction offered (s.mark n).action (post .markFired n s)).agr := by simp [fireMark]

theorem fireMark_port (offered : Bool) (n : Nat) (s : State) :
    (fireMark offered n s).port = (markAction offered (s.mark n).action (post .markFired n s)).port := by simp [fireMark]

/-! ## The notices (R180, R191) -/

theorem offerTagged_notices (f : QueuedFrame) (m : Bool) (s : State) : s.port.notices <+: (offerTagged f m s).port.notices := by
  unfold offerTagged
  split
  · rw [post_port_congr (t := s) _ _ (by simp)]
    exact post_notices_grow _ _ _
  · simp

theorem raiseMark_notices (s : State) : s.port.notices <+: (raiseMark s).port.notices := by
  unfold raiseMark raiseReasons
  split
  · exact List.prefix_refl _
  · split
    · exact List.prefix_refl _
    · exact offerTagged_notices (ownHold s { s.agr.reasons with mark := true }) false
        (s.setReasons { s.agr.reasons with mark := true })

theorem markAction_notices (offered : Bool) (a : MarkAction) (s : State) :
    s.port.notices <+: (markAction offered a s).port.notices := by
  cases a with
  | notice => exact List.prefix_refl _
  | hold => exact raiseMark_notices s
  | stop =>
    unfold markAction markStop
    dsimp only
    split
    · exact List.prefix_refl _
    · exact offerTagged_notices _ _ s

/-- MARK_FIRED is the next notice, and those of the action stand behind it. -/
theorem fireMark_notices {s : State} (offered : Bool) (n : Nat) (room : s.port.notices.length < 16) :
    s.port.notices ++ [⟨.markFired, n⟩] <+: (fireMark offered n s).port.notices := by
  have grown : (post .markFired n s).port.notices = s.port.notices ++ [⟨.markFired, n⟩] :=
    congrArg Port.notices (post_notices_below _ _ _ room)
  rw [fireMark_port, ← grown]
  exact markAction_notices _ _ _

/-! ## The action HOLD (R58, R180) -/

theorem raiseMark_agr_reasons (s : State) : (raiseMark s).agr = { s.agr with reasons := { s.agr.reasons with mark := true } } := by
  unfold raiseMark raiseReasons
  split
  case isTrue standing => rw [← standing]
  case isFalse =>
    split
    · rfl
    · simp [State.setReasons]

theorem raiseMark_standing {s : State} (standing : s.agr.reasons.any = true) :
    (raiseMark s).bus = s.bus ∧ (raiseMark s).port = s.port := by
  unfold raiseMark raiseReasons
  rw [if_pos standing]
  split <;> exact ⟨rfl, rfl⟩

/-- The reason arises where none stood: a HOLD of the lowest reason, MARK, is offered. -/
theorem raiseMark_first {s : State} (none : s.agr.reasons = ⟨false, false, false⟩) :
    raiseMark s = offerInternal (.hold s.station.holdLease 3) (s.setReasons ⟨false, false, true⟩) := by
  simp [raiseMark, raiseReasons, none, OwnReasons.any, ownHold, OwnReasons.lowest]

theorem offerInternal_port_congr (f : QueuedFrame) {s t : State} (bus : s.bus = t.bus) (port : s.port = t.port) (conf : s.conf = t.conf) :
    (offerInternal f s).port = (offerInternal f t).port := by
  obtain ⟨-, judged⟩ := offer_bus_congr f false bus
  simp only [offerInternal, offerTagged, judged, State.address_of_conf conf]
  split
  · exact post_port_congr _ _ (by simp [port])
  · simp [port]

/-! ## The action STOP (R181) -/

theorem markStop_standing {s : State} (offered : Bool) (standing : s.markStopFlag = true) : markStop offered s = s := by
  simp [markStop, standing]

theorem markStop_first {s : State} (first : s.markStopFlag = false) :
    markStop false s = offerTagged (.anchor false s.posn.rate s.posn.pEdge) true s := by
  simp [markStop, first]

theorem offerTagged_closed {s : State} (closed : s.bus.link.admits = false) (f : QueuedFrame) (m : Bool) : offerTagged f m s = s := by
  simp [offerTagged, offer_closed closed]

theorem markStop_closed {s : State} (offered : Bool) (closed : s.bus.link.admits = false) : markStop offered s = s := by
  unfold markStop
  split
  · rfl
  · exact offerTagged_closed closed _ _

/-- What a fired mark with action STOP leaves, by what the offer does to the state after MARK_FIRED. -/
theorem fireMark_stop {s u : State} {n : Nat} {offered : Bool} (stop : (s.mark n).action = .stop)
    (acted : markStop offered (post .markFired n s) = u) : (fireMark offered n s).bus = u.bus ∧ (fireMark offered n s).port = u.port := by
  rw [fireMark_bus, fireMark_port, stop, ← acted]
  exact ⟨rfl, rfl⟩

theorem post_markStopFlag (k : NoticeKind) (d : Nat) (s : State) : (post k d s).markStopFlag = s.markStopFlag := by
  simp [State.markStopFlag]

theorem post_address (k : NoticeKind) (d : Nat) (s : State) : (post k d s).address = s.address :=
  State.address_of_conf (by simp)

section
variable {s : State} {n : Nat} (stop : (s.mark n).action = .stop) (first : s.markStopFlag = false) (opened : s.bus.link.admits = true)
include stop first opened

theorem fireMark_stop_admitted {q : List TxEntry}
    (admitted : admitTo s.bus.queue (.anchor false s.posn.rate s.posn.pEdge) true = (.admitted, q)) :
    (fireMark false n s).port = (post .markFired n s).port ∧ (fireMark false n s).bus = { s.bus with queue := q } := by
  have bus : (post .markFired n s).bus = s.bus := by simp
  have posn : (post .markFired n s).posn = s.posn := by simp
  obtain ⟨onBus, onPort⟩ := fireMark_stop stop (markStop_first ((post_markStopFlag _ _ s).trans first))
  rw [posn, offerTagged_admitted (by rw [bus]; exact opened) (by rw [bus]; exact admitted)] at onBus onPort
  exact ⟨onPort, onBus.trans (by rw [State.setBus_bus, bus])⟩

theorem fireMark_stop_full (full : 8 ≤ s.bus.queue.length) (none : s.bus.queue.any TxEntry.waitingBeacon = false) :
    (fireMark false n s).bus = s.bus ∧ (fireMark false n s).port = (post .txOverflow s.address (post .markFired n s)).port := by
  have bus : (post .markFired n s).bus = s.bus := by simp
  obtain ⟨onBus, onPort⟩ := fireMark_stop stop (markStop_first ((post_markStopFlag _ _ s).trans first))
  have refused : admitTo s.bus.queue (.anchor false s.posn.rate s.posn.pEdge) true = (.full, s.bus.queue) :=
    admitTo_full _ (by simp [QueuedFrame.kind]) (by simp [QueuedFrame.kind]) full none
  have posn : (post .markFired n s).posn = s.posn := by simp
  rw [posn, offerTagged_full (by rw [bus]; exact opened) (by rw [bus]; exact refused), post_address] at onBus onPort
  exact ⟨onBus.trans (by simp), onPort⟩

end

/-! ## The event (R180) and the judging of a pair (R178, R179) -/

theorem exec_markFired {s : State} {n : Nat} (live : Live s) (low : 1 ≤ n) (high : n ≤ 4) (armed : (s.mark n).armed = true)
    (due : (s.mark n).count = 1) : exec (.markFired n) s = .next (fireMark false n s) := by
  show execMarkFired n s = _
  simp [execMarkFired, live_iff.2 live, markInRange_iff.2 ⟨low, high⟩, armed, due]

theorem Mark.acts_iff {m : Mark} {prev edge : Nat} :
    m.acts prev edge = true ↔ m.armed = true ∧ m.occurs prev edge = true ∧ m.count ≤ 1 := by
  rw [Mark.acts, Bool.and_eq_true, Bool.and_eq_true, decide_eq_true_iff, and_assoc]

theorem Mark.inside_iff {m : Mark} {x : Nat} : m.inside x = true ↔ m.low ≤ x ∧ x ≤ m.high := by
  rw [Mark.inside, Bool.and_eq_true, decide_eq_true_iff, decide_eq_true_iff]

theorem Mark.not_inside_iff {m : Mark} {x : Nat} : (!m.inside x) = true ↔ x < m.low ∨ m.high < x := by
  rw [Bool.not_eq_true', Bool.eq_false_iff, ne_eq, Mark.inside_iff]
  omega

theorem Mark.occurs_iff {m : Mark} {prev edge : Nat} : m.occurs prev edge = true ↔
    (m.condition = .enter ∧ (prev < m.low ∨ m.high < prev) ∧ m.low ≤ edge ∧ edge ≤ m.high) ∨
    (m.condition = .leave ∧ m.low ≤ prev ∧ prev ≤ m.high ∧ (edge < m.low ∨ m.high < edge)) := by
  unfold Mark.occurs
  cases m.condition with
  | enter => simp only [Bool.and_eq_true, Mark.not_inside_iff, Mark.inside_iff]; tauto
  | leave => simp only [Bool.and_eq_true, Mark.not_inside_iff, Mark.inside_iff]; tauto

theorem judgeMark_acts {s : State} {n prev edge : Nat} (offered : Bool) (acts : (s.mark n).acts prev edge = true) :
    judgeMark prev edge offered s n = fireMark offered n s := if_pos acts

theorem judgeMark_counts {s : State} {n prev edge : Nat} (offered : Bool) (armed : (s.mark n).armed = true)
    (occurs : (s.mark n).occurs prev edge = true) (more : 1 < (s.mark n).count) :
    judgeMark prev edge offered s n = s.setMark n { s.mark n with count := (s.mark n).count - 1 } := by
  have waits : ¬ (s.mark n).acts prev edge = true := fun acts => by
    obtain ⟨-, -, last⟩ := Mark.acts_iff.1 acts
    omega
  simp [judgeMark, waits, armed, occurs]

theorem judgeMark_idle {s : State} {n prev edge : Nat} (offered : Bool)
    (idle : (s.mark n).armed = false ∨ (s.mark n).occurs prev edge = false) : judgeMark prev edge offered s n = s := by
  rcases idle with still | none
  · simp [judgeMark, Mark.acts, still]
  · simp [judgeMark, Mark.acts, none]

/-- That a mark has acted with STOP before matters to a STOP alone. -/
theorem judgeMark_offered {s : State} {n : Nat} (prev edge : Nat) (other : (s.mark n).action ≠ .stop) :
    judgeMark prev edge true s n = judgeMark prev edge false s n := by
  have same : fireMark true n s = fireMark false n s := by
    have same : markAction true (s.mark n).action (post .markFired n s) = markAction false (s.mark n).action (post .markFired n s) := by
      cases action : (s.mark n).action with
      | stop => exact absurd action other
      | notice => rfl
      | hold => rfl
    simp only [fireMark, same]
  simp only [judgeMark, same]

theorem stopBefore_iff {s : State} {prev edge n : Nat} (high : n ≤ 4) : stopBefore prev edge s n = true ↔
    ∃ k : Nat, 1 ≤ k ∧ k < n ∧ (s.mark k).armed = true ∧ (s.mark k).occurs prev edge = true ∧ (s.mark k).count ≤ 1 ∧
      (s.mark k).action = .stop := by
  rw [stopBefore, List.any_eq_true]
  constructor
  · rintro ⟨k, mem, acts⟩
    rw [Bool.and_eq_true, Bool.and_eq_true, decide_eq_true_iff, decide_eq_true_iff, Mark.acts_iff] at acts
    obtain ⟨⟨below, armed, occurs, last⟩, stop⟩ := acts
    have low : 1 ≤ k := by
      rcases List.mem_cons.1 mem with rfl | mem
      · exact Nat.le_refl _
      · simp only [List.mem_cons, List.not_mem_nil, or_false] at mem
        omega
    exact ⟨k, low, below, armed, occurs, last, stop⟩
  · rintro ⟨k, low, below, armed, occurs, last, stop⟩
    refine ⟨k, ?_, ?_⟩
    · simp only [List.mem_cons, List.not_mem_nil, or_false]
      omega
    · rw [Bool.and_eq_true, Bool.and_eq_true, decide_eq_true_iff, decide_eq_true_iff, Mark.acts_iff]
      exact ⟨⟨below, armed, occurs, last⟩, stop⟩

theorem stopBefore_first (prev edge : Nat) (s : State) : stopBefore prev edge s 1 = false := by
  rw [Bool.eq_false_iff]
  intro before
  obtain ⟨k, low, below, -⟩ := (stopBefore_iff (by decide)).1 before
  omega

/-- Settles O35: the event by its action, and the judging of a pair mark by mark. -/
theorem markActs : Obligations.MarkActs := by
  refine ⟨fun s n live low high armed due => ⟨_, exec_markFired live low high armed due, ?fired⟩, fun s n idle => ?idle,
    fun m prev edge => Mark.occurs_iff, fun s prev edge => ⟨rfl, ?pair⟩, fun s prev edge n low high => stopBefore_iff high,
    fun s prev edge n offered idle => judgeMark_idle offered idle, fun s prev edge n low high armed occurs => ?judged⟩
  case fired =>
    obtain ⟨self, others⟩ := fireMark_marks (s := s) false low high
    have posted : (post .markFired n s).agr = s.agr := by simp
    refine ⟨fun once => self.trans (Mark.afterActing_once once), fun again => self.trans (Mark.afterActing_repeating again), others,
      fireMark_notices _ _, fun notice => ?_, fun hold => ?_, fun hold none => ?_, fun hold standing => ?_, fun hold none => ?_, ?_,
      fun stop standing => ?_, fun stop closed => ?_, fun stop first opened full => ⟨fun none => fireMark_stop_full stop first opened full none,
        fun before after b queue waits newest => fireMark_stop_admitted stop first opened ?_⟩, fun stop => ?_, fun stop standing => ?_,
      fun stop first opened room => fireMark_stop_admitted stop first opened (admitTo_room _ (by simp [QueuedFrame.kind])
        (by simp [QueuedFrame.kind]) room), by simp⟩
    · rw [fireMark_bus, fireMark_agr_action, notice]
      simp [markAction]
    · rw [fireMark_agr_action, hold, ← posted]
      exact raiseMark_agr_reasons _
    · rw [fireMark_bus, hold]
      show (raiseMark _).bus = _
      rw [raiseMark_first (posted ▸ none), offerInternal_bus, State.station_of_conf (s := s) (by simp)]
      exact (offer_bus_congr _ _ (by simp [State.setReasons])).1
    · rw [fireMark_bus, hold]
      exact (raiseMark_standing (posted ▸ standing)).1.trans (by simp)
    · rw [fireMark_port, hold]
      show (raiseMark _).port = _
      rw [raiseMark_first (posted ▸ none), State.station_of_conf (s := s) (by simp)]
      exact offerInternal_port_congr _ rfl rfl rfl
    · rintro (notice | ⟨hold, standing⟩)
      · rw [fireMark_port, notice]
        rfl
      · rw [fireMark_port, hold]
        exact (raiseMark_standing (posted ▸ standing)).2
    · exact (fireMark_stop stop (markStop_standing _ ((post_markStopFlag _ _ s).trans standing))).2
    · obtain ⟨bus, port⟩ := fireMark_stop stop (markStop_closed false (s := post .markFired n s) (by simpa using closed))
      exact ⟨bus.trans (by simp), port⟩
    · rw [queue] at full ⊢
      exact admitTo_displaces _ (by simp [QueuedFrame.kind]) (by simp [QueuedFrame.kind]) full waits newest
    · rw [fireMark_agr_action, stop]
      show (markStop _ _).agr = _
      simp
    · exact (fireMark_stop stop (markStop_standing _ ((post_markStopFlag _ _ s).trans standing))).1.trans (by simp)
  case idle =>
    show execMarkFired n s = _
    rcases idle with still | other
    · simp [execMarkFired, still]
    · simp [execMarkFired, other]
  case pair => rw [judgeMarks, List.foldl_cons, stopBefore_first]; rfl
  case judged =>
    refine ⟨fun more offered => ⟨(s.setMark n { s.mark n with count := (s.mark n).count - 1 }).marks, ?_, ?_, ?_⟩,
      fun live due => ?_, judgeMark_offered prev edge, fun stop last => ⟨(s.setMark n (s.mark n).afterActing).marks, ?_, ?_, ?_, ?_⟩⟩
    · rw [judgeMark_counts offered armed occurs more, State.setMarks_marks_setMark]
    · rw [State.setMarks_marks_setMark]
      exact State.mark_setMark_self _ _ _ low high
    · rw [State.setMarks_marks_setMark]
      exact fun k other => State.mark_setMark_ne _ _ _ _ other
    · rw [exec_markFired live low high armed due, judgeMark_acts false (Mark.acts_iff.2 ⟨armed, occurs, by omega⟩)]
    · rw [judgeMark_acts true (Mark.acts_iff.2 ⟨armed, occurs, last⟩), fireMark, stop]
      exact State.setMark_eq_setMarks (by simp) low _
    · rw [State.setMarks_marks_setMark]
      exact fun once => (State.mark_setMark_self _ _ _ low high).trans (Mark.afterActing_once once)
    · rw [State.setMarks_marks_setMark]
      exact fun again => (State.mark_setMark_self _ _ _ low high).trans (Mark.afterActing_repeating again)
    · rw [State.setMarks_marks_setMark]
      exact fun k other => State.mark_setMark_ne _ _ _ _ other

end Sys2Proof.Machine

/-! PROOF. The layer under the pass controller: the take in progress with its windows closed (R165, R171), a prepared pass (R104), the answers of the plan unit (R91 to R100); then PLAN RUN, PLAN SKIP and PLAN ABORT. -/

namespace Sys2Proof.Machine

-- One proof after another: under the check's memory limit there is no room for a thread per proof.
set_option Elab.async false

/-! ## The take in progress (R170 to R172) -/

/-- The one record in progress is the newest, and its records before it are closed. -/
structure OpenTake (s : State) (before : List TakeRec) (r : TakeRec) : Prop where
  records : s.log.records = before ++ [r]
  running : r.outcome = .inProgress
  closed : ∀ x ∈ before, x.outcome ≠ .inProgress

theorem OpenTake.inProgress {s : State} {before : List TakeRec} {r : TakeRec} (open_ : OpenTake s before r) :
    s.log.inProgress = some r := by
  rw [TakeLog.inProgress, open_.records, List.find?_append,
    List.find?_eq_none.2 fun x mem => by simpa using open_.closed x mem, Option.none_or,
    List.find?_cons_of_pos (by simpa using open_.running)]

/-- A write reaches the record in progress and no other. -/
theorem OpenTake.writeTake_log {s : State} {before : List TakeRec} {r : TakeRec} (open_ : OpenTake s before r)
    (f : TakeRec → TakeRec) : (writeTake f s).log = ⟨before ++ [f r], s.log.counter⟩ := by
  have others : before.map (fun x => if x.outcome = .inProgress then f x else x) = before :=
    (List.map_congr_left fun x mem => if_neg (open_.closed x mem)).trans (List.map_id before)
  rw [Machine.writeTake_log, open_.records, List.map_append, others, List.map_singleton, if_pos open_.running]

theorem OpenTake.writeTake {s : State} {before : List TakeRec} {r : TakeRec} (open_ : OpenTake s before r)
    {f : TakeRec → TakeRec} (kept : (f r).outcome = r.outcome) : OpenTake (writeTake f s) before (f r) :=
  ⟨by rw [open_.writeTake_log], kept.trans open_.running, open_.closed⟩

theorem OpenTake.congr {s t : State} {before : List TakeRec} {r : TakeRec} (open_ : OpenTake s before r) (log : t.log = s.log) :
    OpenTake t before r := ⟨by rw [log, open_.records], open_.running, open_.closed⟩

theorem OpenTake.currentTake {s : State} {before : List TakeRec} {r : TakeRec} (open_ : OpenTake s before r) :
    currentTake s = r.number := by
  rw [Machine.currentTake, open_.inProgress]
  rfl

/-! ## The onset windows closed (R165) -/

/-- NO_ONSET on the entries of the cues of a list that no onset credits. -/
def flagMissed (ws : List Nat) (cues : List TakeCue) : List TakeCue := cues.map fun c =>
  if c.cue ∈ ws ∧ (∀ x ∈ cues, x.cue = c.cue → x.onset = none) then { c with noOnset := true } else c

theorem flagMissed_congr {ws vs : List Nat} (same : ∀ x, x ∈ ws ↔ x ∈ vs) (cues : List TakeCue) :
    flagMissed ws cues = flagMissed vs cues := by
  unfold flagMissed
  refine List.map_congr_left fun c _ => ?_
  simp only [same]

theorem flagMissed_nil (cues : List TakeCue) : flagMissed [] cues = cues := by
  simp [flagMissed]

/-- One entry flagged, where its cue is of the list and no entry of its cue has an onset. -/
def flagMissedOne (ws : List Nat) (cues : List TakeCue) (c : TakeCue) : TakeCue :=
  if c.cue ∈ ws ∧ (∀ x ∈ cues, x.cue = c.cue → x.onset = none) then { c with noOnset := true } else c

theorem flagMissed_eq (ws : List Nat) (cues : List TakeCue) : flagMissed ws cues = cues.map (flagMissedOne ws cues) := rfl

theorem flagMissedOne_kept (ws : List Nat) (cues : List TakeCue) (c : TakeCue) :
    (flagMissedOne ws cues c).cue = c.cue ∧ (flagMissedOne ws cues c).onset = c.onset := by
  unfold flagMissedOne
  split <;> exact ⟨rfl, rfl⟩

/-- Flagging changes neither a cue nor an onset, so two lists flagged in turn are one. -/
theorem flagMissed_append (ws vs : List Nat) (cues : List TakeCue) :
    flagMissed vs (flagMissed ws cues) = flagMissed (ws ++ vs) cues := by
  have kept : ∀ n, (∀ x ∈ flagMissed ws cues, x.cue = n → x.onset = none) ↔ ∀ x ∈ cues, x.cue = n → x.onset = none := by
    intro n
    simp only [flagMissed_eq, List.forall_mem_map, flagMissedOne_kept]
  rw [flagMissed_eq vs, flagMissed_eq ws, flagMissed_eq (ws ++ vs), List.map_map]
  refine List.map_congr_left fun c mem => ?_
  rw [← flagMissed_eq]
  simp only [Function.comp, flagMissedOne.eq_def vs, kept, (flagMissedOne_kept ws cues c).1]
  unfold flagMissedOne
  by_cases missed : ∀ x ∈ cues, x.cue = c.cue → x.onset = none
  · have all := iff_true_intro missed
    by_cases first : c.cue ∈ ws <;> by_cases second : c.cue ∈ vs <;> simp [all, first, second]
  · have none := iff_false_intro missed
    simp only [none, and_false, if_false]

theorem credited_iff {s : State} {before : List TakeRec} {r : TakeRec} (open_ : OpenTake s before r) (cue : Nat) :
    credited s cue = false ↔ ∀ x ∈ r.cues, x.cue = cue → x.onset = none := by
  rw [credited, open_.inProgress]
  simp

theorem closeWindow_openWindows (cue : Nat) (s : State) :
    (closeWindow cue s).onset.openWindows = s.onset.openWindows.filter (· != cue) := by
  unfold closeWindow
  split
  case isTrue =>
    have settled : ∀ u : OnsetUnit, (settleDetector u).openWindows = u.openWindows := fun u => by
      unfold settleDetector
      split <;> rfl
    dsimp only
    split
    · exact settled _
    · simp [settled]
  case isFalse shut =>
    rw [List.filter_eq_self.2]
    intro x mem
    have other : x ≠ cue := by
      rintro rfl
      exact shut (by simpa using mem)
    simpa using other

/-- Closing one window flags its cue where that was open and no onset credits it. -/
theorem OpenTake.closeWindow {s : State} {before : List TakeRec} {r : TakeRec} (open_ : OpenTake s before r) (cue : Nat) :
    OpenTake (closeWindow cue s) before { r with cues := flagMissed (if cue ∈ s.onset.openWindows then [cue] else []) r.cues } ∧
      (closeWindow cue s).log.counter = s.log.counter := by
  unfold Machine.closeWindow
  by_cases stands : cue ∈ s.onset.openWindows
  · rw [if_pos (by simpa using stands), if_pos stands]
    have flagged : flagMissed [cue] r.cues =
        if credited s cue then r.cues else r.cues.map fun c => if c.cue = cue then { c with noOnset := true } else c := by
      unfold flagMissed
      split
      case isTrue credit =>
        refine (List.map_congr_left fun c _ => if_neg fun ⟨here, missed⟩ => ?_).trans (List.map_id _)
        rw [List.mem_singleton] at here
        rw [(credited_iff open_ cue).2 (here ▸ missed)] at credit
        cases credit
      case isFalse credit =>
        have missed := (credited_iff open_ cue).1 (Bool.eq_false_iff.2 credit)
        refine List.map_congr_left fun c _ => ?_
        by_cases here : c.cue = cue
        · rw [if_pos ⟨by simp [here], here ▸ missed⟩, if_pos here]
        · rw [if_neg fun both => here (by simpa using both.1), if_neg here]
    dsimp only
    rw [flagged]
    split
    · exact ⟨open_.congr rfl, rfl⟩
    · have moved : OpenTake (s.setOnset (settleDetector { s.onset with
        openWindows := s.onset.openWindows.filter (· != cue) })) before r := open_.congr rfl
      exact ⟨moved.writeTake rfl, rfl⟩
  · rw [if_neg (by simpa using stands), if_neg stands, flagMissed_nil]
    exact ⟨open_, rfl⟩

theorem OpenTake.closeEach {s : State} {before : List TakeRec} {r : TakeRec} (open_ : OpenTake s before r) (ws : List Nat) :
    OpenTake (ws.foldl (fun t c => Machine.closeWindow c t) s) before
        { r with cues := flagMissed (ws.filter fun w => s.onset.openWindows.contains w) r.cues } ∧
      (ws.foldl (fun t c => Machine.closeWindow c t) s).log.counter = s.log.counter := by
  induction ws generalizing s r with
  | nil => exact ⟨by simpa [flagMissed_nil] using open_, rfl⟩
  | cons w rest ih =>
    obtain ⟨first, counter⟩ := open_.closeWindow w
    obtain ⟨last, kept⟩ := ih first
    refine ⟨?_, kept.trans counter⟩
    rw [List.foldl_cons]
    convert last using 2
    rw [flagMissed_append, closeWindow_openWindows]
    refine flagMissed_congr (fun x => ?_) _
    by_cases here : x = w
    · subst here
      by_cases stands : x ∈ s.onset.openWindows <;> simp [stands]
    · by_cases stands : w ∈ s.onset.openWindows <;> simp [stands, here]

theorem closeEach_openWindows (ws : List Nat) (s : State) : (ws.foldl (fun t c => closeWindow c t) s).onset.openWindows =
    s.onset.openWindows.filter fun x => !ws.contains x := by
  induction ws generalizing s with
  | nil => simp
  | cons w rest ih =>
    rw [List.foldl_cons, ih, closeWindow_openWindows, List.filter_filter]
    refine List.filter_congr fun x _ => ?_
    by_cases here : x = w <;> simp [here]

theorem closeWindows_openWindows (s : State) : (closeWindows s).onset.openWindows = [] := by
  rw [closeWindows, closeEach_openWindows, List.filter_eq_nil_iff]
  intro x mem
  simpa using mem

theorem closeWindows_of_shut {s : State} (shut : s.onset.openWindows = []) : closeWindows s = s := by
  rw [closeWindows, shut]
  rfl

/-- A take closed with its windows: NO_ONSET stands on every cue whose window was open without an onset (R165, R171). -/
theorem OpenTake.closed_log {s : State} {before : List TakeRec} {r : TakeRec} (open_ : OpenTake s before r) (o : TakeOutcome) :
    (closeTake o (closeWindows s)).log = ⟨before ++ [{ r with outcome := o, cues := flagMissed s.onset.openWindows r.cues }],
      s.log.counter⟩ := by
  obtain ⟨last, kept⟩ := open_.closeEach s.onset.openWindows
  rw [closeTake, closeWindows, OpenTake.writeTake_log last, kept,
    flagMissed_congr (vs := s.onset.openWindows) fun x => by simp]

theorem openCount_closed {o : TakeOutcome} (closed : o ≠ .inProgress) (s : State) : (closeTake o s).log.openCount = 0 := by
  rw [openCount_eq, List.count_eq_zero]
  exact inProgress_not_mem_closeTake closed s

/-! ## What a set looks like (R104, R126) -/

/-- A cue but for its pin. -/
def CueRec.unpin (c : CueRec) : CueRec := { c with pinned := false }

/-- Two states give a set the same window and the same events: they agree in configuration, cues but for the pins, and advances. -/
structure SetView (s u : State) : Prop where
  conf : u.conf = s.conf
  cues : ∀ id, (findCue u.cues id).map CueRec.unpin = (findCue s.cues id).map CueRec.unpin
  advances : u.sched.advanceOf = s.sched.advanceOf

theorem SetView.refl (s : State) : SetView s s := ⟨rfl, fun _ => rfl, rfl⟩

theorem SetView.trans {s u v : State} (su : SetView s u) (uv : SetView u v) : SetView s v :=
  ⟨uv.conf.trans su.conf, fun id => (uv.cues id).trans (su.cues id), uv.advances.trans su.advances⟩

theorem SetView.of_cues {s u : State} (conf : u.conf = s.conf) (cues : u.cues = s.cues)
    (advances : u.sched.advanceOf = s.sched.advanceOf) : SetView s u := ⟨conf, fun id => by rw [cues], advances⟩

theorem SetView.pinSet (ids : List Nat) (s : State) : SetView s (pinSet ids s) := by
  refine ⟨rfl, fun id => ?_, rfl⟩
  simp only [Machine.pinSet, State.setCues_cues, findCue]
  induction s.cues with
  | nil => rfl
  | cons c rest ih =>
    simp only [List.map_cons, List.find?_cons]
    split
    · rfl
    · exact ih

theorem setRecords_map {α : Type} (f : CueRec → α) (s : State) (set : List Nat) :
    (setRecords s set).map f = set.filterMap fun id => (findCue s.cues id).map f := by
  rw [setRecords, List.map_filterMap]

theorem SetView.records {α : Type} {s u : State} (view : SetView s u) (set : List Nat) (f : CueRec → α)
    (unpinned : ∀ c, f c.unpin = f c) : (setRecords u set).map f = (setRecords s set).map f := by
  have same : ∀ o : Option CueRec, o.map f = (o.map CueRec.unpin).map f := fun o => by cases o <;> simp [unpinned]
  rw [setRecords_map, setRecords_map]
  congr 1
  funext id
  rw [same, view.cues, ← same]

theorem SetView.windowIn {s u : State} (view : SetView s u) (set : List Nat) : windowIn u set = windowIn s set := by
  have defaults : u.defaults = s.defaults := by rw [State.defaults, view.conf, State.defaults]
  unfold Machine.windowIn
  rw [defaults, view.records set (fun c => c.s - c.prerollR s.defaults * 120) fun _ => rfl]

theorem SetView.windowOut {s u : State} (view : SetView s u) (set : List Nat) : windowOut u set = windowOut s set := by
  have defaults : u.defaults = s.defaults := by rw [State.defaults, view.conf, State.defaults]
  unfold Machine.windowOut
  rw [defaults, State.pMax_of_conf view.conf, view.records set (fun c => min s.pMax (c.e + c.postrollR s.defaults * 120)) fun _ => rfl]

/-- The events of a cue take from the scheduler the advances alone. -/
theorem cueEvents_congr {c c' : Scheduler} (same : c'.advanceOf = c.advanceOf) (d : DefaultsRec) (o : OutputsRec) (pMax order : Nat)
    (cue : CueRec) (mode : PassMode) : cueEvents c' d o pMax order cue mode = cueEvents c d o pMax order cue mode := by
  have made : mkEvent c' = mkEvent c := by
    funext cue order kind pip pos
    rw [mkEvent, same, mkEvent]
  have closing : closingEvent c' = closingEvent c := by
    funext opening kind pos
    rw [closingEvent, made, closingEvent]
  have pairs : pipPair c' o pMax order cue = pipPair c o pMax order cue := by
    funext spacing k
    rw [pipPair, made, closing, pipPair]
  have punches : punchEvents c' d pMax order cue mode = punchEvents c d pMax order cue mode := by
    cases mode <;> simp only [punchEvents, made, closing]
  simp only [cueEvents, streamerEvents, pipEvents, pairs, flashEvents, punches, closing, made]

theorem SetView.heldEvents {s u : State} (view : SetView s u) (h : HeldSet) : heldEvents u h = heldEvents s h := by
  have defaults : u.defaults = s.defaults := by rw [State.defaults, view.conf, State.defaults]
  unfold Machine.heldEvents
  congr 1
  funext ⟨id, order⟩
  rw [defaults, State.outputs_of_conf view.conf, State.pMax_of_conf view.conf]
  have cues := view.cues id
  dsimp only
  cases there : findCue s.cues id with
  | none =>
    rw [there, Option.map_none, Option.map_eq_none_iff] at cues
    rw [cues]
  | some c =>
    rw [there, Option.map_some, Option.map_eq_some_iff] at cues
    obtain ⟨d, found, same⟩ := cues
    have unpinned := fun e : CueRec => cueEvents_pinned s.sched s.defaults s.outputs s.pMax order e false h.mode
    rw [found]
    dsimp only
    rw [cueEvents_congr view.advances, ← unpinned d, ← unpinned c]
    exact congrArg (fun e => cueEvents s.sched s.defaults s.outputs s.pMax order e h.mode) same

/-! ## A prepared pass (R104) -/

/-- The own window record of a preparation. -/
def preparedWindow (s : State) (a : PlanAnswer) : OwnWindow :=
  ⟨labelNow s, a.stepIndex, a.mode, a.set, a.set.headD 0, windowIn s a.set, windowOut s a.set⟩

theorem preparedWindow_congr {s u : State} (view : SetView s u) (agr : u.agr = s.agr) (a : PlanAnswer) :
    preparedWindow u a = preparedWindow s a := by
  rw [preparedWindow, view.windowIn, view.windowOut, labelNow, agr, ← labelNow, preparedWindow]

theorem prepare_pass_eq (a : PlanAnswer) (st : PassState) (s : State) :
    (prepare a st s).pass = { s.pass with state := st, own := some (preparedWindow s a) } := by
  rw [prepare_pass]
  have same : ownWindowOf (pinSet a.set s) a = preparedWindow s a := preparedWindow_congr (.pinSet a.set s) rfl a
  rw [same]

theorem prepare_cues (a : PlanAnswer) (st : PassState) (s : State) :
    (prepare a st s).cues = s.cues.map fun c => { c with pinned := a.set.contains c.id } := by
  simp [prepare, handHeld, pinSet]

/-- The list that a preparation in STANDBY builds while the transport does not roll. -/
def preparedList (s : State) (a : PlanAnswer) : List Event := keptEvents (heldEvents s ⟨a.set, a.mode⟩) [] s.posn.p

/-- A preparation in STANDBY flags the take in progress where the list that it builds holds a late event (R104, R136). -/
theorem prepare_standby_log (a : PlanAnswer) (s : State) : (prepare a .standby s).log =
    if s.agr.transport ≠ .rolling ∧ ∃ e ∈ preparedList s a, e.fire < s.posn.p then (flagLateEvents s).log else s.log := by
  by_cases rolling : s.agr.transport = .rolling
  · rw [if_neg (fun both => both.1 rolling)]
    unfold prepare handHeld
    rw [requestBuild_of_not_armed _ (by simp [armed, pinSet, rolling])]
    rfl
  · have late : (preparedList s a).any (fun e => decide (e.fire < s.posn.p)) = true ↔
        s.agr.transport ≠ .rolling ∧ ∃ e ∈ preparedList s a, e.fire < s.posn.p := by
      simp [rolling]
    unfold preparedList at late
    rw [← heldEvents_pinSet s a.set ⟨a.set, a.mode⟩] at late
    unfold prepare handHeld
    rw [requestBuild_of_armed _ ⟨a.set, a.mode⟩ rfl (by simp [armed, pinSet, rolling, ownWindowOf, labelNow]), build]
    unfold preparedList
    rw [← heldEvents_pinSet s a.set ⟨a.set, a.mode⟩]
    split
    case isTrue found => rw [if_pos (late.1 found)]; rfl
    case isFalse none => rw [if_neg fun both => none (late.2 both)]; rfl

theorem flagLateEvents_idle {s : State} (none : s.log.openCount = 0) : (flagLateEvents s).log = s.log := by
  have closed : ∀ r ∈ s.log.records, r.outcome ≠ .inProgress := fun r mem running => by
    rw [TakeLog.openCount, List.countP_eq_zero] at none
    exact none r mem (decide_eq_true running)
  rw [flagLateEvents, writeTake_of_none _ _ closed]

theorem offerWindow_own {s : State} {w : OwnWindow} (own : s.pass.own = some w) : offerWindow s = offerInternal (windowFrame w) s := by
  simp only [offerWindow, own]

/-- What a preparation in STANDBY and its WINDOW leave, read against a state that gives the set the same window and events. -/
structure PreparedFrom (s u t : State) (a : PlanAnswer) : Prop where
  pass : t.pass = { u.pass with state := .standby, own := some (preparedWindow s a) }
  cues : t.cues = u.cues.map fun c => { c with pinned := a.set.contains c.id }
  sched : t.sched = { u.sched with held := some ⟨a.set, a.mode⟩, fired := [], events :=
    if s.agr.transport = .rolling then [] else preparedList s a }
  plan : t.plan = u.plan
  port : t.port = (offerInternal (windowFrame (preparedWindow s a)) u).port
  bus : t.bus = (offer (windowFrame (preparedWindow s a)) false u).2.bus
  log : t.log = if s.agr.transport ≠ .rolling ∧ ∃ e ∈ preparedList s a, e.fire < s.posn.p then (flagLateEvents u).log else u.log
  rest : t.posn = u.posn ∧ t.ref = u.ref ∧ t.agr = u.agr ∧ t.out = u.out ∧ t.onset = u.onset ∧ t.marks = u.marks ∧
    t.conf = u.conf ∧ t.pending = u.pending ∧ t.resetnLow = u.resetnLow

theorem preparedFrom {s u : State} (view : SetView s u) (agr : u.agr = s.agr) (posn : u.posn = s.posn) (a : PlanAnswer) :
    PreparedFrom s u (offerWindow (prepare a .standby u)) a := by
  have window := preparedWindow_congr view agr a
  have pass := prepare_pass_eq a .standby u
  have offered : offerWindow (prepare a .standby u) = offerInternal (windowFrame (preparedWindow s a)) (prepare a .standby u) :=
    offerWindow_own (by rw [pass, window])
  have list : preparedList u a = preparedList s a := by rw [preparedList, view.heldEvents, posn, preparedList]
  refine ⟨by simp [pass, window], by simp [prepare_cues], ?_, by simp, ?_, ?_, ?_, by simp⟩
  · rw [offered]
    rw [show (offerInternal _ (prepare a .standby u)).sched = (prepare a .standby u).sched from by simp, prepare_standby_sched,
      ← agr, ← list, preparedList]
  · rw [offered]
    exact offerInternal_port_congr _ (by simp) (by simp) (by simp)
  · rw [offered, offerInternal_bus]
    exact (offer_bus_congr _ _ (by simp)).1
  · rw [offered]
    simp only [offerInternal_keeps, prepare_standby_log, list, agr, posn]

/-! ## Answers of the plan unit (R91 to R100) -/

/-- The PLAN_SKIP notices of a search (R91, R93, R96). -/
def skipNotices (r : SearchResult) (s : State) : State := r.skipped.foldl (fun u id => post .planSkip id u) s

theorem skipNotices_setPlan (r : SearchResult) (s : State) (x : PlanUnit) :
    skipNotices r (s.setPlan x) = (skipNotices r s).setPlan x := by
  unfold skipNotices
  generalize r.skipped = ids
  induction ids generalizing s with
  | nil => rfl
  | cons id rest ih => rw [List.foldl_cons, List.foldl_cons, post_setPlan, ih]

theorem skipNotices_plan (r : SearchResult) (s : State) : (skipNotices r s).plan = s.plan :=
  foldl_keeps State.plan (fun u id => post .planSkip id u) (by simp) _ s

theorem skipNotices_cues (r : SearchResult) (s : State) : (skipNotices r s).cues = s.cues :=
  foldl_keeps State.cues (fun u id => post .planSkip id u) (by simp) _ s

/-- A search that finds no set ends the run. -/
theorem searchAnswer_none {s : State} {pos : SearchPos} (none : (s.search pos).found = Option.none) :
    searchAnswer pos s = ((skipNotices (s.search pos) s).setPlan ⟨s.plan.steps, Option.none, 0, []⟩, Option.none) := by
  have taken : takeSearch (s.search pos) s = (skipNotices (s.search pos) s).setPlan ⟨s.plan.steps, Option.none, 0, []⟩ := by
    rw [← skipNotices_plan (s.search pos) s]
    simp only [takeSearch, none, skipNotices]
  simp [searchAnswer, taken]

/-- A search that finds a CUE step answers its set, with all its passes remaining. -/
theorem searchAnswer_some {s : State} {pos : SearchPos} {i first run passes : Nat} {mode : StepMode}
    (found : (s.search pos).found = some i) (step : s.plan.steps[i]? = some (.cue first run passes mode)) :
    searchAnswer pos s = ((skipNotices (s.search pos) s).setPlan ⟨s.plan.steps, some i, passes, (s.search pos).stack⟩,
      some ⟨activeSet s.cues first run, passMode mode passes passes, i⟩) := by
  have taken : takeSearch (s.search pos) s =
      (skipNotices (s.search pos) s).setPlan ⟨s.plan.steps, some i, passes, (s.search pos).stack⟩ := by
    have steps := congrArg PlanUnit.steps (skipNotices_plan (s.search pos) s)
    rw [← steps]
    simp only [takeSearch, found, stepPasses, step, skipNotices]
  simp [searchAnswer, taken, stepAnswer, step, skipNotices_cues]

/-- A search reads of the plan unit the steps and the stack, so what it answers does not depend on the passes remaining. -/
theorem searchAnswer_passes (pos : SearchPos) (s : State) (n : Nat) :
    searchAnswer pos (s.setPlan { s.plan with passesRemaining := n }) = searchAnswer pos s := by
  have same : (s.setPlan { s.plan with passesRemaining := n }).search pos = s.search pos := rfl
  cases found : (s.search pos).found with
  | none =>
    rw [searchAnswer_none (same ▸ found), searchAnswer_none found, same, skipNotices_setPlan]
    rfl
  | some i =>
    obtain ⟨first, run, passes, mode, step, -⟩ := search_found _ _ _ found
    have planned := searchAnswer_some (s := s.setPlan { s.plan with passesRemaining := n }) (same ▸ found) step
    rw [planned, searchAnswer_some found step, same, skipNotices_setPlan]
    rfl

/-- An answer of the plan unit writes the plan and posts notices, and touches nothing else. -/
theorem State.eq_of_blocks {s t : State} (conf : t.conf = s.conf) (ref : t.ref = s.ref) (posn : t.posn = s.posn)
    (bus : t.bus = s.bus) (agr : t.agr = s.agr) (cues : t.cues = s.cues) (pass : t.pass = s.pass) (sched : t.sched = s.sched)
    (out : t.out = s.out) (onset : t.onset = s.onset) (log : t.log = s.log) (marks : t.marks = s.marks)
    (resetnLow : t.resetnLow = s.resetnLow) (pending : t.pending = s.pending) : t = (s.setPlan t.plan).setPort t.port := by
  cases t
  simp only at conf ref posn bus agr cues pass sched out onset log marks resetnLow pending
  subst conf ref posn bus agr cues pass sched out onset log marks resetnLow pending
  rfl

theorem planStart_state (s : State) : (planStart s).1 = (s.setPlan (planStart s).1.plan).setPort (planStart s).1.port := by
  apply State.eq_of_blocks <;> simp

theorem planGiveUp_state (s : State) : (planGiveUp s).1 = (s.setPlan (planGiveUp s).1.plan).setPort (planGiveUp s).1.port := by
  apply State.eq_of_blocks <;> simp

end Sys2Proof.Machine

/-! PROOF. PLAN RUN with validation, window and answer (R90 to R95, R104), PLAN SKIP (R100, R118) and PLAN ABORT (R101, R117). -/

namespace Sys2Proof.Machine

-- One proof after another: under the check's memory limit there is no room for a thread per proof.
set_option Elab.async false

/-! ## Validation (R87, R90) -/

/-- The last step of the body of the block at an index (R87). -/
def blockEnd (steps : List PlanStep) (i : Nat) : Option Nat :=
  match steps[i]? with
  | some (.block span _) => some (i + span)
  | _ => none

theorem blockEnd_eq_some {steps : List PlanStep} {i x : Nat} :
    blockEnd steps i = some x ↔ ∃ span repeats, steps[i]? = some (.block span repeats) ∧ x = i + span := by
  unfold blockEnd
  split
  case h_1 span repeats there =>
    constructor
    · rintro ⟨⟩
      exact ⟨span, repeats, there, rfl⟩
    · rintro ⟨span', repeats', same, rfl⟩
      rw [there] at same
      cases same
      rfl
  case h_2 other =>
    constructor
    · nofun
    · rintro ⟨span, repeats, there, -⟩
      exact absurd there (other span repeats)

theorem zipIdx_eq_filterMap {α : Type} (l : List α) :
    l.zipIdx = (List.range l.length).filterMap fun i => l[i]?.map fun x => (x, i) := by
  induction l using List.reverseRecOn with
  | nil => rfl
  | append_singleton l x ih =>
    rw [List.zipIdx_append, ih, List.length_append, List.length_singleton, List.range_succ, List.filterMap_append]
    congr 1
    · refine List.filterMap_congr fun i mem => ?_
      rw [List.getElem?_append_left (List.mem_range.1 mem)]
    · simp

/-- The blocks of a plan, listed by index. -/
theorem planBlocks_eq (steps : List PlanStep) :
    planBlocks steps = (List.range steps.length).filterMap fun i => (blockEnd steps i).map fun x => (i, x) := by
  rw [planBlocks, zipIdx_eq_filterMap, List.filterMap_filterMap]
  refine List.filterMap_congr fun i _ => ?_
  unfold blockEnd
  cases there : steps[i]? with
  | none => rfl
  | some step => cases step <;> rfl

theorem blockEnd_lt {steps : List PlanStep} {i x : Nat} (block : blockEnd steps i = some x) : i < steps.length := by
  obtain ⟨span, repeats, there, -⟩ := blockEnd_eq_some.1 block
  exact (List.getElem?_eq_some_iff.1 there).1

theorem mem_planBlocks {steps : List PlanStep} {b : Nat × Nat} : b ∈ planBlocks steps ↔ blockEnd steps b.1 = some b.2 := by
  rw [planBlocks_eq, List.mem_filterMap]
  constructor
  · rintro ⟨i, -, there⟩
    obtain ⟨x, block, rfl⟩ := Option.map_eq_some_iff.1 there
    exact block
  · intro block
    exact ⟨b.1, List.mem_range.2 (blockEnd_lt block), by rw [block]; rfl⟩

theorem mem_enclosing {steps : List PlanStep} {b : Nat} {o : Nat × Nat} :
    o ∈ enclosing (planBlocks steps) b ↔ blockEnd steps o.1 = some o.2 ∧ o.1 < b ∧ b ≤ o.2 := by
  rw [enclosing, List.mem_filter, mem_planBlocks, Bool.and_eq_true, decide_eq_true_iff, decide_eq_true_iff]

/-- What holds of indices below a bound alone is counted on any range that covers the bound. -/
theorem countP_range_bound {p : Nat → Bool} {n m : Nat} (bound : ∀ i, p i = true → i < n) (covers : n ≤ m) :
    (List.range m).countP p = (List.range n).countP p := by
  obtain ⟨k, rfl⟩ := Nat.exists_eq_add_of_le covers
  have beyond : ((List.range k).map (n + ·)).countP p = 0 := by
    rw [List.countP_eq_zero]
    intro i mem holds
    obtain ⟨j, -, rfl⟩ := List.mem_map.1 mem
    have := bound _ holds
    omega
  rw [List.range_add, List.countP_append, beyond, Nat.add_zero]

/-- The blocks around a step, counted over the steps before it. -/
theorem enclosing_length (steps : List PlanStep) (b : Nat) : (enclosing (planBlocks steps) b).length =
    ((List.range b).filter fun o => (blockEnd steps o).any fun x => decide (b ≤ x)).length := by
  have inside : ∀ o, ((((blockEnd steps o).map fun x => (o, x)).map fun b' => decide (b'.1 < b) && decide (b ≤ b'.2)).getD false) =
      (decide (o < b) && (blockEnd steps o).any fun x => decide (b ≤ x)) := by
    intro o
    cases blockEnd steps o <;> simp
  have plan : ∀ o, (decide (o < b) && (blockEnd steps o).any fun x => decide (b ≤ x)) = true → o < steps.length := by
    intro o holds
    obtain ⟨x, block⟩ : ∃ x, blockEnd steps o = some x := by
      cases block : blockEnd steps o with
      | none => simp [block] at holds
      | some x => exact ⟨x, rfl⟩
    exact blockEnd_lt block
  have before : ∀ o, (decide (o < b) && (blockEnd steps o).any fun x => decide (b ≤ x)) = true → o < b := by
    intro o holds
    exact of_decide_eq_true (Bool.and_eq_true_iff.1 holds).1
  rw [enclosing, ← List.countP_eq_length_filter, planBlocks_eq, List.countP_filterMap]
  simp only [inside]
  rw [← countP_range_bound plan (Nat.le_add_right steps.length b), Nat.add_comm, countP_range_bound before (Nat.le_add_right b _),
    ← List.countP_eq_length_filter]
  refine List.countP_congr fun o mem => ?_
  rw [decide_eq_true (List.mem_range.1 mem), Bool.true_and]

theorem planValid_iff (steps : List PlanStep) : planValid steps = true ↔ steps ≠ [] ∧
    ∀ b span repeats : Nat, steps[b]? = some (.block span repeats) → b + span < steps.length ∧
      (∀ o outer n : Nat, steps[o]? = some (.block outer n) → o < b → b ≤ o + outer → b + span ≤ o + outer) ∧
      (enclosing (planBlocks steps) b).length ≤ 3 := by
  rw [planValid, Bool.and_eq_true, List.all_eq_true, Bool.not_eq_true', List.isEmpty_eq_false_iff]
  refine and_congr_right fun _ => ⟨fun all b span repeats there => ?_, fun all b mem => ?_⟩
  · have block := all (b, b + span) (mem_planBlocks.2 (blockEnd_eq_some.2 ⟨span, repeats, there, rfl⟩))
    simp only [Bool.and_eq_true, decide_eq_true_eq, List.all_eq_true] at block
    obtain ⟨⟨ends, within_⟩, depth⟩ := block
    exact ⟨ends, fun o outer n outerBlock before inside =>
      within_ (o, o + outer) (mem_enclosing.2 ⟨blockEnd_eq_some.2 ⟨outer, n, outerBlock, rfl⟩, before, inside⟩), depth⟩
  · obtain ⟨span, repeats, there, last⟩ := blockEnd_eq_some.1 (mem_planBlocks.1 mem)
    obtain ⟨ends, within_, depth⟩ := all b.1 span repeats there
    simp only [Bool.and_eq_true, decide_eq_true_eq, List.all_eq_true]
    refine ⟨⟨last ▸ ends, fun o memO => ?_⟩, depth⟩
    obtain ⟨block, before, inside⟩ := mem_enclosing.1 memO
    obtain ⟨outer, n, thereO, lastO⟩ := blockEnd_eq_some.1 block
    rw [last, lastO]
    exact within_ o.1 outer n thereO before (lastO ▸ inside)

/-! ## The window of a set (R104) -/

theorem mem_setRecords {s : State} {set : List Nat} {c : CueRec} : c ∈ setRecords s set ↔ ∃ id ∈ set, findCue s.cues id = some c :=
  List.mem_filterMap

theorem windowIn_le {s : State} {set : List Nat} {c : CueRec} (mem : c ∈ setRecords s set) :
    windowIn s set ≤ c.s - c.prerollR s.defaults * 120 := by
  have here : c.s - c.prerollR s.defaults * 120 ∈ (setRecords s set).map fun c => c.s - c.prerollR s.defaults * 120 :=
    List.mem_map_of_mem mem
  unfold windowIn
  split
  case h_1 none =>
    rw [none] at here
    cases here
  case h_2 x rest listed =>
    rw [listed] at here
    obtain ⟨first, others⟩ := foldl_min_le rest x
    rcases List.mem_cons.1 here with same | mem
    · rw [same]
      exact first
    · exact others _ mem

theorem windowIn_mem {s : State} {set : List Nat} {c : CueRec} (mem : c ∈ setRecords s set) :
    ∃ d ∈ setRecords s set, windowIn s set = d.s - d.prerollR s.defaults * 120 := by
  have reached : windowIn s set ∈ (setRecords s set).map fun c => c.s - c.prerollR s.defaults * 120 := by
    unfold windowIn
    split
    case h_1 none =>
      rw [List.map_eq_nil_iff.1 none] at mem
      cases mem
    case h_2 x rest listed =>
      rw [listed]
      exact foldl_min_mem rest x
  obtain ⟨d, memD, same⟩ := List.mem_map.1 reached
  exact ⟨d, memD, same.symm⟩

theorem foldl_max_ge (l : List Nat) (x : Nat) : x ≤ l.foldl max x ∧ ∀ y ∈ l, y ≤ l.foldl max x := by
  induction l generalizing x with
  | nil => simp
  | cons a rest ih =>
    obtain ⟨first, others⟩ := ih (max x a)
    refine ⟨(Nat.le_max_left _ _).trans first, fun y mem => ?_⟩
    rcases List.mem_cons.1 mem with rfl | mem
    · exact (Nat.le_max_right _ _).trans first
    · exact others y mem

theorem foldl_max_mem (l : List Nat) (x : Nat) : l.foldl max x ∈ x :: l := by
  induction l generalizing x with
  | nil => simp
  | cons a rest ih =>
    rcases List.mem_cons.1 (ih (max x a)) with same | mem
    · rw [List.foldl_cons, same]
      rcases Nat.le_total x a with le | le
      · simp [Nat.max_eq_right le]
      · simp [Nat.max_eq_left le]
    · exact List.mem_cons_of_mem _ (List.mem_cons_of_mem _ mem)

/-- The closing position of one cue of a set. -/
abbrev closesAt (s : State) (c : CueRec) : Nat := min s.pMax (c.e + c.postrollR s.defaults * 120)

theorem windowOut_ge {s : State} {set : List Nat} {c : CueRec} (mem : c ∈ setRecords s set) : closesAt s c ≤ windowOut s set :=
  (foldl_max_ge _ 0).2 _ (List.mem_map_of_mem mem)

theorem windowOut_mem {s : State} {set : List Nat} {c : CueRec} (mem : c ∈ setRecords s set) :
    ∃ d ∈ setRecords s set, windowOut s set = closesAt s d := by
  rcases List.mem_cons.1 (foldl_max_mem ((setRecords s set).map (closesAt s)) 0) with zero | reached
  · have zero : windowOut s set = 0 := zero
    have low := windowOut_ge mem
    exact ⟨c, mem, by omega⟩
  · obtain ⟨d, memD, same⟩ := List.mem_map.1 reached
    exact ⟨d, memD, same.symm⟩

/-! ## PLAN RUN (R91) -/

theorem skipNotices_pass (r : SearchResult) (s : State) : (skipNotices r s).pass = s.pass :=
  foldl_keeps State.pass (fun u id => post .planSkip id u) (by simp) _ s

theorem exec_eq {i : Instr} {c : Command} {s t : State} {r : Option Response} (command : i.command = some c) (ready : PortReady s)
    (body : commandBody c (s.setResponse none) = (t, r)) : exec i s = .next (t.setResponse r) := by
  rw [exec_of_command command, take_of_portReady _ _ ready, body]

/-- A WINDOW goes out, and the answer names the pass prepared; the rest is what the preparation leaves. -/
theorem PreparedFrom.log_kept {s u t : State} {a : PlanAnswer} (prepared : PreparedFrom s u t a) :
    (u.log.openCount = 0 → t.log = u.log) ∧
    ((s.agr.transport = .rolling ∨ ∀ e ∈ preparedList s a, s.posn.p ≤ e.fire) → t.log = u.log) ∧
    (s.agr.transport ≠ .rolling → (∃ e ∈ preparedList s a, e.fire < s.posn.p) → t.log = (flagLateEvents u).log) := by
  rw [prepared.log]
  refine ⟨fun none => ?_, fun quiet => if_neg ?_, fun rest late => if_pos ⟨rest, late⟩⟩
  · rw [flagLateEvents_idle none, ite_self]
  · rintro ⟨rest, e, mem, late⟩
    rcases quiet with rolling | inTime
    · exact rest rolling
    · exact absurd (inTime e mem) (by omega)

theorem planStart_none {s : State} {r : SearchResult} (searched : search s.plan.steps s.cues 4096 [] (.enter 0) = r)
    (none : r.found = Option.none) :
    planStart s = ((skipNotices r s).setPlan ⟨s.plan.steps, Option.none, 0, []⟩, Option.none) := by
  have found : (s.setPlan { s.plan with stack := [] }).search (.enter 0) = r := searched
  rw [planStart, searchAnswer_none (found ▸ none), found, skipNotices_setPlan]
  rfl

theorem planStart_some {s : State} {r : SearchResult} {i first run passes : Nat} {mode : StepMode}
    (searched : search s.plan.steps s.cues 4096 [] (.enter 0) = r) (found : r.found = some i)
    (step : s.plan.steps[i]? = some (.cue first run passes mode)) :
    planStart s = ((skipNotices r s).setPlan ⟨s.plan.steps, some i, passes, r.stack⟩,
      some ⟨activeSet s.cues first run, passMode mode passes passes, i⟩) := by
  have same : (s.setPlan { s.plan with stack := [] }).search (.enter 0) = r := searched
  have planned := searchAnswer_some (s := s.setPlan { s.plan with stack := [] }) (pos := .enter 0) (same ▸ found) step
  rw [planStart, planned, same, skipNotices_setPlan]
  rfl

theorem planRunBody_none {s s1 : State} (running : s.running = true) (idle : s.pass.state = .idle)
    (valid : planValid s.plan.steps = true) (start : planStart s = (s1, none)) : planRunBody s = answerPlain .none s1 := by
  simp [planRunBody, running, idle, valid, start]

theorem planRunBody_some {s s1 : State} {a : PlanAnswer} (running : s.running = true) (idle : s.pass.state = .idle)
    (valid : planValid s.plan.steps = true) (start : planStart s = (s1, some a)) :
    planRunBody s = answer .ok (planSetReply a) (offerWindow (prepare a .standby s1)) := by
  simp [planRunBody, running, idle, valid, start]

/-- Settles O24: the judgement and the preparation, then validation, search, window and answer spelled out. -/
theorem planRunPrepares : Obligations.PlanRunPrepares := by
  refine ⟨fun s stage busy => exec_answered rfl stage.1 ?busy, fun s stage idle invalid => exec_answered rfl stage.1 ?invalid,
    fun s s1 stage idle valid start => ?none, fun s s1 a stage idle valid start => ?some, fun steps => ?valid,
    fun s r searched => ⟨planStart_none searched, fun i first run passes mode found step => planStart_some searched found step⟩,
    fun passes remaining => ⟨rfl, rfl, rfl⟩, fun s => rfl, fun s set => ⟨fun id mem c found => ?bounds, fun present => ?reached⟩,
    fun i m set => by cases m <;> rfl⟩
  case busy =>
    have running : (s.setResponse none).running = true := running_of_onStage stage
    have busy : (s.setResponse none).pass.state ≠ .idle := busy
    simp [commandBody, planRunBody, running, busy, answerPlain]
  case invalid =>
    have running : (s.setResponse none).running = true := running_of_onStage stage
    have idle : (s.setResponse none).pass.state = .idle := idle
    have invalid : planValid (s.setResponse none).plan.steps = false := invalid
    simp only [commandBody, planRunBody, running, idle, invalid, answerPlain]
    rfl
  case none =>
    have body := planRunBody_none (s := s.setResponse none) (running_of_onStage stage) idle valid start
    cases result : (search s.plan.steps s.cues 4096 [] (.enter 0)).found with
    | none =>
      rw [planStart_none (s := s.setResponse none) rfl result, Prod.mk.injEq] at start
      obtain ⟨left, -⟩ := start
      refine ⟨exec_eq rfl stage.1 body, ?_, ?_⟩
      · rw [← left]
        exact skipNotices_pass _ _
      · rw [← left]
        rfl
    | some i =>
      obtain ⟨first, run, passes, mode, step, -⟩ := search_found _ _ _ result
      rw [planStart_some (s := s.setResponse none) rfl result step] at start
      cases start
  case some =>
    have body := planRunBody_some (s := s.setResponse none) (running_of_onStage stage) idle valid start
    have state := planStart_state (s.setResponse none)
    rw [start] at state
    dsimp only at state
    have prepared := preparedFrom (s := s) (u := s1) (.of_cues (by rw [state]; rfl) (by rw [state]; rfl) (by rw [state]; rfl))
      (by rw [state]; rfl) (by rw [state]; rfl) a
    have log := prepared.log_kept
    have bus := (offer_bus_congr (windowFrame (preparedWindow s a)) false (s := s1) (t := s) (by rw [state]; rfl)).1
    rw [show s1.log = s.log from by rw [state]; rfl, show (flagLateEvents s1).log = (flagLateEvents s).log from by rw [state]; rfl] at log
    refine ⟨_, exec_eq rfl stage.1 body, prepared.pass.trans (by rw [state]; rfl), prepared.cues.trans (by rw [state]; rfl),
      prepared.sched.trans (by rw [state]; rfl), prepared.plan, ?_, prepared.bus.trans bus, ?_⟩
    · exact congrArg (fun p : Port => { p with response := some ⟨.ok, planSetReply a⟩ }) prepared.port
    · obtain ⟨posn, ref, agr, out, onset, marks, conf, pending, resetnLow⟩ := prepared.rest
      exact ⟨posn.trans (by rw [state]; rfl), ref.trans (by rw [state]; rfl), agr.trans (by rw [state]; rfl),
        out.trans (by rw [state]; rfl), onset.trans (by rw [state]; rfl), marks.trans (by rw [state]; rfl),
        conf.trans (by rw [state]; rfl), pending.trans (by rw [state]; rfl), resetnLow.trans (by rw [state]; rfl), log⟩
  case valid =>
    rw [planValid_iff]
    refine and_congr_right fun _ => forall_congr' fun b => forall_congr' fun span => forall_congr' fun repeats =>
      imp_congr_right fun _ => and_congr_right fun _ => and_congr_right fun _ => ?_
    rw [enclosing_length]
    refine iff_of_eq (congrArg (fun l : List Nat => l.length ≤ 3) (List.filter_congr fun o _ => ?_))
    unfold blockEnd
    cases there : steps[o]? with
    | none => rfl
    | some step => cases step <;> rfl
  case bounds =>
    have here : c ∈ setRecords s set := mem_setRecords.2 ⟨id, mem, found⟩
    exact ⟨windowIn_le here, windowOut_ge here⟩
  case reached =>
    obtain ⟨id, mem, isSome⟩ := present
    obtain ⟨c, found⟩ := Option.isSome_iff_exists.1 isSome
    have here : c ∈ setRecords s set := mem_setRecords.2 ⟨id, mem, found⟩
    obtain ⟨d, memD, opens⟩ := windowIn_mem here
    obtain ⟨e, memE, closes⟩ := windowOut_mem here
    obtain ⟨x, memX, foundX⟩ := mem_setRecords.1 memD
    obtain ⟨y, memY, foundY⟩ := mem_setRecords.1 memE
    exact ⟨⟨x, memX, d, foundX, opens⟩, y, memY, e, foundY, closes⟩

end Sys2Proof.Machine

/-! PROOF. PLAN SKIP (R100, R118) and PLAN ABORT (R101, R117). -/

namespace Sys2Proof.Machine

-- One proof after another: under the check's memory limit there is no room for a thread per proof.
set_option Elab.async false

theorem giveUpPass_cues (s : State) : (giveUpPass s).cues = s.cues.map fun c => { c with pinned := false } := by
  simp [giveUpPass, giveUpHeld, clearPins, pinSet]

theorem giveUpPass_sched (s : State) : (giveUpPass s).sched = { s.sched with held := none, events := [], fired := [] } := by
  simp [giveUpPass, giveUpHeld, clearPins, pinSet]

/-! ## PLAN SKIP -/

theorem planGiveUp_of_cursor {s : State} {x : Nat} (cursor : s.plan.cursor = some x) : planGiveUp s = searchAnswer (.leave x) s := by
  rw [planGiveUp, cursor]
  exact searchAnswer_passes _ _ _

/-- The state in which PLAN SKIP prepares the next pass: no cue pinned, the list emptied, the DONE of the pass given up offered (R118). -/
def skipping (label : Nat) (s : State) : State := offerInternal (.done label .abandoned true) (emptyList (clearPins s))

theorem planSkipBody_none {s s1 : State} (running : s.running = true) (standby : s.pass.state = .standby)
    (gives : planGiveUp s = (s1, none)) : planSkipBody s =
      answerPlain .none (post .planEnd 0 (offerInternal (.done (ownLabel s) .abandoned false) (giveUpPass s1))) := by
  simp [planSkipBody, running, standby, gives]

theorem planSkipBody_some {s s1 : State} {a : PlanAnswer} (running : s.running = true) (standby : s.pass.state = .standby)
    (gives : planGiveUp s = (s1, some a)) : planSkipBody s = answer .ok (planSetReply a)
      (offerWindow (prepare a .standby (skipping (ownLabel s) s1))) := by
  simp [planSkipBody, running, standby, gives, skipping]

theorem ownLabel_of_own {s : State} {w : OwnWindow} (own : s.pass.own = some w) : ownLabel s = w.label := by
  rw [ownLabel, own]
  rfl

@[simp] theorem skipping_keeps (label : Nat) (s : State) :
    (skipping label s).conf = s.conf ∧ (skipping label s).ref = s.ref ∧ (skipping label s).posn = s.posn ∧
    (skipping label s).agr = s.agr ∧ (skipping label s).plan = s.plan ∧ (skipping label s).pass = s.pass ∧
    (skipping label s).out = s.out ∧ (skipping label s).onset = s.onset ∧ (skipping label s).log = s.log ∧
    (skipping label s).marks = s.marks ∧ (skipping label s).resetnLow = s.resetnLow ∧ (skipping label s).pending = s.pending ∧
    (skipping label s).cues = s.cues.map (fun c => { c with pinned := false }) ∧
    (skipping label s).sched = { s.sched with events := [], fired := [] } ∧
    (skipping label s).bus = (offer (.done label .abandoned true) false s).2.bus ∧
    (skipping label s).port = (offerInternal (.done label .abandoned true) s).port := by
  have bus := (offer_bus_congr (.done label .abandoned true) false (s := emptyList (clearPins s)) (t := s) (by simp)).1
  have port := offerInternal_port_congr (.done label .abandoned true) (s := emptyList (clearPins s)) (t := s)
    (by simp) (by simp) (by simp)
  simp only [skipping, offerInternal_bus, bus, port]
  simp [clearPins, pinSet, emptyList]

theorem SetView.skipping (label : Nat) (s : State) : SetView s (skipping label s) :=
  (SetView.pinSet [] s).trans (.of_cues (by simp [Machine.pinSet]) (by simp [Machine.pinSet]) (by simp [Machine.pinSet]; rfl))

theorem flagLateEvents_log_congr {s u : State} (same : u.log = s.log) : (flagLateEvents u).log = (flagLateEvents s).log := by
  simp [flagLateEvents, writeTake_log, same]

/-- Settles O25: the judgement, the end of the run and the next pass, then the search from the present step. -/
theorem planSkipPrepares : Obligations.PlanSkipPrepares := by
  refine ⟨fun s stage other => exec_answered rfl stage.1 ?other, fun s s1 w stage standby own gives => ?ends,
    fun s s1 w a stage standby own gives => ?next, fun s cursor => by rw [planGiveUp, cursor], fun s x r cursor searched => ?search⟩
  case other =>
    have running : (s.setResponse none).running = true := running_of_onStage stage
    have other : (s.setResponse none).pass.state ≠ .standby := other
    simp [commandBody, planSkipBody, running, other, answerPlain]
  case ends =>
    have body := planSkipBody_none (s := s.setResponse none) (running_of_onStage stage) standby gives
    have state := planGiveUp_state (s.setResponse none)
    rw [gives] at state
    dsimp only at state
    generalize s1.plan = plan, s1.port = port at state
    subst state
    rw [ownLabel_of_own (s := s.setResponse none) own] at body
    have offered : (offerInternal (.done w.label .abandoned false)
        (giveUpPass (((s.setResponse none).setPlan plan).setPort port))).port =
        (offerInternal (.done w.label .abandoned false) (((s.setResponse none).setPlan plan).setPort port)).port :=
      offerInternal_port_congr _ (by simp) (by simp) (by simp)
    have bus := (offer_bus_congr (.done w.label .abandoned false) false (t := s)
      (s := giveUpPass (((s.setResponse none).setPlan plan).setPort port)) (by simp [State.setResponse])).1
    refine ⟨_, exec_eq rfl stage.1 body, ?_⟩
    simp only [State.setResponse] at offered bus ⊢
    simp [bus, giveUpPass_pass, giveUpPass_cues, giveUpPass_sched, post_port_congr _ _ offered]
  case next =>
    have body := planSkipBody_some (s := s.setResponse none) (running_of_onStage stage) standby gives
    have state : s1 = (s.setPlan s1.plan).setPort s1.port := by
      have written := planGiveUp_state (s.setResponse none)
      rwa [gives] at written
    generalize s1.plan = plan, s1.port = port at state
    subst state
    rw [ownLabel_of_own (s := s.setResponse none) own] at body
    have moved : SetView s (skipping w.label ((s.setPlan plan).setPort port)) :=
      .trans (u := (s.setPlan plan).setPort port) (.of_cues rfl rfl rfl) (.skipping w.label _)
    have prepared := preparedFrom moved (by simp) (by simp) a
    generalize offerWindow (prepare a .standby (skipping w.label ((s.setPlan plan).setPort port))) = t at body prepared
    have log := prepared.log_kept
    rw [flagLateEvents_log_congr (u := skipping w.label ((s.setPlan plan).setPort port)) (s := s) (by simp)] at log
    have done := (offer_bus_congr (.done w.label .abandoned true) false (s := (s.setPlan plan).setPort port) (t := s) (by simp)).1
    have bus := (offer_bus_congr (windowFrame (preparedWindow s a)) false
      (s := skipping w.label ((s.setPlan plan).setPort port)) (t := (offer (.done w.label .abandoned true) false s).2)
      (by simp [done])).1
    have notices := offerInternal_port_congr (windowFrame (preparedWindow s a))
      (s := skipping w.label ((s.setPlan plan).setPort port))
      (t := offerInternal (.done w.label .abandoned true) ((s.setPlan plan).setPort port)) (by simp) (by simp) (by simp)
    obtain ⟨posn, ref, agr, out, onset, marks, conf, pending, resetnLow⟩ := prepared.rest
    rw [show (skipping w.label ((s.setPlan plan).setPort port)).log = s.log by simp] at log
    refine ⟨_, exec_eq rfl stage.1 body, prepared.pass.trans (by simp [preparedWindow]),
      prepared.cues.trans (by simp [List.map_map, Function.comp]), prepared.sched.trans (by simp [preparedList]),
      prepared.plan.trans (by simp), ?_, prepared.bus.trans bus, posn.trans (by simp), agr.trans (by simp),
      out.trans (by simp), ref.trans (by simp), conf.trans (by simp), marks.trans (by simp), onset.trans (by simp),
      pending.trans (by simp), resetnLow.trans (by simp), log⟩
    exact congrArg (fun p : Port => { p with response := some ⟨.ok, planSetReply a⟩ }) (prepared.port.trans notices)
  case search =>
    rw [planGiveUp_of_cursor cursor]
    constructor
    · intro none
      rw [searchAnswer_none (searched ▸ none), searched]
      rfl
    · intro i first run passes mode found step
      rw [searchAnswer_some (searched ▸ found) step, searched]
      rfl

/-! ## PLAN ABORT -/

theorem setResponse_keeps (r : Option Response) (s : State) : (s.setResponse r).conf = s.conf ∧ (s.setResponse r).ref = s.ref ∧
    (s.setResponse r).posn = s.posn ∧ (s.setResponse r).bus = s.bus ∧ (s.setResponse r).agr = s.agr ∧
    (s.setResponse r).cues = s.cues ∧ (s.setResponse r).plan = s.plan ∧ (s.setResponse r).pass = s.pass ∧
    (s.setResponse r).sched = s.sched ∧ (s.setResponse r).out = s.out ∧ (s.setResponse r).onset = s.onset ∧
    (s.setResponse r).log = s.log ∧ (s.setResponse r).marks = s.marks ∧ (s.setResponse r).port.notices = s.port.notices := by
  simp [State.setResponse]

@[simp] theorem planEndRun_keeps (s : State) : (planEndRun s).conf = s.conf ∧ (planEndRun s).ref = s.ref ∧
    (planEndRun s).posn = s.posn ∧ (planEndRun s).bus = s.bus ∧ (planEndRun s).agr = s.agr ∧ (planEndRun s).cues = s.cues ∧
    (planEndRun s).pass = s.pass ∧ (planEndRun s).sched = s.sched ∧ (planEndRun s).out = s.out ∧ (planEndRun s).onset = s.onset ∧
    (planEndRun s).log = s.log ∧ (planEndRun s).marks = s.marks ∧ (planEndRun s).port = s.port := by
  simp [planEndRun]

theorem abortByState_idle {s : State} (busy : s.pass.state ≠ .idle) :
    (abortByState s).pass = { s.pass with state := .idle, outcome := none, own := none } := by
  unfold abortByState
  split
  case h_5 idle => exact absurd idle busy
  all_goals simp [giveUpPass_pass, abortPass]

theorem abortByState_kept (s : State) : (abortByState s).plan = s.plan ∧ (abortByState s).agr = s.agr ∧ (abortByState s).posn = s.posn ∧
    (abortByState s).ref = s.ref ∧ (abortByState s).conf = s.conf ∧ (abortByState s).marks = s.marks := by
  unfold abortByState
  split <;> simp [abortPass]

theorem abortByState_waiting {s : State} (waits : s.pass.state = .standby ∨ (s.pass.state = .cleared ∧ s.pass.outcome = some .more)) :
    abortByState s = offerInternal (.done (ownLabel s) .abandoned false) (giveUpPass s) := by
  rcases waits with standby | ⟨cleared, more⟩
  · simp [abortByState, standby]
  · simp [abortByState, cleared, more]

theorem abortByState_inPass {s : State} (inPass : s.pass.state = .inPass) :
    abortByState s = offerInternal (.done s.agr.passNumber .abandoned false) (giveUpPass (abortPass s)) := by
  simp [abortByState, inPass]

theorem abortByState_over {s : State} (cleared : s.pass.state = .cleared) (none : s.pass.outcome = some .none) :
    abortByState s = s.setPass { s.pass with state := .idle, outcome := Option.none, own := Option.none } := by
  simp [abortByState, cleared, none]

theorem offerInternal_notices (f : QueuedFrame) (s : State) : s.port.notices <+: (offerInternal f s).port.notices :=
  offerTagged_notices f false s

/-- The take that PLAN ABORT closes, and its notice (R116, R171). -/
theorem OpenTake.abortPass {s : State} {before : List TakeRec} {r : TakeRec} (open_ : OpenTake s before r) :
    (abortPass s).log = ⟨before ++ [{ r with outcome := .abandoned, cues := flagMissed s.onset.openWindows r.cues }],
      s.log.counter⟩ ∧
    (s.port.notices.length < 16 → (Machine.abortPass s).port.notices = s.port.notices ++ [⟨.passAbandoned, r.number⟩]) := by
  refine ⟨?_, fun room => ?_⟩
  · rw [Machine.abortPass, ← open_.closed_log]
    simp
  · have below : (closeTake .abandoned (closeWindows s)).port.notices.length < 16 := by simpa using room
    have posted := congrArg Port.notices (post_notices_below .passAbandoned (Machine.currentTake s) _ below)
    simpa [Machine.abortPass, open_.currentTake] using posted

theorem abortPass_rests (s : State) : (abortPass s).out = restOutputs s.out ∧ (abortPass s).onset.openWindows = [] ∧
    (abortPass s).log.openCount = 0 := by
  refine ⟨by simp [abortPass, forceToRest], ?_, ?_⟩
  · rw [show (abortPass s).onset = (closeWindows s).onset by simp [abortPass], closeWindows_openWindows]
  · rw [show (abortPass s).log = (closeTake .abandoned (closeWindows s)).log by simp [abortPass], openCount_closed (by decide)]

theorem planAbortBody_ends {s : State} (running : s.running = true) (busy : s.pass.state ≠ .idle) :
    planAbortBody s = answerPlain .ok (abortByState (planEndRun s)) := by
  simp [planAbortBody, running, busy]

/-- PLAN ABORT outside IDLE, written by the state that the pass controller leaves. -/
theorem exec_planAbort {s : State} (stage : OnStage s) (busy : s.pass.state ≠ .idle) :
    exec .planAbort s = .next ((abortByState (planEndRun (s.setResponse none))).setResponse (some ⟨.ok, .empty⟩)) :=
  exec_eq rfl stage.1 (planAbortBody_ends (s := s.setResponse none) (running_of_onStage stage) busy)

/-- Settles O26: by the pass state in which the run is ended. -/
theorem planAbortEndsRun : Obligations.PlanAbortEndsRun := by
  refine ⟨fun s stage idle => exec_answered rfl stage.1 ?idle, fun s stage busy => ⟨_, exec_planAbort stage busy, ?ends⟩,
    fun s w stage own waits => ⟨_, exec_planAbort stage ?busy, ?waits⟩,
    fun s stage inPass => ⟨_, exec_planAbort stage (by simp [inPass]), ?inPass⟩,
    fun s stage cleared quiet => ⟨_, exec_planAbort stage (by simp [cleared]), ?noOffer⟩⟩
  case idle =>
    have running : (s.setResponse none).running = true := running_of_onStage stage
    have idle : (s.setResponse none).pass.state = .idle := idle
    simp [commandBody, planAbortBody, running, idle, answerPlain]
  case ends =>
    obtain ⟨plan, agr, posn, ref, conf, marks⟩ := abortByState_kept (planEndRun (s.setResponse none))
    exact ⟨plan, abortByState_idle (s := planEndRun (s.setResponse none)) busy, rfl, agr, posn, ref, conf, marks⟩
  case busy => rcases waits with standby | ⟨cleared, -⟩ <;> simp [*]
  case waits =>
    rw [abortByState_waiting (s := planEndRun (s.setResponse none)) waits,
      ownLabel_of_own (s := planEndRun (s.setResponse none)) own]
    have bus := (offer_bus_congr (.done w.label .abandoned false) false
      (s := giveUpPass (planEndRun (s.setResponse none))) (t := s) (by simp [setResponse_keeps])).1
    simp [setResponse_keeps, bus, giveUpPass_cues, giveUpPass_sched]
  case inPass =>
    rw [abortByState_inPass (s := planEndRun (s.setResponse none)) inPass]
    have bus := (offer_bus_congr (.done s.agr.passNumber .abandoned false) false
      (s := giveUpPass (abortPass (planEndRun (s.setResponse none)))) (t := s) (by simp [abortPass, setResponse_keeps])).1
    obtain ⟨out, openWindows, openCount⟩ := abortPass_rests (planEndRun (s.setResponse none))
    simp only [planEndRun_keeps, setResponse_keeps] at out
    refine ⟨by simp [setResponse_keeps, bus], by simp [setResponse_keeps, giveUpPass_cues, abortPass],
      by simp [setResponse_keeps, giveUpPass_sched], by simp [setResponse_keeps, giveUpPass_sched],
      by simpa [setResponse_keeps] using openCount, by simpa [setResponse_keeps] using out,
      by simpa [setResponse_keeps] using openWindows, fun before r records running closed => ?_⟩
    have open_ : OpenTake (planEndRun (s.setResponse none)) before r := ⟨records, running, closed⟩
    obtain ⟨log, notices⟩ := open_.abortPass
    refine ⟨by simpa [setResponse_keeps, flagMissed] using log, fun room => ?_⟩
    have waits := offerInternal_notices (.done s.agr.passNumber .abandoned false)
      (giveUpPass (abortPass (planEndRun (s.setResponse none))))
    rw [show (giveUpPass (abortPass (planEndRun (s.setResponse none)))).port = (abortPass (planEndRun (s.setResponse none))).port
      by simp, notices room] at waits
    simpa [setResponse_keeps] using waits
  case noOffer =>
    rw [abortByState_over (s := planEndRun (s.setResponse none)) cleared quiet]
    exact ⟨rfl, rfl, rfl⟩

end Sys2Proof.Machine

/-! PROOF. The roll entry (R110, R111, R169, R173): the begin with its record, its list and its notices, the skip and the station that does not begin. -/

namespace Sys2Proof.Machine

-- One proof after another: under the check's memory limit there is no room for a thread per proof.
set_option Elab.async false

/-! ## LOG_FULL arises (R58, R173) -/

theorem raiseLogFull_standing {s : State} (standing : s.agr.reasons.any = true) :
    (raiseLogFull s).bus = s.bus ∧ (raiseLogFull s).port = s.port := by
  unfold raiseLogFull raiseReasons
  rw [if_pos standing]
  split <;> exact ⟨rfl, rfl⟩

/-- The reason arises where none stood: a HOLD of the lowest reason, LOG_FULL, is offered. -/
theorem raiseLogFull_first {s : State} (none : s.agr.reasons = ⟨false, false, false⟩) :
    raiseLogFull s = offerInternal (.hold s.station.holdLease 2) (s.setReasons ⟨false, true, false⟩) := by
  simp [raiseLogFull, raiseReasons, none, OwnReasons.any, ownHold, OwnReasons.lowest]

theorem OwnReasons.any_of_ne {r : OwnReasons} (some : r ≠ ⟨false, false, false⟩) : r.any = true := by
  obtain ⟨console, logFull, mark⟩ := r
  revert some
  cases console <;> cases logFull <;> cases mark <;> simp [OwnReasons.any]

/-! ## The reservation (R169, R173) -/

theorem reserveTake_log (w : OwnWindow) (s : State) :
    (reserveTake w s).log = ⟨s.log.records ++ [newTake s w], nextTake s.log.counter⟩ := by
  simp only [reserveTake]
  split <;> simp

theorem reserveTake_below {w : OwnWindow} {s : State} (below : s.log.records.length < 15) :
    (reserveTake w s).agr = s.agr ∧ (reserveTake w s).bus = s.bus ∧ (reserveTake w s).port = s.port := by
  simp only [reserveTake]
  rw [if_neg (by simp [Config.takeCapacity]; omega)]
  exact ⟨rfl, rfl, rfl⟩

/-- The record that fills the log. -/
theorem reserveTake_fills {w : OwnWindow} {s : State} (last : s.log.records.length = 15) : reserveTake w s =
    raiseLogFull (s.setLog ⟨s.log.records ++ [newTake s w], nextTake s.log.counter⟩) := by
  simp only [reserveTake]
  rw [if_pos (by simp [last])]

/-! ## The begin (R110, R136) -/

/-- The list of a begin holds an event that fires behind the position. -/
def beginsLate (s : State) : Bool :=
  match s.sched.held with
  | some h => (keptEvents (heldEvents s h) s.sched.fired s.posn.p).any fun e => decide (e.fire < s.posn.p)
  | none => false

theorem beginsLate_held {s : State} {h : HeldSet} (held : s.sched.held = some h) : beginsLate s = true ↔
    ∃ e ∈ keptEvents (heldEvents s h) s.sched.fired s.posn.p, e.fire < s.posn.p := by
  simp [beginsLate, held]

theorem beginsLate_none {s : State} (held : s.sched.held = none) : beginsLate s = false := by
  simp [beginsLate, held]

/-- A request in IN_PASS builds, and flags the take where the list holds a late event. -/
theorem requestBuild_inPass {s : State} (inPass : s.pass.state = .inPass) :
    (requestBuild s).log = (if beginsLate s then flagLateEvents s else s).log ∧
    (∀ h : HeldSet, s.sched.held = some h → (requestBuild s).sched = { s.sched with
      events := keptEvents (heldEvents s h) s.sched.fired s.posn.p }) ∧
    (s.sched.held = none → (requestBuild s).sched = { s.sched with events := [] }) := by
  cases held : s.sched.held with
  | none =>
    rw [requestBuild_of_not_armed s (by simp [armed, held]), beginsLate_none held]
    exact ⟨rfl, nofun, fun _ => rfl⟩
  | some h =>
    have late : beginsLate s = (keptEvents (heldEvents s h) s.sched.fired s.posn.p).any fun e => decide (e.fire < s.posn.p) := by
      simp [beginsLate, held]
    rw [requestBuild_of_armed s h held (by simp [armed, held, inPass]), build, late]
    refine ⟨?_, ?_, nofun⟩
    · split <;> rfl
    · rintro _ ⟨⟩
      split <;> rfl

theorem beginsLate_congr {s u : State} (view : SetView s u) (sched : u.sched = s.sched) (posn : u.posn = s.posn) :
    beginsLate u = beginsLate s := by
  unfold beginsLate
  rw [sched, posn]
  split
  · rw [view.heldEvents]
  · rfl

/-- The record of a begin, with LATE_EVENTS as the list of the begin says (R136, R169). -/
def begunTake (s : State) (w : OwnWindow) : TakeRec := { newTake s w with flags := ⟨false, false, false, beginsLate s⟩ }

/-- What the begin builds on: the reservation made, the pass IN_PASS. -/
def entered (w : OwnWindow) (s : State) : State := (reserveTake w s).setPass { s.pass with state := .inPass }

theorem beginPass_eq (w : OwnWindow) (s : State) :
    beginPass w s = post .passBegun (nextTake s.log.counter) (requestBuild (entered w s)) := by
  simp [beginPass, entered]

theorem entered_view (w : OwnWindow) (s : State) : SetView s (entered w s) :=
  .of_cues (by simp [entered]) (by simp [entered]) (by simp [entered])

theorem entered_late (w : OwnWindow) (s : State) : beginsLate (entered w s) = beginsLate s :=
  beginsLate_congr (entered_view w s) (by simp [entered]) (by simp [entered])

theorem beginPass_log (w : OwnWindow) (s : State) : ∃ before : List TakeRec,
    (beginPass w s).log = ⟨before ++ [begunTake s w], nextTake s.log.counter⟩ ∧ (s.log.openCount = 0 → before = s.log.records) := by
  have log : (beginPass w s).log = (requestBuild (entered w s)).log := by simp [beginPass_eq]
  have reserved : (entered w s).log = ⟨s.log.records ++ [newTake s w], nextTake s.log.counter⟩ := by simp [entered, reserveTake_log]
  rw [log, (requestBuild_inPass rfl).1, entered_late]
  cases late : beginsLate s with
  | false =>
    have same : begunTake s w = newTake s w := by simp [begunTake, late, newTake]
    exact ⟨s.log.records, by simp [reserved, same], fun _ => rfl⟩
  | true =>
    have same : begunTake s w = { newTake s w with flags := { (newTake s w).flags with lateEvents := true } } := by
      simp [begunTake, late, newTake]
    refine ⟨s.log.records.map fun r => if r.outcome = .inProgress then { r with flags := { r.flags with lateEvents := true } } else r,
      ?_, fun none => (List.map_congr_left fun r mem => if_neg fun running => ?_).trans (List.map_id _)⟩
    · rw [if_pos rfl, flagLateEvents, writeTake_log, reserved, same, List.map_append, List.map_singleton,
        if_pos (show (newTake s w).outcome = .inProgress from rfl)]
    · rw [TakeLog.openCount, List.countP_eq_zero] at none
      exact none r mem (decide_eq_true running)

theorem beginPass_sched (w : OwnWindow) (s : State) :
    (∀ h : HeldSet, s.sched.held = some h → (beginPass w s).sched = { s.sched with
      events := keptEvents (heldEvents s h) s.sched.fired s.posn.p }) ∧
    (s.sched.held = none → (beginPass w s).sched = { s.sched with events := [] }) := by
  obtain ⟨-, builds, rests⟩ := requestBuild_inPass (s := entered w s) rfl
  have sched : (entered w s).sched = s.sched := by simp [entered]
  have posn : (entered w s).posn = s.posn := by simp [entered]
  simp only [sched, posn, (entered_view w s).heldEvents] at builds rests
  have kept : (beginPass w s).sched = (requestBuild (entered w s)).sched := by simp [beginPass_eq]
  rw [kept]
  exact ⟨builds, rests⟩

theorem beginPass_port (w : OwnWindow) (s : State) : (beginPass w s).bus = (reserveTake w s).bus ∧
    (beginPass w s).agr = (reserveTake w s).agr ∧
    (beginPass w s).port = (post .passBegun (nextTake s.log.counter) (reserveTake w s)).port := by
  rw [beginPass_eq]
  exact ⟨by simp [entered], by simp [entered], post_port_congr _ _ (by simp [entered])⟩

theorem rollEntry_begins {s : State} {w : OwnWindow} (standby : s.pass.state = .standby) (own : s.pass.own = some w)
    (label : w.label = s.agr.passNumber) (active : s.bus.link = .active) (room : s.log.records.length < 16) :
    rollEntry s = beginPass w s := by
  simp [rollEntry, standby, own, label, active, TakeLog.free, room]

theorem rollEntry_skips {s : State} {w : OwnWindow} (standby : s.pass.state = .standby) (own : s.pass.own = some w)
    (label : w.label = s.agr.passNumber) (active : s.bus.link = .active) (full : 16 ≤ s.log.records.length) :
    rollEntry s = skipPass w s := by
  simp [rollEntry, standby, own, label, active, TakeLog.free, Nat.not_lt.2 full]

/-! ## The skip (R111) -/

/-- A skip, written by its two offers. -/
theorem skipPass_eq {s : State} {w : OwnWindow} (own : s.pass.own = some w) : skipPass w s =
    offerInternal (.window (nextPass s.agr.passNumber) w.firstCue w.pIn w.pOut) (relabel (nextPass s.agr.passNumber)
      (offerInternal (.done s.agr.passNumber .skipped true) (emptyList (post .takeSkipped w.firstCue s)))) := by
  rw [skipPass]
  rw [offerWindow_own (w := { w with label := nextPass s.agr.passNumber }) (by simp [relabel, own])]
  rfl

theorem skipPass_bus {s : State} {w : OwnWindow} (own : s.pass.own = some w) : (skipPass w s).bus =
    (offer (.window (nextPass s.agr.passNumber) w.firstCue w.pIn w.pOut) false
      (offer (.done s.agr.passNumber .skipped true) false s).2).2.bus := by
  have done := (offer_bus_congr (.done s.agr.passNumber .skipped true) false (t := s)
    (s := emptyList (post .takeSkipped w.firstCue s)) (by simp)).1
  rw [skipPass_eq own, offerInternal_bus, (offer_bus_congr _ _ (t := (offer (.done s.agr.passNumber .skipped true) false s).2)
    (by simp [done])).1]

theorem skipPass_port {s : State} {w : OwnWindow} (own : s.pass.own = some w) : (skipPass w s).port =
    (offerInternal (.window (nextPass s.agr.passNumber) w.firstCue w.pIn w.pOut)
      (offerInternal (.done s.agr.passNumber .skipped true) (post .takeSkipped w.firstCue s))).port := by
  have done := (offer_bus_congr (.done s.agr.passNumber .skipped true) false (t := post .takeSkipped w.firstCue s)
    (s := emptyList (post .takeSkipped w.firstCue s)) (by simp)).1
  rw [skipPass_eq own]
  exact offerInternal_port_congr _ (by simp [done])
    ((relabel_keeps _ _).1.trans (offerInternal_port_congr _ (by simp) (by simp) (by simp))) (by simp)

/-- Two frames of a skip find room in a queue of at most six, and post nothing. -/
theorem skipPass_quiet {s : State} {w : OwnWindow} (own : s.pass.own = some w) (active : s.bus.link = .active)
    (room : s.bus.queue.length ≤ 6) : (skipPass w s).port = (post .takeSkipped w.firstCue s).port := by
  have opened : (post .takeSkipped w.firstCue s).bus.link.admits = true := by simp [active, LinkState.admits]
  have done : offer (.done s.agr.passNumber .skipped true) false (post .takeSkipped w.firstCue s) = (.admitted,
      (post .takeSkipped w.firstCue s).setBus { s.bus with
        queue := s.bus.queue ++ [⟨.done s.agr.passNumber .skipped true, 0, false, false⟩] }) := by
    rw [offer_open opened, admitTo_room false (by simp [QueuedFrame.kind]) (by simp [QueuedFrame.kind]) (by simp; omega)]
    simp
  rw [skipPass_port own, offerInternal_port, offerInternal_port]
  · simp [done]
  · have second : (offerInternal (.done s.agr.passNumber .skipped true) (post .takeSkipped w.firstCue s)).bus = { s.bus with
        queue := s.bus.queue ++ [⟨.done s.agr.passNumber .skipped true, 0, false, false⟩] } := by
      rw [offerInternal_bus, done]
      rfl
    rw [offer_open (by rw [second]; simp [active, LinkState.admits]), second,
      admitTo_room false (by simp [QueuedFrame.kind]) (by simp [QueuedFrame.kind]) (by simp; omega)]
    simp

theorem relabel_own {s : State} {w : OwnWindow} (own : s.pass.own = some w) (n : Nat) :
    (relabel n s).pass = { s.pass with own := some { w with label := n } } := by
  simp [relabel, own]

theorem rollEntry_misses {s : State} {w : OwnWindow} (standby : s.pass.state = .standby) (own : s.pass.own = some w)
    (other : w.label ≠ s.agr.passNumber ∨ s.bus.link ≠ .active) : rollEntry s = missRoll w s := by
  have not : ¬ (w.label = s.agr.passNumber ∧ s.bus.link = .active) := fun both => other.elim (· both.1) (· both.2)
  simp [rollEntry, standby, own, not]

theorem rollEntry_elsewhere {s : State} (other : s.pass.state ≠ .standby) : rollEntry s = s := by
  unfold rollEntry
  split
  case h_1 w standby own => exact absurd standby other
  case h_2 => rfl

/-- Settles O48: by the label, the link and the room in the log. -/
theorem passBegins : Obligations.PassBegins := by
  refine ⟨fun s w standby own label active room => ⟨begunTake s w, ?begins⟩,
    fun s w standby own label active full => ?skips, fun s w standby own other => ?misses, fun s => rollEntry_elsewhere,
    fun n other => if_neg other, rfl⟩
  case begins =>
    rw [rollEntry_begins standby own label active room]
    obtain ⟨before, log, same⟩ := beginPass_log w s
    obtain ⟨builds, rests⟩ := beginPass_sched w s
    obtain ⟨bus, agr, port⟩ := beginPass_port w s
    refine ⟨beginPass_pass w s, by rw [log], fun none => by rw [log, same none], by rw [log]; simp, rfl, rfl, rfl, rfl, rfl, rfl,
      rfl, rfl, rfl, fun below => ?below, fun last => ⟨?agr, fun none => ?first, fun some => ?standing⟩,
      fun h held => ⟨builds h held, beginsLate_held held⟩, fun held => ⟨rests held, beginsLate_none held⟩, by simp⟩
    case below =>
      obtain ⟨agr', bus', port'⟩ := reserveTake_below (w := w) below
      exact ⟨agr.trans agr', bus.trans bus', port.trans (post_port_congr _ _ port')⟩
    case agr =>
      rw [agr, reserveTake_fills last, raiseLogFull_agr]
      rfl
    case first =>
      rw [bus, port, reserveTake_fills last,
        raiseLogFull_first (s := s.setLog ⟨s.log.records ++ [newTake s w], nextTake s.log.counter⟩) none]
      exact ⟨by rw [offerInternal_bus]; exact (offer_bus_congr _ _ (by simp [State.setReasons])).1,
        post_port_congr _ _ (offerInternal_port_congr _ rfl rfl rfl)⟩
    case standing =>
      obtain ⟨bus', port'⟩ := raiseLogFull_standing (s := s.setLog ⟨s.log.records ++ [newTake s w], nextTake s.log.counter⟩)
        (OwnReasons.any_of_ne some)
      rw [bus, port, reserveTake_fills last]
      exact ⟨bus', post_port_congr _ _ port'⟩
  case skips =>
    rw [rollEntry_skips standby own label active full]
    refine ⟨?_, ?_, skipPass_bus own, skipPass_quiet own active, skipPass_port own, by simp⟩
    · rw [skipPass_eq own]
      simp [relabel, own, nextPass]
    · rw [skipPass_eq own]
      simp [emptyList]
  case misses =>
    rw [rollEntry_misses standby own other, missRoll]
    by_cases label : w.label = s.agr.passNumber
    · rw [if_pos label, if_pos label]
      simp [relabel, own, emptyList, nextPass]
    · rw [if_neg label, if_neg label]
      rw [← own]
      rfl

end Sys2Proof.Machine

/-! PROOF. The end of a pass (R98, R99, R102, R112 to R116): the answers *advance* and *again*, the abandonment, and the clearing. -/

namespace Sys2Proof.Machine

-- One proof after another: under the check's memory limit there is no room for a thread per proof.
set_option Elab.async false

/-! ## Advance and again (R98, R99) -/

theorem stepCuePresent_iff {s : State} {i first run passes : Nat} {mode : StepMode}
    (step : s.plan.steps[i]? = some (.cue first run passes mode)) :
    stepCuePresent s i = (findCue s.cues first).isSome := by
  simp only [stepCuePresent, step]

theorem findCue_isSome_of {cues : List CueRec} {id : Nat} (there : ∃ c ∈ cues, c.id = id) : (findCue cues id).isSome = true := by
  obtain ⟨c, mem, same⟩ := there
  cases found : findCue cues id with
  | some d => rfl
  | none => exact absurd same (by simpa using List.find?_eq_none.1 found c mem)

theorem stepAnswer_eq {s : State} {i first run passes : Nat} {mode : StepMode}
    (step : s.plan.steps[i]? = some (.cue first run passes mode)) :
    stepAnswer s i = some ⟨activeSet s.cues first run, passMode mode passes s.plan.passesRemaining, i⟩ := by
  simp only [stepAnswer, step]

theorem planAgain_present {s : State} {i first run passes : Nat} {mode : StepMode} (cursor : s.plan.cursor = some i)
    (step : s.plan.steps[i]? = some (.cue first run passes mode)) (there : ∃ c ∈ s.cues, c.id = first) :
    planAgain s = (s, some ⟨activeSet s.cues first run, passMode mode passes s.plan.passesRemaining, i⟩) := by
  have present : stepCuePresent s i = true := (stepCuePresent_iff step).trans (findCue_isSome_of there)
  simp only [planAgain, cursor, planSame, present, if_true, stepAnswer_eq step]

theorem stepCue_of_present {s : State} {i : Nat} (present : stepCuePresent s i = true) :
    ∃ (first run passes : Nat) (mode : StepMode), s.plan.steps[i]? = some (.cue first run passes mode) := by
  unfold stepCuePresent at present
  split at present
  case h_1 first run passes mode step => exact ⟨first, run, passes, mode, step⟩
  case h_2 => cases present

theorem planSame_present {s : State} {i : Nat} (present : stepCuePresent s i = true) : ∃ a, planSame i s = (s, some a) := by
  obtain ⟨first, run, passes, mode, step⟩ := stepCue_of_present present
  exact ⟨_, by rw [planSame, if_pos present, stepAnswer_eq step]⟩

theorem planAgain_gone {s : State} {i first run passes : Nat} {mode : StepMode} (cursor : s.plan.cursor = some i)
    (step : s.plan.steps[i]? = some (.cue first run passes mode)) (gone : ∀ c ∈ s.cues, c.id ≠ first) :
    planAgain s = planGiveUp (post .planSkip first s) := by
  have absent : stepCuePresent s i = false := (stepCuePresent_iff step).trans (by rw [findCue_eq_none_of gone]; rfl)
  rw [planGiveUp_of_cursor (s := post .planSkip first s) (x := i) (by simp [cursor])]
  simp [planAgain, cursor, planSame, absent, stepFirstCue, step]

theorem planAdvance_more {s : State} {i : Nat} (cursor : s.plan.cursor = some i) (more : 1 < s.plan.passesRemaining) :
    planAdvance s = planAgain (s.setPlan { s.plan with passesRemaining := s.plan.passesRemaining - 1 }) := by
  simp [planAdvance, planAgain, cursor, Nat.not_le.2 more]

theorem planAdvance_last {s : State} {i : Nat} (cursor : s.plan.cursor = some i) (last : s.plan.passesRemaining ≤ 1) :
    planAdvance s = planGiveUp s := by
  rw [planGiveUp_of_cursor cursor]
  have asked : planAdvance s = searchAnswer (.leave i) (s.setPlan { s.plan with passesRemaining := s.plan.passesRemaining - 1 }) := by
    simp [planAdvance, cursor, last]
  rw [asked, searchAnswer_passes]

/-- An answer of the plan unit stands on the step that it names; without one no step stands. -/
def AnswerOnCursor (r : State × Option PlanAnswer) : Prop := r.1.plan.cursor = r.2.map PlanAnswer.stepIndex

theorem searchAnswer_onCursor (pos : SearchPos) (s : State) : AnswerOnCursor (searchAnswer pos s) := by
  unfold AnswerOnCursor
  cases found : (s.search pos).found with
  | none =>
    rw [searchAnswer_none found]
    rfl
  | some i =>
    obtain ⟨first, run, passes, mode, step, -⟩ := search_found _ _ _ found
    rw [searchAnswer_some found step]
    rfl

theorem planSame_onCursor {s : State} {i : Nat} (cursor : s.plan.cursor = some i) : AnswerOnCursor (planSame i s) := by
  unfold planSame
  split
  case isTrue present =>
    obtain ⟨first, run, passes, mode, step⟩ := stepCue_of_present present
    rw [stepAnswer_eq step]
    exact cursor
  case isFalse => exact searchAnswer_onCursor _ _

theorem planAdvance_onCursor (s : State) : AnswerOnCursor (planAdvance s) := by
  unfold planAdvance
  split
  case h_1 none => exact none
  case h_2 i cursor =>
    dsimp only
    split
    · exact searchAnswer_onCursor _ _
    · exact planSame_onCursor cursor

theorem planAgain_written {s v : State} {o : Option PlanAnswer} (asked : planAgain s = (v, o)) :
    ∃ (plan : PlanUnit) (port : Port), v = (s.setPlan plan).setPort port := by
  obtain rfl : (planAgain s).1 = v := by rw [asked]
  exact ⟨_, _, State.eq_of_blocks (by simp) (by simp) (by simp) (by simp) (by simp) (by simp) (by simp) (by simp) (by simp) (by simp)
    (by simp) (by simp) (by simp) (by simp)⟩

theorem planAdvance_written {s v : State} {o : Option PlanAnswer} (asked : planAdvance s = (v, o)) :
    ∃ (plan : PlanUnit) (port : Port), v = (s.setPlan plan).setPort port := by
  obtain rfl : (planAdvance s).1 = v := by rw [asked]
  exact ⟨_, _, State.eq_of_blocks (by simp) (by simp) (by simp) (by simp) (by simp) (by simp) (by simp) (by simp) (by simp) (by simp)
    (by simp) (by simp) (by simp) (by simp)⟩

/-! ## A take closed (R171) -/

theorem OpenTake.writeTake_eq {s : State} {before : List TakeRec} {r : TakeRec} (open_ : OpenTake s before r)
    (f : TakeRec → TakeRec) : Machine.writeTake f s = s.setLog ⟨before ++ [f r], s.log.counter⟩ := by
  rw [← open_.writeTake_log f]
  rfl

theorem OpenTake.abandoned_eq {s : State} {before : List TakeRec} {r : TakeRec} (open_ : OpenTake s before r)
    (shut : s.onset.openWindows = []) : abandoned s =
      ((post .passAbandoned r.number (s.setLog ⟨before ++ [{ r with outcome := .abandoned }], s.log.counter⟩)).setOut
        (restOutputs s.out)).setSched { s.sched with events := [], fired := [] } := by
  rw [abandoned, closeWindows_of_shut shut, open_.currentTake, closeTake, open_.writeTake_eq]
  simp [forceToRest, emptyList]

theorem OpenTake.clearedTake_eq {s : State} {before : List TakeRec} {r : TakeRec} (open_ : OpenTake s before r)
    (shut : s.onset.openWindows = []) : clearedTake s = post .takeReady r.number (post .passCleared r.number
      (s.setLog ⟨before ++ [{ r with outcome := .complete }], s.log.counter⟩)) := by
  rw [clearedTake, closeWindows_of_shut shut, open_.currentTake, closeTake, open_.writeTake_eq]

/-! ## The abandonment (R116) -/

@[simp] theorem abandoned_keeps (s : State) : (abandoned s).conf = s.conf ∧ (abandoned s).ref = s.ref ∧ (abandoned s).posn = s.posn ∧
    (abandoned s).bus = s.bus ∧ (abandoned s).agr = s.agr ∧ (abandoned s).cues = s.cues ∧ (abandoned s).plan = s.plan ∧
    (abandoned s).pass = s.pass ∧ (abandoned s).marks = s.marks ∧ (abandoned s).resetnLow = s.resetnLow ∧
    (abandoned s).pending = s.pending ∧ (abandoned s).sched = { s.sched with events := [], fired := [] } ∧
    (abandoned s).out = restOutputs s.out ∧ (abandoned s).onset = (closeWindows s).onset ∧
    (abandoned s).log = (closeTake .abandoned (closeWindows s)).log := by
  simp [abandoned, forceToRest, emptyList]

theorem abandoned_openCount (s : State) : (abandoned s).log.openCount = 0 := by
  simp [openCount_closed]

theorem abandonPass_some {s v : State} {a : PlanAnswer} (again : planAgain (abandoned s) = (v, some a)) :
    abandonPass s = offerWindow (prepare a .standby v) := by
  rw [abandonPass_eq, again]

theorem abandonPass_none {s v : State} (again : planAgain (abandoned s) = (v, none)) : abandonPass s =
    offerInternal (.done (ownLabel s) .abandoned false) (post .planEnd 0 (giveUpPass v)) := by
  rw [abandonPass_eq, again]
  rfl

/-- What an abandonment leaves where the plan answers a set. -/
structure AbandonedTo (s v t : State) (a : PlanAnswer) : Prop where
  pass : t.pass = { s.pass with state := .standby, own := some (preparedWindow s a) }
  plan : t.plan = v.plan
  cues : t.cues = s.cues.map fun c => { c with pinned := a.set.contains c.id }
  sched : t.sched = { s.sched with held := some ⟨a.set, a.mode⟩, fired := [], events :=
    if s.agr.transport = .rolling then [] else preparedList s a }
  log : t.log = (abandoned s).log
  out : t.out = restOutputs s.out
  onset : t.onset = (closeWindows s).onset
  bus : t.bus = (offer (windowFrame (preparedWindow s a)) false s).2.bus
  port : t.port = (offerInternal (windowFrame (preparedWindow s a)) v).port
  rest : t.ref = s.ref ∧ t.conf = s.conf ∧ t.marks = s.marks ∧ t.pending = s.pending ∧ t.resetnLow = s.resetnLow ∧ t.agr = s.agr ∧
    t.posn = s.posn

theorem abandonedTo {s v : State} {a : PlanAnswer} (again : planAgain (abandoned s) = (v, some a)) :
    AbandonedTo s v (abandonPass s) a := by
  rw [abandonPass_some again]
  obtain ⟨plan, port, state⟩ := planAgain_written again
  have view : SetView s v := .of_cues (by simp [state]) (by simp [state]) (by simp [state]; rfl)
  have prepared := preparedFrom view (by simp [state]) (by simp [state]) a
  have bus := (offer_bus_congr (windowFrame (preparedWindow s a)) false (s := v) (t := s) (by simp [state])).1
  have log := prepared.log_kept.1 (by simp [state, openCount_closed])
  obtain ⟨posn, ref, agr, out, onset, marks, conf, pending, resetnLow⟩ := prepared.rest
  refine ⟨prepared.pass.trans (by simp [state]), prepared.plan, prepared.cues.trans (by simp [state]),
    prepared.sched.trans (by simp [state]), log.trans (by simp [state]), out.trans (by simp [state]), onset.trans (by simp [state]),
    prepared.bus.trans bus, prepared.port, ref.trans (by simp [state]), conf.trans (by simp [state]), marks.trans (by simp [state]),
    pending.trans (by simp [state]), resetnLow.trans (by simp [state]), agr.trans (by simp [state]), posn.trans (by simp [state])⟩

/-- The notice of an abandonment is the next to come. -/
theorem OpenTake.abandoned_notices {s : State} {before : List TakeRec} {r : TakeRec} (open_ : OpenTake s before r)
    (room : s.port.notices.length < 16) : (abandoned s).port.notices = s.port.notices ++ [⟨.passAbandoned, r.number⟩] := by
  have below : (closeTake .abandoned (closeWindows s)).port.notices.length < 16 := by simpa using room
  have posted := congrArg Port.notices (post_notices_below .passAbandoned (Machine.currentTake s) _ below)
  simpa [abandoned, open_.currentTake] using posted

/-! ## The clearing (R112) -/

theorem clears_iff (s : State) : clears s = true ↔ s.pass.state = .inPass ∧ s.sched.events = [] ∧
    ∃ w : OwnWindow, s.pass.own = some w ∧ w.pOut ≤ s.posn.p := by
  unfold clears
  cases s.pass.own <;> simp [and_assoc]

theorem clearingTest_passed {s : State} {w : OwnWindow} (inPass : s.pass.state = .inPass) (empty : s.sched.events = [])
    (own : s.pass.own = some w) (beyond : w.pOut ≤ s.posn.p) : clearingTest s = clearPass s :=
  if_pos ((clears_iff s).2 ⟨inPass, empty, w, own, beyond⟩)

theorem clearPass_some {s v : State} {a : PlanAnswer} (advance : planAdvance (clearedTake s) = (v, some a)) :
    clearPass s = clearedMore s v a := by
  rw [clearPass_eq, advance]

theorem clearPass_none {s v : State} (advance : planAdvance (clearedTake s) = (v, none)) : clearPass s = clearedLast s v := by
  rw [clearPass_eq, advance]

@[simp] theorem clearedTake_keeps (s : State) : (clearedTake s).conf = s.conf ∧ (clearedTake s).ref = s.ref ∧
    (clearedTake s).posn = s.posn ∧ (clearedTake s).bus = s.bus ∧ (clearedTake s).agr = s.agr ∧ (clearedTake s).cues = s.cues ∧
    (clearedTake s).plan = s.plan ∧ (clearedTake s).pass = s.pass ∧ (clearedTake s).sched = s.sched ∧ (clearedTake s).out = s.out ∧
    (clearedTake s).log = (closeTake .complete (closeWindows s)).log := by
  simp [clearedTake]

/-- A preparation in CLEARED leaves the list empty: the set is not armed (R134). -/
theorem prepare_cleared_sched (a : PlanAnswer) (s : State) : (prepare a .cleared s).sched =
    { s.sched with held := some ⟨a.set, a.mode⟩, fired := [], events := [] } := by
  unfold prepare handHeld
  rw [requestBuild_of_not_armed _ (by simp [armed])]
  simp [pinSet]

theorem prepare_cleared_log (a : PlanAnswer) (s : State) : (prepare a .cleared s).log = s.log := by
  unfold prepare handHeld
  rw [requestBuild_of_not_armed _ (by simp [armed])]
  simp [pinSet]

/-- What a clearing leaves where the plan answers a set. -/
structure ClearedTo (s v t : State) (a : PlanAnswer) : Prop where
  pass : t.pass = { s.pass with state := .cleared, outcome := some .more, own := some (preparedWindow s a) }
  plan : t.plan = v.plan
  cues : t.cues = s.cues.map fun c => { c with pinned := a.set.contains c.id }
  sched : t.sched = { s.sched with held := some ⟨a.set, a.mode⟩, fired := [], events := [] }
  log : t.log = (clearedTake s).log
  bus : t.bus = (offer (windowFrame (preparedWindow s a)) false (offer (.done s.agr.passNumber .cleared true) false s).2).2.bus
  port : t.port = (offerInternal (windowFrame (preparedWindow s a))
    (offerInternal (.done s.agr.passNumber .cleared true) v)).port

theorem clearedTo {s v : State} {a : PlanAnswer} (advance : planAdvance (clearedTake s) = (v, some a)) :
    ClearedTo s v (clearPass s) a := by
  rw [clearPass_some advance]
  obtain ⟨plan, port, state⟩ := planAdvance_written advance
  have view : SetView s v := .of_cues (by simp [state]) (by simp [state]) (by simp [state])
  have window := preparedWindow_congr view (by simp [state]) a
  have eq : clearedMore s v a = offerInternal (windowFrame (preparedWindow s a)) (offerInternal (.done s.agr.passNumber .cleared true)
      ((prepare a .cleared v).setPass { (prepare a .cleared v).pass with outcome := some .more })) := by
    rw [clearedMore, offerWindow_own (w := preparedWindow s a)]
    simp [prepare_pass_eq, window]
  have done := (offer_bus_congr (.done s.agr.passNumber .cleared true) false (t := s)
    (s := (prepare a .cleared v).setPass { (prepare a .cleared v).pass with outcome := some .more }) (by simp [state])).1
  have doneV := (offer_bus_congr (.done s.agr.passNumber .cleared true) false (t := s) (s := v) (by simp [state])).1
  rw [eq]
  refine ⟨by simp [prepare_pass_eq, window, show v.pass = s.pass by simp [state]], by simp [state], by simp [prepare_cues, state], by simp [prepare_cleared_sched, state],
    by simp [prepare_cleared_log, state], ?_, ?_⟩
  · rw [offerInternal_bus]
    exact (offer_bus_congr _ _ (by rw [offerInternal_bus, done])).1
  · exact offerInternal_port_congr _ (by rw [offerInternal_bus, offerInternal_bus, done, doneV])
      (offerInternal_port_congr _ (by simp [state]) (by simp [state]) (by simp [state])) (by simp [state])

/-- What a clearing leaves at the end of the plan. -/
structure ClearedOut (s v t : State) : Prop where
  pass : t.pass = { s.pass with state := .cleared, outcome := some .none, own := none }
  plan : t.plan = v.plan
  cues : t.cues = s.cues.map fun c => { c with pinned := false }
  sched : t.sched = { s.sched with held := none, events := [], fired := [] }
  log : t.log = (clearedTake s).log
  bus : t.bus = (offer (.done s.agr.passNumber .cleared false) false s).2.bus
  port : t.port = (offerInternal (.done s.agr.passNumber .cleared false) (post .planEnd 0 v)).port

theorem clearedOut {s v : State} (advance : planAdvance (clearedTake s) = (v, none)) : ClearedOut s v (clearPass s) := by
  rw [clearPass_none advance]
  obtain ⟨plan, port, state⟩ := planAdvance_written advance
  refine ⟨by simp [clearedLast, state], by simp [clearedLast, state], by simp [clearedLast, clearPins, pinSet, giveUpHeld, state],
    by simp [clearedLast, giveUpHeld, state], by simp [clearedLast, state], ?_, ?_⟩
  · rw [clearedLast, offerInternal_bus]
    exact (offer_bus_congr _ _ (by simp [state])).1
  · rw [clearedLast]
    exact offerInternal_port_congr _ (by simp [state]) (post_port_congr _ _ (by simp [state])) (by simp [state])

/-- PASS_CLEARED and TAKE_READY are the next notices to come, also where the plan unit and a refused frame post behind them. -/
theorem OpenTake.clearedTake_notices {s : State} {before : List TakeRec} {r : TakeRec} (open_ : OpenTake s before r)
    (room : s.port.notices.length < 15) :
    (clearedTake s).port.notices = s.port.notices ++ [⟨.passCleared, r.number⟩, ⟨.takeReady, r.number⟩] := by
  have first := congrArg Port.notices (post_notices_below .passCleared (Machine.currentTake s) (closeTake .complete (closeWindows s))
    (by simp; omega))
  have second := congrArg Port.notices (post_notices_below .takeReady (Machine.currentTake s)
    (post .passCleared (Machine.currentTake s) (closeTake .complete (closeWindows s))) (by rw [first]; simp; omega))
  rw [first, open_.currentTake] at second
  simpa [clearedTake, open_.currentTake] using second

theorem skipNotices_grow (r : SearchResult) (s : State) : s.port.notices <+: (skipNotices r s).port.notices := by
  unfold skipNotices
  generalize r.skipped = ids
  induction ids generalizing s with
  | nil => exact List.prefix_refl _
  | cons id rest ih => exact (post_notices_grow .planSkip id s).trans (ih _)

theorem searchAnswer_notices (pos : SearchPos) (s : State) : s.port.notices <+: (searchAnswer pos s).1.port.notices := by
  cases found : (s.search pos).found with
  | none =>
    rw [searchAnswer_none found]
    exact skipNotices_grow _ s
  | some i =>
    obtain ⟨first, run, passes, mode, step, -⟩ := search_found _ _ _ found
    rw [searchAnswer_some found step]
    exact skipNotices_grow _ s

theorem planSame_notices (i : Nat) (s : State) : s.port.notices <+: (planSame i s).1.port.notices := by
  unfold planSame
  split
  · exact List.prefix_refl _
  · exact (post_notices_grow .planSkip (stepFirstCue s i) s).trans (searchAnswer_notices (.leave i) (post .planSkip (stepFirstCue s i) s))

theorem planAdvance_notices (s : State) : s.port.notices <+: (planAdvance s).1.port.notices := by
  unfold planAdvance
  split
  case h_1 => exact List.prefix_refl _
  case h_2 i _ =>
    dsimp only
    split
    · exact searchAnswer_notices (.leave i) (s.setPlan { s.plan with passesRemaining := s.plan.passesRemaining - 1 })
    · exact planSame_notices i (s.setPlan { s.plan with passesRemaining := s.plan.passesRemaining - 1 })

/-! ## The obligation -/

/-- Settles O49: the abandonment and the clearing by the answer of the plan unit, then that answer case by case. -/
theorem passClears : Obligations.PassClears := by
  refine ⟨fun s rests => ?rests, fun s w i first run passes mode set pm inPass own cursor step there sets modes => ?again,
    fun s => ?stop, fun s w r before inPass empty own beyond shut records running closed => ?clears,
    fun s => ⟨fun more => ?leaveMore, fun other => ?leaveNone⟩,
    fun s cursor => ⟨by simp only [planAdvance, cursor], by simp only [planAgain, cursor]⟩,
    fun s i cursor => ⟨planAdvance_more cursor, planAdvance_last cursor⟩,
    fun s i first run passes mode cursor step => ⟨planAgain_present cursor step, planAgain_gone cursor step⟩,
    fun s u v w r before own shut records running closed taken => ?abandons,
    fun s u v w r before inPass empty own beyond shut records running closed taken => ?answers⟩
  case rests =>
    refine if_neg fun passed => ?_
    obtain ⟨inPass, empty, w, own, beyond⟩ := (clears_iff s).1 passed
    rcases rests with other | busy | before
    · exact other inPass
    · exact busy empty
    · exact absurd (before w own) (Nat.not_lt.2 beyond)
  case again =>
    subst sets modes
    have again := planAgain_present (s := abandoned s) (i := i) (first := first) (run := run) (passes := passes) (mode := mode)
      (by simp [cursor]) (by simp [step]) (by simpa using there)
    simp only [abandoned_keeps] at again
    have leaves := abandonedTo again
    obtain ⟨ref, conf, marks, pending, resetnLow, agr, posn⟩ := leaves.rest
    refine ⟨leaves.pass, leaves.plan.trans (by simp), leaves.cues, leaves.sched, ref, conf, marks, pending, resetnLow, leaves.out,
      by rw [leaves.onset, closeWindows_openWindows], by rw [leaves.log, abandoned_openCount], agr, posn, leaves.bus,
      fun before r records running closed => ?_⟩
    have open_ : OpenTake s before r := ⟨records, running, closed⟩
    refine ⟨leaves.log.trans (by simpa [flagMissed] using open_.closed_log .abandoned), fun room => ?_⟩
    rw [leaves.port, ← open_.abandoned_notices room]
    exact offerInternal_notices _ _
  case stop =>
    unfold passStop
    cases s.pass.state <;> rfl
  case clears =>
    have open_ : OpenTake s before r := ⟨records, running, closed⟩
    have notices := fun room => open_.clearedTake_notices room ▸ planAdvance_notices (clearedTake s)
    have log : (clearedTake s).log = ⟨before ++ [{ r with outcome := .complete }], s.log.counter⟩ := by
      simp [open_.clearedTake_eq shut]
    have cursor := planAdvance_onCursor (clearedTake s)
    rw [clearingTest_passed inPass empty own beyond]
    have more : ∀ i : Nat, s.plan.cursor = some i → 1 < s.plan.passesRemaining → stepCuePresent s i = true →
        ∃ a, planAdvance (clearedTake s) = ((clearedTake s).setPlan
          { s.plan with passesRemaining := s.plan.passesRemaining - 1 }, some a) := by
      intro i here remaining present
      have advance : planAdvance (clearedTake s) = planSame i ((clearedTake s).setPlan
          { s.plan with passesRemaining := s.plan.passesRemaining - 1 }) := by
        simp [planAdvance, here, Nat.not_le.2 remaining]
      rw [advance]
      refine planSame_present (Eq.trans ?_ present)
      simp [stepCuePresent]
    generalize answered : planAdvance (clearedTake s) = result at notices cursor more
    obtain ⟨v, answer⟩ := result
    cases answer with
    | none =>
      have leaves := clearedOut answered
      refine ⟨by rw [leaves.pass], leaves.log.trans log, by simp, by simp, by simp, fun room => ?_, fun _ => ?_,
        fun other => absurd (by rw [leaves.pass]) other, fun i here remaining present => ?_⟩
      · rw [leaves.port]
        exact (notices room).trans ((post_notices_grow _ _ _).trans (offerInternal_notices _ _))
      · refine ⟨by rw [leaves.pass], by rw [leaves.sched], ?_, by rw [leaves.plan]; exact cursor, leaves.bus⟩
        rw [leaves.cues, List.forall_mem_map]
        exact fun _ _ => rfl
      · obtain ⟨a, found⟩ := more i here remaining present
        cases found
    | some a =>
      have leaves := clearedTo answered
      refine ⟨by rw [leaves.pass], leaves.log.trans log, by simp, by simp, by simp, fun room => ?_, fun none => ?_, fun _ =>
        ⟨preparedWindow s a, a.stepIndex, leaves.pass, by rw [leaves.plan]; exact cursor, rfl, fun rolling => ?_, by rw [leaves.sched]; rfl,
          leaves.cues, leaves.bus⟩, fun i here remaining present => ?_⟩
      · rw [leaves.port]
        exact (notices room).trans ((offerInternal_notices _ _).trans (offerInternal_notices _ _))
      · rw [leaves.pass] at none
        cases none
      · exact ⟨if_pos rolling, by rw [leaves.sched]⟩
      · obtain ⟨b, found⟩ := more i here remaining present
        rw [Prod.mk.injEq] at found
        exact ⟨by rw [leaves.pass], by rw [leaves.plan, found.1]; rfl⟩
  case leaveMore => simp [leaveCleared, more]
  case leaveNone =>
    unfold leaveCleared
    split
    case h_1 more => exact absurd more other
    case h_2 => rfl
  case abandons =>
    have open_ : OpenTake s before r := ⟨records, running, closed⟩
    obtain rfl := taken.trans (open_.abandoned_eq shut).symm
    constructor
    · intro again
      obtain ⟨plan, port, state⟩ := planAgain_written again
      have label : ownLabel s = w.label := ownLabel_of_own own
      rw [abandonPass_none again, label]
      refine ⟨by simp, by simp [giveUpPass_pass, state], by simp [giveUpPass_cues, state], by simp [giveUpPass_sched, state],
        by simp [state], by simp [state], ?_, ?_⟩
      · rw [offerInternal_bus]
        exact (offer_bus_congr _ _ (by simp [state])).1
      · exact offerInternal_port_congr _ (by simp) (post_port_congr _ _ (by simp)) (by simp)
    · intro a again
      have leaves := abandonedTo again
      exact ⟨leaves.plan, leaves.pass, leaves.cues, leaves.sched, leaves.log, leaves.out.trans (by simp), leaves.port⟩
  case answers =>
    have open_ : OpenTake s before r := ⟨records, running, closed⟩
    obtain rfl := taken.trans (open_.clearedTake_eq shut).symm
    rw [clearingTest_passed inPass empty own beyond]
    constructor
    · intro advance
      have leaves := clearedOut advance
      exact ⟨leaves.plan, leaves.sched, leaves.pass, leaves.port⟩
    · intro a advance
      have leaves := clearedTo advance
      exact ⟨leaves.plan, leaves.sched, leaves.pass, leaves.port⟩

end Sys2Proof.Machine

/-! PROOF. The events of a cue (R126, R127, R129 to R131) and the build of the list (R132, R134 to R136). -/

namespace Sys2Proof.Machine

-- One proof after another: under the check's memory limit there is no room for a thread per proof.
set_option Elab.async false

/-! ## Closing events (R131) -/

theorem closingEvent_eq (c : Scheduler) (o : Event) (k : EventKind) (pos : Nat) : closingEvent c o k pos =
    ⟨o.cue, o.order, k, o.pip, pos, max (pos - c.advanceOf k) (o.fire + 1)⟩ := by
  unfold closingEvent
  by_cases early : (mkEvent c o.cue o.order k o.pip pos).fire ≤ o.fire
  · have early' : pos - c.advanceOf k ≤ o.fire := early
    rw [Nat.max_eq_right (by omega)]
    exact if_pos early
  · have late : ¬ pos - c.advanceOf k ≤ o.fire := early
    rw [Nat.max_eq_left (by omega)]
    exact if_neg early

section
variable (c : Scheduler) (d : DefaultsRec) (o : OutputsRec) (pMax order : Nat) (cue : CueRec) (mode : PassMode)

/-! ## The rows of a cue, event by event -/

/-- PIP_ON of pip k. -/
abbrev pipOnOf (k : Nat) : Event := mkEvent c cue.id order .pipOn (some k) (min (cue.s - k * cue.spacingR d * 120) pMax)

/-- PIP_OFF of pip k. -/
abbrev pipOffOf (k : Nat) : Event :=
  closingEvent c (pipOnOf c d pMax order cue k) .pipOff (min ((pipOnOf c d pMax order cue k).pos + o.pipLength) pMax)

/-- FLASH_ON. -/
abbrev flashOnOf : Event := mkEvent c cue.id order .flashOn none (min cue.s pMax)

/-- FLASH_OFF. -/
abbrev flashOffOf : Event := closingEvent c (flashOnOf c pMax order cue) .flashOff (min (cue.s + o.flashLength * 120) pMax)

/-- PUNCH_IN. -/
abbrev punchInOf : Event := mkEvent c cue.id order .punchIn none (min (cue.s - cue.handleInR d * 120) pMax)

/-- PUNCH_OUT. -/
abbrev punchOutOf : Event :=
  closingEvent c (punchInOf c d pMax order cue) .punchOut (min (cue.e + cue.handleOutR d * 120) pMax)

/-- STREAMER_BEGIN. -/
abbrev streamerOf : Event := mkEvent c cue.id order .streamerBegin none (min (cue.s - cue.leadR d * 120) pMax)

/-- LINE_END. -/
abbrev lineEndOf : Event := mkEvent c cue.id order .lineEnd none (min cue.e pMax)

/-- Pip k is called for (R126, R127). -/
def pipCalled (k : Nat) : Prop := k ≤ cue.beepsR d ∧ (k = 0 → cue.silentLast = false) ∧ k * cue.spacingR d * 120 ≤ cue.s

theorem mem_pipNumbers {n k : Nat} {silent : Bool} : k ∈ pipNumbers n silent ↔ k ≤ n ∧ (k = 0 → silent = false) := by
  rw [pipNumbers, List.mem_append, List.mem_reverse, List.mem_map]
  cases silent
  · constructor
    · rintro (⟨j, below, rfl⟩ | zero)
      · exact ⟨by have := List.mem_range.1 below; omega, fun _ => rfl⟩
      · have : k = 0 := by simpa using zero
        exact ⟨by omega, fun _ => rfl⟩
    · rintro ⟨below, -⟩
      cases k with
      | zero => right; simp
      | succ j => exact .inl ⟨j, List.mem_range.2 below, rfl⟩
  · constructor
    · rintro (⟨j, below, rfl⟩ | none)
      · exact ⟨by have := List.mem_range.1 below; omega, nofun⟩
      · simp at none
    · rintro ⟨below, notZero⟩
      cases k with
      | zero => cases notZero rfl
      | succ j => exact .inl ⟨j, List.mem_range.2 below, rfl⟩

theorem mem_pipEvents {e : Event} : e ∈ pipEvents c d o pMax order cue ↔
    ∃ k, pipCalled d cue k ∧ (e = pipOnOf c d pMax order cue k ∨ e = pipOffOf c d o pMax order cue k) := by
  rw [pipEvents, List.mem_flatMap]
  refine exists_congr fun k => ?_
  rw [mem_pipNumbers, pipCalled, pipPair]
  split
  case isTrue fits => simp [fits, and_assoc]
  case isFalse out => simp [out]

/-- The events of a cue, row by row (R126). -/
inductive EventOf (e : Event) : Prop where
  | streamer (called : cue.noStreamer = false) (is : e = streamerOf c d pMax order cue)
  | pipOn (k : Nat) (called : pipCalled d cue k) (is : e = pipOnOf c d pMax order cue k)
  | pipOff (k : Nat) (called : pipCalled d cue k) (is : e = pipOffOf c d o pMax order cue k)
  | flashOn (is : e = flashOnOf c pMax order cue)
  | flashOff (called : cue.noFlash = false) (is : e = flashOffOf c o pMax order cue)
  | punchIn (called : mode = .record) (is : e = punchInOf c d pMax order cue)
  | punchOut (called : mode = .record) (is : e = punchOutOf c d pMax order cue)
  | lineEnd (is : e = lineEndOf c pMax order cue)

theorem mem_streamerEvents {e : Event} : e ∈ streamerEvents c d pMax order cue ↔
    cue.noStreamer = false ∧ e = streamerOf c d pMax order cue := by
  unfold streamerEvents
  cases cue.noStreamer <;> simp

theorem mem_flashEvents {e : Event} : e ∈ flashEvents c o pMax order cue ↔
    e = flashOnOf c pMax order cue ∨ cue.noFlash = false ∧ e = flashOffOf c o pMax order cue := by
  unfold flashEvents
  cases cue.noFlash <;> simp

theorem mem_punchEvents {e : Event} : e ∈ punchEvents c d pMax order cue mode ↔
    mode = .record ∧ (e = punchInOf c d pMax order cue ∨ e = punchOutOf c d pMax order cue) := by
  cases mode <;> simp [punchEvents]

theorem mem_cueEvents {e : Event} : e ∈ cueEvents c d o pMax order cue mode ↔ EventOf c d o pMax order cue mode e := by
  rw [cueEvents, List.mem_append, List.mem_append, List.mem_append, List.mem_append, mem_streamerEvents, mem_pipEvents,
    mem_flashEvents, mem_punchEvents, List.mem_singleton]
  constructor
  · rintro ((((⟨called, is⟩ | ⟨k, called, is | is⟩) | is | ⟨called, is⟩) | ⟨called, is | is⟩) | is)
    · exact .streamer called is
    · exact .pipOn k called is
    · exact .pipOff k called is
    · exact .flashOn is
    · exact .flashOff called is
    · exact .punchIn called is
    · exact .punchOut called is
    · exact .lineEnd is
  · rintro (⟨called, is⟩ | ⟨k, called, is⟩ | ⟨k, called, is⟩ | is | ⟨called, is⟩ | ⟨called, is⟩ | ⟨called, is⟩ | is)
    · exact .inl (.inl (.inl (.inl ⟨called, is⟩)))
    · exact .inl (.inl (.inl (.inr ⟨k, called, .inl is⟩)))
    · exact .inl (.inl (.inl (.inr ⟨k, called, .inr is⟩)))
    · exact .inl (.inl (.inr (.inl is)))
    · exact .inl (.inl (.inr (.inr ⟨called, is⟩)))
    · exact .inl (.inr ⟨called, .inl is⟩)
    · exact .inl (.inr ⟨called, .inr is⟩)
    · exact .inr is

end

section
variable {c : Scheduler} {d : DefaultsRec} {o : OutputsRec} {pMax order : Nat} {cue : CueRec} {mode : PassMode}

/-! ## Positions of a cue in range (R73, R130, R131) -/

/-- What an event of a cue says of itself and of its fire position. -/
theorem EventOf.row (sound : CueInRange cue d o pMax) {e : Event} (row : EventOf c d o pMax order cue mode e) :
    e.cue = cue.id ∧ e.order = order ∧ rowOf d o pMax cue mode e ∧ e.fire ≤ e.pos ∧ e.pos - c.advanceOf e.kind ≤ e.fire ∧
      (e.kind.opening = none → e.fire = e.pos - c.advanceOf e.kind) := by
  have order := sound.order
  have start := sound.start
  have pipLength := sound.pipLength
  have flashLength := sound.flashLength
  rcases row with ⟨called, rfl⟩ | ⟨k, ⟨low, silent, fits⟩, rfl⟩ | ⟨k, ⟨low, silent, fits⟩, rfl⟩ | rfl | ⟨called, rfl⟩ | ⟨called, rfl⟩ |
    ⟨called, rfl⟩ | rfl
  · exact ⟨rfl, rfl, ⟨called, rfl, rfl⟩, Nat.sub_le _ _, Nat.le_refl _, fun _ => rfl⟩
  · exact ⟨rfl, rfl, ⟨k, rfl, low, silent, fits, rfl⟩, Nat.sub_le _ _, Nat.le_refl _, fun _ => rfl⟩
  · unfold pipOffOf
    rw [closingEvent_eq]
    refine ⟨rfl, rfl, ⟨k, rfl, low, silent, fits, rfl⟩, ?_, Nat.le_max_left _ _, nofun⟩
    dsimp only [mkEvent, pipOnOf, flashOnOf, punchInOf]
    omega
  · exact ⟨rfl, rfl, ⟨rfl, rfl⟩, Nat.sub_le _ _, Nat.le_refl _, fun _ => rfl⟩
  · unfold flashOffOf
    rw [closingEvent_eq]
    refine ⟨rfl, rfl, ⟨called, rfl, rfl⟩, ?_, Nat.le_max_left _ _, nofun⟩
    dsimp only [mkEvent, pipOnOf, flashOnOf, punchInOf]
    omega
  · exact ⟨rfl, rfl, ⟨called, rfl, rfl⟩, Nat.sub_le _ _, Nat.le_refl _, fun _ => rfl⟩
  · unfold punchOutOf
    rw [closingEvent_eq]
    refine ⟨rfl, rfl, ⟨called, rfl, rfl⟩, ?_, Nat.le_max_left _ _, nofun⟩
    dsimp only [mkEvent, pipOnOf, flashOnOf, punchInOf]
    omega
  · exact ⟨rfl, rfl, ⟨rfl, rfl⟩, Nat.sub_le _ _, Nat.le_refl _, fun _ => rfl⟩

/-- Every row that a cue calls for is one of its events. -/
theorem eventOf_of_row {k : EventKind} {pip : Option Nat} {pos : Nat} (row : rowOf d o pMax cue mode ⟨cue.id, order, k, pip, pos, 0⟩) :
    ∃ e, EventOf c d o pMax order cue mode e ∧ e.kind = k ∧ e.pip = pip ∧ e.pos = pos := by
  cases k with
  | streamerBegin =>
    obtain ⟨called, rfl, rfl⟩ := row
    exact ⟨_, .streamer called rfl, rfl, rfl, rfl⟩
  | pipOn =>
    obtain ⟨k, rfl, low, silent, fits, rfl⟩ := row
    exact ⟨_, .pipOn k ⟨low, silent, fits⟩ rfl, rfl, rfl, rfl⟩
  | pipOff =>
    obtain ⟨k, rfl, low, silent, fits, rfl⟩ := row
    exact ⟨_, .pipOff k ⟨low, silent, fits⟩ rfl, by simp [closingEvent_eq, mkEvent]⟩
  | flashOn =>
    obtain ⟨rfl, rfl⟩ := row
    exact ⟨_, .flashOn rfl, rfl, rfl, rfl⟩
  | flashOff =>
    obtain ⟨called, rfl, rfl⟩ := row
    exact ⟨_, .flashOff called rfl, by simp [closingEvent_eq, mkEvent]⟩
  | punchIn =>
    obtain ⟨called, rfl, rfl⟩ := row
    exact ⟨_, .punchIn called rfl, rfl, rfl, rfl⟩
  | punchOut =>
    obtain ⟨called, rfl, rfl⟩ := row
    exact ⟨_, .punchOut called rfl, by simp [closingEvent_eq, mkEvent]⟩
  | lineEnd =>
    obtain ⟨rfl, rfl⟩ := row
    exact ⟨_, .lineEnd rfl, rfl, rfl, rfl⟩

/-- A closing event stands with its opening event, and fires after it (R131). -/
theorem EventOf.opens {b : Event} (row : EventOf c d o pMax order cue mode b) {k : EventKind} (closing : b.kind.opening = some k) :
    ∃ a, EventOf c d o pMax order cue mode a ∧ a.identity = ⟨b.cue, k, b.pip⟩ ∧
      b.fire = max (b.pos - c.advanceOf b.kind) (a.fire + 1) := by
  rcases row with ⟨-, rfl⟩ | ⟨k, -, rfl⟩ | ⟨k, called, rfl⟩ | rfl | ⟨-, rfl⟩ | ⟨-, rfl⟩ | ⟨called, rfl⟩ | rfl
  · cases closing
  · cases closing
  · unfold pipOffOf at closing ⊢
    rw [closingEvent_eq] at closing ⊢
    cases closing
    exact ⟨_, .pipOn k called rfl, rfl, rfl⟩
  · cases closing
  · unfold flashOffOf at closing ⊢
    rw [closingEvent_eq] at closing ⊢
    cases closing
    exact ⟨_, .flashOn rfl, rfl, rfl⟩
  · cases closing
  · unfold punchOutOf at closing ⊢
    rw [closingEvent_eq] at closing ⊢
    cases closing
    exact ⟨_, .punchIn called rfl, rfl, rfl⟩
  · cases closing

/-! ## Each identity once (R126) -/

/-- The part of the list of a cue in which a kind stands. -/
def EventKind.segment : EventKind → Nat
  | .streamerBegin => 0
  | .pipOn => 1
  | .pipOff => 1
  | .flashOn => 2
  | .flashOff => 2
  | .punchIn => 3
  | .punchOut => 3
  | .lineEnd => 4

theorem closingEvent_kind (c : Scheduler) (o : Event) (k : EventKind) (pos : Nat) : (closingEvent c o k pos).kind = k := by
  rw [closingEvent_eq]

theorem nodup_identity_append {l m : List Event} {n : Nat} (left : (l.map Event.identity).Nodup) (right : (m.map Event.identity).Nodup)
    (before : ∀ a ∈ l, a.kind.segment < n) (here : ∀ b ∈ m, b.kind.segment = n) : ((l ++ m).map Event.identity).Nodup := by
  rw [List.map_append, List.nodup_append]
  refine ⟨left, right, fun x memX y memY same => ?_⟩
  obtain ⟨a, memA, rfl⟩ := List.mem_map.1 memX
  obtain ⟨b, memB, rfl⟩ := List.mem_map.1 memY
  have kinds : a.kind = b.kind := congrArg EventId.kind same
  have first := before a memA
  rw [kinds, here b memB] at first
  exact Nat.lt_irrefl _ first

theorem segment_append {l m : List Event} {n : Nat} (before : ∀ a ∈ l, a.kind.segment < n) (here : ∀ b ∈ m, b.kind.segment = n) :
    ∀ x ∈ l ++ m, x.kind.segment < n + 1 := by
  intro x mem
  rcases List.mem_append.1 mem with mem | mem
  · exact Nat.lt_succ_of_lt (before x mem)
  · rw [here x mem]
    exact Nat.lt_succ_self n

theorem pipNumbers_nodup (n : Nat) (silent : Bool) : (pipNumbers n silent).Nodup := by
  rw [pipNumbers, List.nodup_append]
  refine ⟨?_, by cases silent <;> simp, fun x memX y memY same => ?_⟩
  · rw [List.nodup_reverse]
    exact List.nodup_range.map fun a b same => Nat.succ_injective same
  · obtain ⟨j, -, rfl⟩ := List.mem_map.1 (List.mem_reverse.1 memX)
    cases silent
    · have zero : y = 0 := by simpa using memY
      omega
    · simp at memY

/-- The two identities of pip k. -/
theorem pipPair_identities (k : Nat) : (pipPair c o pMax order cue (cue.spacingR d) k).map Event.identity =
    if k * cue.spacingR d * 120 ≤ cue.s then [⟨cue.id, .pipOn, some k⟩, ⟨cue.id, .pipOff, some k⟩] else [] := by
  unfold pipPair
  split
  · simp [closingEvent_eq, mkEvent, Event.identity]
  · rfl

theorem pipEvents_nodup : ((pipEvents c d o pMax order cue).map Event.identity).Nodup := by
  rw [pipEvents, List.map_flatMap, List.nodup_flatMap]
  refine ⟨fun k _ => ?_, (pipNumbers_nodup _ _).imp fun {j k} other x memJ memK => ?_⟩
  · rw [pipPair_identities]
    split <;> simp
  · dsimp only at memJ memK
    rw [pipPair_identities] at memJ memK
    have pip : ∀ n, x ∈ (if n * cue.spacingR d * 120 ≤ cue.s then
        [(⟨cue.id, .pipOn, some n⟩ : EventId), ⟨cue.id, .pipOff, some n⟩] else []) → x.pip = some n := by
      intro n mem
      split at mem
      · simp only [List.mem_cons, List.not_mem_nil, or_false] at mem
        rcases mem with rfl | rfl <;> rfl
      · cases mem
    exact other (Option.some_injective _ ((pip j memJ).symm.trans (pip k memK)))

theorem cueEvents_nodup : ((cueEvents c d o pMax order cue mode).map Event.identity).Nodup := by
  have streamer : ∀ e ∈ streamerEvents c d pMax order cue, e.kind.segment < 1 := fun e mem => by
    obtain ⟨-, rfl⟩ := (mem_streamerEvents c d pMax order cue).1 mem
    exact Nat.zero_lt_one
  have pips : ∀ e ∈ pipEvents c d o pMax order cue, e.kind.segment = 1 := fun e mem => by
    obtain ⟨k, -, rfl | rfl⟩ := (mem_pipEvents c d o pMax order cue).1 mem
    · rfl
    · exact congrArg EventKind.segment (closingEvent_kind _ _ _ _)
  have flashes : ∀ e ∈ flashEvents c o pMax order cue, e.kind.segment = 2 := fun e mem => by
    obtain rfl | ⟨-, rfl⟩ := (mem_flashEvents c o pMax order cue).1 mem
    · rfl
    · exact congrArg EventKind.segment (closingEvent_kind _ _ _ _)
  have punches : ∀ e ∈ punchEvents c d pMax order cue mode, e.kind.segment = 3 := fun e mem => by
    obtain ⟨-, rfl | rfl⟩ := (mem_punchEvents c d pMax order cue mode).1 mem
    · rfl
    · exact congrArg EventKind.segment (closingEvent_kind _ _ _ _)
  have one : ((streamerEvents c d pMax order cue).map Event.identity).Nodup := by
    unfold streamerEvents
    split <;> simp
  have two : ((flashEvents c o pMax order cue).map Event.identity).Nodup := by
    unfold flashEvents
    cases cue.noFlash <;> simp [closingEvent_eq, mkEvent, Event.identity]
  have three : ((punchEvents c d pMax order cue mode).map Event.identity).Nodup := by
    cases mode <;> simp [punchEvents, closingEvent_eq, mkEvent, Event.identity]
  have upToPips := segment_append streamer pips
  have upToFlashes := segment_append upToPips flashes
  refine nodup_identity_append (nodup_identity_append (nodup_identity_append (nodup_identity_append one pipEvents_nodup streamer pips)
    two upToPips flashes) three upToFlashes punches) (List.nodup_singleton _) (segment_append upToFlashes punches) fun b mem => ?_
  rw [List.mem_singleton.1 mem]
  rfl

/-! ## How many -/

theorem length_flatMap_le {α β : Type} (f : α → List β) (n : Nat) (l : List α) (bound : ∀ x ∈ l, (f x).length ≤ n) :
    (l.flatMap f).length ≤ n * l.length := by
  induction l with
  | nil => simp
  | cons x rest ih =>
    have first := bound x List.mem_cons_self
    have others := ih fun y mem => bound y (List.mem_cons_of_mem _ mem)
    rw [List.flatMap_cons, List.length_append, List.length_cons, Nat.mul_succ]
    omega

theorem pipEvents_length (sound : CueInRange cue d o pMax) : (pipEvents c d o pMax order cue).length ≤ 8 := by
  have pairs : ∀ k ∈ pipNumbers (cue.beepsR d) cue.silentLast, (pipPair c o pMax order cue (cue.spacingR d) k).length ≤ 2 := by
    intro k _
    unfold pipPair
    split <;> simp
  have number : (pipNumbers (cue.beepsR d) cue.silentLast).length ≤ 4 := by
    have beeps := sound.beeps
    have sounding := sound.beepsSounding
    cases silent : cue.silentLast
    · have := sounding silent
      simp [pipNumbers]
      omega
    · simpa [pipNumbers] using beeps
  have all := length_flatMap_le _ 2 _ pairs
  unfold pipEvents
  omega

theorem cueEvents_length (sound : CueInRange cue d o pMax) :
    2 ≤ (cueEvents c d o pMax order cue mode).length ∧ (cueEvents c d o pMax order cue mode).length ≤ 14 := by
  have pips := pipEvents_length (c := c) (order := order) sound
  have streamer : (streamerEvents c d pMax order cue).length ≤ 1 := by
    unfold streamerEvents
    split <;> simp
  have flashes : 1 ≤ (flashEvents c o pMax order cue).length ∧ (flashEvents c o pMax order cue).length ≤ 2 := by
    unfold flashEvents
    cases cue.noFlash <;> simp
  have punches : (punchEvents c d pMax order cue mode).length ≤ 2 := by
    cases mode <;> simp [punchEvents]
  simp only [cueEvents, List.length_append, List.length_singleton]
  omega

end

theorem effectiveAdvance_le {a r : Nat} (adv : a ≤ 1200) (rate : r ≤ 240) : effectiveAdvance a r ≤ 2400 := by
  have product : a * r ≤ 1200 * 240 := Nat.mul_le_mul adv rate
  unfold effectiveAdvance
  omega

/-- Settles O50: row by row; a closing event stands with the one opening event of its identity. -/
theorem cueEventsBuilt : Obligations.CueEventsBuilt := by
  refine ⟨fun c d o pMax order cue mode sound => ⟨fun e mem => ?row, fun k pip pos called => ?called, cueEvents_nodup,
    (cueEvents_length sound).1, (cueEvents_length sound).2, fun a memA b memB closing pip => ?opens⟩, fun s => rfl,
    fun a r => effectiveAdvance_le, fun a => ?atRate⟩
  case row => exact ((mem_cueEvents c d o pMax order cue mode).1 mem).row sound
  case called =>
    obtain ⟨e, row, is⟩ := eventOf_of_row (c := c) called
    exact ⟨e, (mem_cueEvents c d o pMax order cue mode).2 row, is⟩
  case opens =>
    have rowA := (mem_cueEvents c d o pMax order cue mode).1 memA
    have rowB := (mem_cueEvents c d o pMax order cue mode).1 memB
    obtain ⟨x, rowX, identity, fire⟩ := rowB.opens closing
    have memX := (mem_cueEvents c d o pMax order cue mode).2 rowX
    have same : x.identity = a.identity := by
      rw [identity, (rowB.row sound).1, pip, Event.identity, (rowA.row sound).1]
    obtain rfl := List.inj_on_of_nodup_map cueEvents_nodup memX memA same
    exact ⟨by omega, fire⟩
  case atRate =>
    unfold effectiveAdvance
    omega

end Sys2Proof.Machine

/-! PROOF. The build of the list (R132, R134 to R136): what it keeps, how often, in which order, and when. -/

namespace Sys2Proof.Machine

-- One proof after another: under the check's memory limit there is no room for a thread per proof.
set_option Elab.async false

/-! ## What a build keeps (R135) -/

/-- An event that a build keeps. -/
def keeps (all : List Event) (fired : List EventId) (p : Nat) (e : Event) : Bool :=
  !fired.contains e.identity && decide (p ≤ e.pos) && !openingDropped all fired p e

theorem openingDropped_iff {all : List Event} {fired : List EventId} {p : Nat} {e : Event} : openingDropped all fired p e = true ↔
    ∃ x ∈ all, e.kind.opening = some x.kind ∧ x.cue = e.cue ∧ x.pip = e.pip ∧ x.pos < p ∧ x.identity ∉ fired := by
  unfold openingDropped
  cases opening : e.kind.opening with
  | none => simp
  | some k =>
    simp only [List.any_eq_true, Bool.and_eq_true, decide_eq_true_eq, Bool.not_eq_true', List.contains_eq_mem,
      decide_eq_false_iff_not, Option.some.injEq]
    refine exists_congr fun x => and_congr_right fun _ => ?_
    constructor
    · rintro ⟨⟨⟨⟨cue, kind⟩, pip⟩, behind⟩, unfired⟩
      exact ⟨kind.symm, cue, pip, behind, unfired⟩
    · rintro ⟨kind, cue, pip, behind, unfired⟩
      exact ⟨⟨⟨⟨cue, kind.symm⟩, pip⟩, behind⟩, unfired⟩

theorem keeps_iff {all : List Event} {fired : List EventId} {p : Nat} {e : Event} : keeps all fired p e = true ↔
    e.identity ∉ fired ∧ p ≤ e.pos ∧ ¬ ∃ x ∈ all, e.kind.opening = some x.kind ∧ x.cue = e.cue ∧ x.pip = e.pip ∧
      x.pos < p ∧ x.identity ∉ fired := by
  rw [← openingDropped_iff, keeps]
  simp [and_assoc]

theorem keptEvents_eq (all : List Event) (fired : List EventId) (p : Nat) :
    keptEvents all fired p = sortEvents (all.filter (keeps all fired p)) := rfl

theorem mem_keptEvents {all : List Event} {fired : List EventId} {p : Nat} {e : Event} :
    e ∈ keptEvents all fired p ↔ e ∈ all ∧ keeps all fired p e = true := by
  rw [keptEvents_eq, mem_sortEvents, List.mem_filter]

theorem insertEvent_perm (e : Event) (l : List Event) : (insertEvent e l).Perm (e :: l) := by
  induction l with
  | nil => exact .refl _
  | cons x rest ih =>
    rw [insertEvent]
    split
    · exact .refl _
    · exact (ih.cons x).trans (.swap e x rest)

theorem sortEvents_perm (l : List Event) : (sortEvents l).Perm l := by
  induction l with
  | nil => exact .refl _
  | cons e rest ih => exact (insertEvent_perm e _).trans (ih.cons e)

theorem keptEvents_perm (all : List Event) (fired : List EventId) (p : Nat) :
    (keptEvents all fired p).Perm (all.filter fun e => decide (e ∈ keptEvents all fired p)) := by
  have same : (all.filter fun e => decide (e ∈ keptEvents all fired p)) = all.filter (keeps all fired p) := by
    refine List.filter_congr fun e mem => ?_
    rw [Bool.eq_iff_iff, decide_eq_true_iff, mem_keptEvents, and_iff_right mem]
  rw [same]
  exact sortEvents_perm _

/-! ## The events of a held set (R126) -/

/-- The events of the cue at a place of a held set. -/
def eventsAt (s : State) (h : HeldSet) (entry : Nat × Nat) : List Event :=
  match findCue s.cues entry.1 with
  | some cue => cueEvents s.sched s.defaults s.outputs s.pMax entry.2 cue h.mode
  | none => []

theorem heldEvents_eq (s : State) (h : HeldSet) : heldEvents s h = h.cues.zipIdx.flatMap (eventsAt s h) := rfl

theorem eventsAt_found {s : State} {id : Nat} {cue : CueRec} (found : findCue s.cues id = some cue) (h : HeldSet) (place : Nat) :
    eventsAt s h (id, place) = cueEvents s.sched s.defaults s.outputs s.pMax place cue h.mode := by
  simp only [eventsAt, found]

theorem mem_heldEvents {s : State} {h : HeldSet} {e : Event} : e ∈ heldEvents s h ↔ ∃ (place id : Nat) (cue : CueRec),
    h.cues[place]? = some id ∧ findCue s.cues id = some cue ∧
    e ∈ cueEvents s.sched s.defaults s.outputs s.pMax place cue h.mode := by
  rw [heldEvents_eq, List.mem_flatMap]
  constructor
  · rintro ⟨⟨id, place⟩, mem, here⟩
    cases found : findCue s.cues id with
    | none => simp [eventsAt, found] at here
    | some cue => exact ⟨place, id, cue, List.mem_zipIdx_iff_getElem?.1 mem, found, eventsAt_found found h place ▸ here⟩
  · rintro ⟨place, id, cue, there, found, here⟩
    exact ⟨(id, place), List.mem_zipIdx_iff_getElem?.2 there, (eventsAt_found found h place).symm ▸ here⟩

theorem heldEvents_split {s : State} {h : HeldSet} {ids more : List Nat} {id : Nat} {cue : CueRec} (split : h.cues = ids ++ id :: more)
    (found : findCue s.cues id = some cue) : ∃ before after : List Event, heldEvents s h =
      before ++ cueEvents s.sched s.defaults s.outputs s.pMax ids.length cue h.mode ++ after := by
  refine ⟨ids.zipIdx.flatMap (eventsAt s h), (more.zipIdx (ids.length + 1)).flatMap (eventsAt s h), ?_⟩
  rw [heldEvents_eq, split, List.zipIdx_append, List.flatMap_append, List.zipIdx_cons, List.flatMap_cons, Nat.zero_add,
    eventsAt_found found, List.append_assoc]

/-! ## Requests (R134) -/

theorem armed_held_iff (s : State) : armed s = true ↔ s.sched.held.isSome = true ∧ (s.pass.state = .inPass ∨
    (s.pass.state = .standby ∧ (∃ w : OwnWindow, s.pass.own = some w ∧ w.label = s.agr.passNumber) ∧
      s.agr.transport ≠ .rolling)) := by
  have label : s.pass.own.map OwnWindow.label = some s.agr.passNumber ↔
      ∃ w : OwnWindow, s.pass.own = some w ∧ w.label = s.agr.passNumber := Option.map_eq_some_iff
  simp [armed, label, and_assoc]

theorem build_log (h : HeldSet) (s : State) :
    ((∃ e ∈ keptEvents (heldEvents s h) s.sched.fired s.posn.p, e.fire < s.posn.p) →
      (build h s).log = (flagLateEvents s).log) ∧
    ((∀ e ∈ keptEvents (heldEvents s h) s.sched.fired s.posn.p, s.posn.p ≤ e.fire) → (build h s).log = s.log) := by
  unfold build
  constructor
  · intro late
    rw [if_pos (by simpa using late)]
    rfl
  · intro inTime
    rw [if_neg (by simpa using inTime)]
    rfl

/-- Settles O51: the build, the request, the events of a set, and the order. -/
theorem eventListBuilt : Obligations.EventListBuilt := by
  refine ⟨fun all fired p => ⟨fun e => by rw [mem_keptEvents, keeps_iff], sortEvents_ordered _⟩, fun s h held isArmed => ?_,
    requestBuild_of_not_armed, armed_held_iff, fun s h e => mem_heldEvents, fun s h ids more id cue => heldEvents_split,
    keptEvents_perm, Event.before_iff, rfl⟩
  rw [requestBuild_of_armed s h held isArmed]
  exact ⟨build_events h s, build_log h s⟩

end Sys2Proof.Machine

/-! PROOF. The group of an advance (R141, R142, R147 to R149, R153 to R156): what is due, what each kind does, and the settled lines. -/

namespace Sys2Proof.Machine

-- One proof after another: under the check's memory limit there is no room for a thread per proof.
set_option Elab.async false

/-! ## What is due (R141) -/

theorem due_split {p : Nat} {l : List Event} (ordered : l.Pairwise fun a b => b.before a = false) :
    (l.takeWhile fun e => decide (e.fire ≤ p)) = l.filter (fun e => decide (e.fire ≤ p)) ∧
    (l.dropWhile fun e => decide (e.fire ≤ p)) = l.filter (fun e => decide (p < e.fire)) := by
  induction l with
  | nil => exact ⟨rfl, rfl⟩
  | cons x rest ih =>
    obtain ⟨first, others⟩ := List.pairwise_cons.1 ordered
    obtain ⟨taken, left⟩ := ih others
    by_cases reached : x.fire ≤ p
    · simp [reached, taken, left, Nat.not_lt.2 reached]
    · have beyond : ∀ e ∈ rest, p < e.fire := fun e mem => by
        have after := first e mem
        rw [← Bool.not_eq_true, Event.before_iff] at after
        omega
      have kept : rest.filter (fun e => decide (p < e.fire)) = rest := List.filter_eq_self.2 fun e mem => by simpa using beyond e mem
      have none : rest.filter (fun e => decide (e.fire ≤ p)) = [] :=
        List.filter_eq_nil_iff.2 fun e mem => by simpa using beyond e mem
      simp [reached, Nat.not_le.1 reached, kept, none]

theorem dueEvents_eq {s : State} (ordered : EventsOrdered s) : dueEvents s = s.sched.events.filter fun e => decide (e.fire ≤ s.posn.p) :=
  (due_split ordered).1

/-- List and fired record as a group leaves them. -/
def firedSched (s : State) (due left : List Event) : Scheduler :=
  { s.sched with events := left, fired := s.sched.fired ++ due.map Event.identity }

/-- A group that is not empty: its events take effect in list order, then the lines are settled. -/
theorem fireGroup_of_due {s : State} {due left : List Event} (taken : dueEvents s = due) (some : due ≠ [])
    (dropped : (s.sched.events.dropWhile fun e => decide (e.fire ≤ s.posn.p)) = left) :
    fireGroup s = (due.foldl fireEvent (s.setSched (firedSched s due left))).setOut
      (settleLines (due.foldl fireEvent (s.setSched (firedSched s due left))).out) := by
  subst taken dropped
  exact if_neg (by simpa using some)

theorem fireGroup_of_none {s : State} (none : dueEvents s = []) : fireGroup s = s := by
  unfold fireGroup
  rw [none]
  rfl

/-! ## What each kind does (R148, R149, R153, R155, R156) -/

theorem settleLines_of_settled {o : OutputUnits} (settled : LinesSettled o) : settleLines o = o := by
  obtain ⟨gate, pitchLine, punch, rest⟩ := settled
  have pitch : (if o.pipCount = 0 then .normal else o.pitch) = o.pitch := by
    split
    · exact (rest ‹_›).symm
    · rfl
  rw [settleLines, ← gate, ← punch, pitch, gate, ← pitchLine, ← gate]

section
variable {s : State} {e : Event}

theorem fireEvent_laneA {cue : CueRec} (found : findCue s.cues e.cue = some cue) (kind : e.kind = .streamerBegin)
    (free : s.out.laneA = none) : fireEvent s e = s.setOut { s.out with laneA := some ⟨e.cue, e.pos, cue.s⟩ } := by
  simp [fireEvent, kind, fireStreamer, free, found]

theorem fireEvent_laneB {cue : CueRec} (found : findCue s.cues e.cue = some cue) (kind : e.kind = .streamerBegin)
    (held : s.out.laneA.isSome = true) (free : s.out.laneB = none) :
    fireEvent s e = s.setOut { s.out with laneB := some ⟨e.cue, e.pos, cue.s⟩ } := by
  obtain ⟨l, lane⟩ := Option.isSome_iff_exists.1 held
  simp [fireEvent, kind, fireStreamer, lane, free, found]

theorem fireEvent_overlap (kind : e.kind = .streamerBegin) (heldA : s.out.laneA.isSome = true) (heldB : s.out.laneB.isSome = true) :
    fireEvent s e = writeTakeCue e.cue (fun c => { c with overlap := true }) s := by
  obtain ⟨a, laneA⟩ := Option.isSome_iff_exists.1 heldA
  obtain ⟨b, laneB⟩ := Option.isSome_iff_exists.1 heldB
  simp [fireEvent, kind, fireStreamer, laneA, laneB]

theorem fireEvent_pipOn {cue : CueRec} (found : findCue s.cues e.cue = some cue) (kind : e.kind = .pipOn) :
    fireEvent s e = s.setOut { s.out with
      pipCount := s.out.pipCount + 1
      pitch := if s.outputs.accentLast = true ∧ e.pip = some (if cue.silentLast then 1 else 0) then .accent else .normal } := by
  simp [fireEvent, kind, firePipOn, nearestPip, found]

theorem fireEvent_flashOn {cue : CueRec} (found : findCue s.cues e.cue = some cue) (kind : e.kind = .flashOn) :
    fireEvent s e = s.setOut { s.out with
      laneA := s.out.laneA.filter (fun l => decide (l.cue ≠ e.cue))
      laneB := s.out.laneB.filter (fun l => decide (l.cue ≠ e.cue))
      flashCount := if cue.noFlash then s.out.flashCount else s.out.flashCount + 1 } := by
  simp [fireEvent, kind, fireFlashOn, freeLane, noFlashOf, found]

theorem fireEvent_pipOff (kind : e.kind = .pipOff) : fireEvent s e = s.setOut { s.out with pipCount := s.out.pipCount - 1 } := by
  simp only [fireEvent, kind]

theorem fireEvent_flashOff (kind : e.kind = .flashOff) :
    fireEvent s e = s.setOut { s.out with flashCount := s.out.flashCount - 1 } := by
  simp only [fireEvent, kind]

/-- The first punch-in of a pass is kept (R156). -/
theorem fireEvent_punchIn (kind : e.kind = .punchIn) : fireEvent s e = writeTake (fun r => { r with
      punchIn := some (r.punchIn.getD (min (s.posn.p + s.sched.advPunchIn) s.pMax)) })
    (s.setOut { s.out with punchCount := s.out.punchCount + 1 }) := by
  simp only [fireEvent, kind, firePunchIn]
  congr 1
  funext r
  obtain ⟨number, passNumber, stepIndex, mode, outcome, punchIn, punchOut, flags, cues⟩ := r
  cases punchIn <;> simp [landing, Scheduler.advanceOf]

theorem fireEvent_punchOut (kind : e.kind = .punchOut) : fireEvent s e = writeTake (fun r => { r with
      punchOut := some (min (s.posn.p + s.sched.advPunchOut) s.pMax) })
    (s.setOut { s.out with punchCount := s.out.punchCount - 1 }) := by
  simp only [fireEvent, kind, firePunchOut]
  rfl

theorem fireEvent_lineEnd (kind : e.kind = .lineEnd) : fireEvent s e = closeWindow e.cue s := by
  simp only [fireEvent, kind]

end

theorem closeWindow_setSched (cue : Nat) (s : State) (x : Scheduler) :
    closeWindow cue (s.setSched x) = (closeWindow cue s).setSched x := by
  unfold closeWindow
  rw [State.setSched_onset]
  split
  · dsimp only
    rw [show credited (s.setSched x) cue = credited s cue from rfl]
    split <;> rfl
  · rfl

/-! ## Writes into the take (R170) -/

theorem writeTake_self {f : TakeRec → TakeRec} {s : State} (closed : ∀ r ∈ s.log.records, r.outcome ≠ .inProgress) : writeTake f s = s := by
  exact writeTake_of_none f s closed

theorem writeTake_middle {f : TakeRec → TakeRec} {s : State} {before after : List TakeRec} {r : TakeRec}
    (records : s.log.records = before ++ r :: after) (running : r.outcome = .inProgress)
    (others : ∀ x ∈ before ++ after, x.outcome ≠ .inProgress) :
    writeTake f s = s.setLog ⟨before ++ f r :: after, s.log.counter⟩ := by
  have kept : ∀ l : List TakeRec, (∀ x ∈ l, x.outcome ≠ .inProgress) →
      l.map (fun x => if x.outcome = .inProgress then f x else x) = l := fun l closed =>
    (List.map_congr_left fun x mem => if_neg (closed x mem)).trans (List.map_id l)
  rw [writeTake, records, List.map_append, List.map_cons, if_pos running,
    kept before fun x mem => others x (List.mem_append_left _ mem), kept after fun x mem => others x (List.mem_append_right _ mem)]

/-! ## A group of one event -/

/-- Settled lines with a new pip count and pitch settle in the pip lines alone (R154). -/
theorem settleLines_pips {o : OutputUnits} (settled : LinesSettled o) (n : Nat) (pitch : Pitch) :
    settleLines { o with pipCount := n, pitch := pitch } = { o with
      pipCount := n, pitch := if n = 0 then .normal else pitch
      pipg := decide (0 < n), pipp := decide (0 < n) && decide (pitch = .accent) } := by
  simp only [settleLines, ← settled.punch]

/-- Settled lines with a new punch count settle in the punch line alone (R155). -/
theorem settleLines_punch {o : OutputUnits} (settled : LinesSettled o) (n : Nat) :
    settleLines { o with punchCount := n } = { o with punchCount := n, punch := decide (0 < n) } :=
  congrArg (fun x : OutputUnits => { x with punchCount := n, punch := decide (0 < n) }) (settleLines_of_settled settled)

/-- One event fired from an advanced list, and the lines settled. -/
theorem fireGroup_one {s : State} {e : Event} {rest : List Event} (listed : s.sched.events = e :: rest) (reached : e.fire ≤ s.posn.p)
    (beyond : ∀ x ∈ rest, s.posn.p < x.fire) : fireGroup s =
      (fireEvent (s.setSched (firedSched s [e] rest)) e).setOut
        (settleLines (fireEvent (s.setSched (firedSched s [e] rest)) e).out) := by
  have none : (rest.takeWhile fun e => decide (e.fire ≤ s.posn.p)) = [] := by
    cases rest with
    | nil => rfl
    | cons x more => simp [beyond x List.mem_cons_self]
  have all : (rest.dropWhile fun e => decide (e.fire ≤ s.posn.p)) = rest := by
    cases rest with
    | nil => rfl
    | cons x more => simp [beyond x List.mem_cons_self]
  refine fireGroup_of_due (due := [e]) (left := rest) ?_ nofun ?_
  · rw [dueEvents, listed]
    simp [reached, none]
  · rw [listed]
    simp [reached, all]

/-- Settles O52: the group by its list, one event by its kind, and the writes into the take. -/
theorem groupFires : Obligations.GroupFires := by
  refine ⟨fun s ordered => ?group, fun s beyond => fireGroup_of_none ?none, fun s e rest cue listed reached beyond settled found => ?one,
    fun s u due ordered is some after => ?whole, fun s e cue found => ⟨fun kind => ⟨fireEvent_laneA found kind, fireEvent_laneB found kind,
      fireEvent_overlap kind⟩, fireEvent_pipOn found, fireEvent_flashOn found⟩,
    fun s e => ⟨fireEvent_pipOff, fireEvent_flashOff, fireEvent_punchIn, fireEvent_punchOut, fireEvent_lineEnd⟩,
    fun f s => ⟨rfl, writeTake_self, fun before after r => writeTake_middle⟩, fun cue f s => rfl, fun s => ⟨rfl, rfl, rfl, rfl⟩⟩
  case group =>
    obtain ⟨taken, left⟩ := due_split (p := s.posn.p) ordered
    cases due : dueEvents s with
    | nil =>
      have none : s.sched.events.filter (fun e => decide (e.fire ≤ s.posn.p)) = [] := taken ▸ due
      rw [fireGroup_of_none due, none, ← left]
      have all : (s.sched.events.dropWhile fun e => decide (e.fire ≤ s.posn.p)) = s.sched.events := by
        have whole := List.takeWhile_append_dropWhile (p := fun e : Event => decide (e.fire ≤ s.posn.p)) (l := s.sched.events)
        rw [show (s.sched.events.takeWhile fun e => decide (e.fire ≤ s.posn.p)) = [] from due] at whole
        exact whole
      rw [all]
      simp
    | cons e more =>
      rw [fireGroup_of_due due nofun left, ← taken]
      rw [show (s.sched.events.takeWhile fun e => decide (e.fire ≤ s.posn.p)) = e :: more from due]
      refine ⟨?_, fun _ => settleLines_settled _⟩
      exact (foldl_keeps State.sched fireEvent (by simp) _ _)
  case none =>
    rw [dueEvents, List.takeWhile_eq_nil_iff]
    intro some
    simpa using beyond _ (List.getElem_mem some)
  case one =>
    rw [fireGroup_one listed reached beyond]
    have foundHere : findCue (s.setSched (firedSched s [e] rest)).cues e.cue = some cue := found
    have quiet : settleLines s.out = s.out := settleLines_of_settled settled
    have advances : (firedSched s [e] rest).advPunchIn = s.sched.advPunchIn ∧ (firedSched s [e] rest).advPunchOut = s.sched.advPunchOut :=
      ⟨rfl, rfl⟩
    generalize firedSched s [e] rest = x at foundHere advances
    obtain ⟨punchIn, punchOut⟩ := advances
    refine ⟨fun kind free => ?_, fun kind held free => ?_, fun kind heldA heldB => ?_, fun kind => ?_, fun kind last => ?_,
      fun kind more => ?_, fun kind => ?_, fun kind => ?_, fun kind => ?_, fun kind => ?_, fun kind => ?_, by simp⟩
    · rw [fireEvent_laneA foundHere kind free]
      exact ⟨congrArg (fun o : OutputUnits => { o with laneA := some ⟨e.cue, e.pos, cue.s⟩ }) quiet, rfl⟩
    · rw [fireEvent_laneB foundHere kind held free]
      exact ⟨congrArg (fun o : OutputUnits => { o with laneB := some ⟨e.cue, e.pos, cue.s⟩ }) quiet, rfl⟩
    · rw [fireEvent_overlap (s := s.setSched x) kind heldA heldB]
      exact ⟨quiet, rfl⟩
    · rw [fireEvent_pipOn foundHere kind]
      refine (settleLines_pips settled _ _).trans ?_
      by_cases accent : s.outputs.accentLast = true ∧ e.pip = some (if cue.silentLast = true then 1 else 0)
      · simp [accent]
      · cases last : s.outputs.accentLast <;> simp_all
    · rw [fireEvent_pipOff (s := s.setSched x) kind]
      refine (settleLines_pips settled _ s.out.pitch).trans ?_
      simp [last]
    · rw [fireEvent_pipOff (s := s.setSched x) kind]
      have left : s.out.pipCount - 1 ≠ 0 := by omega
      refine (settleLines_pips settled (s.out.pipCount - 1) s.out.pitch).trans ?_
      rw [if_neg left, decide_eq_true (Nat.pos_of_ne_zero left)]
      simp [settled.gate, settled.pitchLine, Nat.lt_trans Nat.zero_lt_one more]
    · rw [fireEvent_flashOn foundHere kind]
      exact congrArg (fun o : OutputUnits => { o with
        laneA := o.laneA.filter (fun l => decide (l.cue ≠ e.cue)), laneB := o.laneB.filter (fun l => decide (l.cue ≠ e.cue))
        flashCount := if cue.noFlash then o.flashCount else o.flashCount + 1 }) quiet
    · rw [fireEvent_flashOff (s := s.setSched x) kind]
      exact congrArg (fun o : OutputUnits => { o with flashCount := o.flashCount - 1 }) quiet
    · rw [fireEvent_punchIn (s := s.setSched x) kind]
      rw [show (s.setSched x).sched.advPunchIn = s.sched.advPunchIn from punchIn]
      refine ⟨(settleLines_punch settled (s.out.punchCount + 1)).trans ?_, rfl⟩
      rw [decide_eq_true (Nat.succ_pos _)]
    · rw [fireEvent_punchOut (s := s.setSched x) kind]
      rw [show (s.setSched x).sched.advPunchOut = s.sched.advPunchOut from punchOut]
      refine ⟨(settleLines_punch settled (s.out.punchCount - 1)).trans ?_, rfl⟩
      rw [decide_eq_decide.2 (show 0 < s.out.punchCount - 1 ↔ 1 < s.out.punchCount by omega)]
    · rw [fireEvent_lineEnd (s := s.setSched x) kind, closeWindow_setSched]
      refine ⟨?_, ?_, rfl, rfl⟩
      · rw [State.setOut_out, State.setSched_out, show (closeWindow e.cue s).out = s.out by simp, quiet]
      · simp [closeWindow_openWindows]
  case whole =>
    subst is after
    exact fireGroup_of_due (dueEvents_eq ordered) some (due_split ordered).2

end Sys2Proof.Machine

/-! PROOF. The overlay word and its port (R150 to R152, R158, R160, R202). -/

namespace Sys2Proof.Machine

-- One proof after another: under the check's memory limit there is no room for a thread per proof.
set_option Elab.async false

/-! ## The port (R160) -/

theorem exec_ovsync {s : State} (high : s.resetnLow = false) : exec .ovsync s = .next (s.setOut (overlaySync s.out)) := by
  simp [exec, execOvsync, high]

theorem exec_ovclk {s : State} (high : s.resetnLow = false) : exec .ovclk s = .next (s.setOut (overlayClock s.out)) := by
  simp [exec, execOvclk, high]

theorem exec_port_low {s : State} (low : s.resetnLow = true) : exec .ovsync s = .next s ∧ exec .ovclk s = .next s := by
  simp [exec, execOvsync, execOvclk, low]

/-- A clock within a word brings out the next bit, and the one behind the last bit ends the shift. -/
theorem exec_ovclk_shifting {s : State} {w : OverlayWord} {k : Nat} (high : s.resetnLow = false) (shifting : s.out.shifter = .shifting w k) :
    exec .ovclk s = .next (s.setOut { s.out with shifter := if k = 64 then .idle else .shifting w (k + 1) }) := by
  rw [exec_ovclk high, overlayClock, shifting]
  simp [Config.overlayBits]

theorem runCommands_clocks {s : State} {w : OverlayWord} {k : Nat} (high : s.resetnLow = false) (shifting : s.out.shifter = .shifting w k)
    (n : Nat) (more : List Instr) (within_ : k + n ≤ 64) : runCommands (List.replicate n .ovclk ++ more) s =
      runCommands more (s.setOut { s.out with shifter := .shifting w (k + n) }) := by
  induction n generalizing s k with
  | zero =>
    rw [Nat.add_zero, ← shifting]
    rfl
  | succ n ih =>
    have step := exec_ovclk_shifting high shifting
    rw [if_neg (by omega)] at step
    rw [List.replicate_succ, List.cons_append, runCommands_cons _ step,
      ih (s := s.setOut { s.out with shifter := .shifting w (k + 1) }) high rfl (by omega), show k + 1 + n = k + (n + 1) by omega]
    rfl

/-! ## The layout (R202) -/

theorem bitsNum_cons_acc (bs : List Bool) (n : Nat) : bs.foldl (fun n b => 2 * n + b.toNat) n = n * 2 ^ bs.length + bitsNum bs := by
  unfold bitsNum
  induction bs generalizing n with
  | nil => simp
  | cons b rest ih =>
    rw [List.foldl_cons, List.foldl_cons, ih, ih (2 * 0 + b.toNat), List.length_cons, Nat.pow_succ]
    ring

theorem numBits_length (w n : Nat) : (numBits w n).length = w := by
  induction w with
  | zero => rfl
  | succ w ih => rw [numBits, List.length_cons, ih]

/-- Bits written from a number spell it again, at their width. -/
theorem bitsNum_numBits (w n : Nat) : bitsNum (numBits w n) = n % 2 ^ w := by
  induction w with
  | zero => simp [numBits, bitsNum, Nat.mod_one]
  | succ w ih =>
    rw [numBits, bitsNum, List.foldl_cons, bitsNum_cons_acc, ih, numBits_length, Nat.mod_pow_succ, Nat.testBit_eq_decide_div_mod_eq]
    rcases Nat.mod_two_eq_zero_or_one (n / 2 ^ w) with bit | bit <;> simp [bit]; omega

theorem bitsNum_numBits_of_lt {w n : Nat} (fits : n < 2 ^ w) : bitsNum (numBits w n) = n := by
  rw [bitsNum_numBits, Nat.mod_eq_of_lt fits]

theorem wire_length (w : OverlayWord) : w.wire.length = 65 := rfl

/-! ## The word (R150 to R152, R158) -/

/-- The column of a held lane, by the display position (R150). -/
theorem laneColumn_eq {l : Lane} (later : l.b < l.s) (w q : Nat) : laneColumn w q l =
    if q ≤ l.b then 0 else if l.s ≤ q then w - 1 else w * (q - l.b) / (l.s - l.b) := by
  unfold laneColumn
  have span : 0 < l.s - l.b := by omega
  by_cases before : q ≤ l.b
  · rw [if_pos before, Nat.sub_eq_zero_of_le before]
    simp
    omega
  · rw [if_neg before]
    by_cases beyond : l.s ≤ q
    · rw [if_pos beyond, Nat.min_eq_right (by omega), Nat.mul_div_cancel _ span]
      simp
    · rw [if_neg beyond, Nat.min_eq_left (by omega)]
      dsimp only
      split
      case isTrue full =>
        cases w with
        | zero => simp
        | succ n =>
          have below : (n + 1) * (q - l.b) / (l.s - l.b) < n + 1 :=
            Nat.div_lt_of_lt_mul (by rw [Nat.mul_comm]; exact Nat.mul_lt_mul_of_pos_right (by omega) (Nat.succ_pos n))
          omega
      case isFalse => rfl

theorem labelCue_none {s : State} (none : ∀ e ∈ s.sched.events, e.kind ≠ .lineEnd) : labelCue s = Option.none := by
  have empty : s.sched.events.filter (fun e => decide (e.kind = .lineEnd)) = [] :=
    List.filter_eq_nil_iff.2 fun e mem => by simpa using none e mem
  rw [labelCue, empty]

/-- The fold of the lower set order stands still on the event that is below all others. -/
theorem foldl_lowerOrder {e : Event} (l : List Event) (x : Event) (mem : e ∈ x :: l) (least : ∀ y ∈ x :: l, y = e ∨ e.order < y.order) :
    l.foldl lowerOrder x = e := by
  induction l generalizing x with
  | nil => exact (List.mem_singleton.1 mem).symm
  | cons y rest ih =>
    rw [List.foldl_cons]
    have ofY := least y (List.mem_cons_of_mem _ List.mem_cons_self)
    have ofX := least x List.mem_cons_self
    refine ih _ ?_ fun z memZ => ?_
    · unfold lowerOrder
      rcases List.mem_cons.1 mem with rfl | mem
      · rw [if_neg (by rcases ofY with rfl | above <;> omega)]
        exact List.mem_cons_self
      · rcases List.mem_cons.1 mem with rfl | mem
        · rcases ofX with rfl | above
          · simp
          · rw [if_pos above]
            exact List.mem_cons_self
        · exact List.mem_cons_of_mem _ mem
    · rcases List.mem_cons.1 memZ with rfl | memZ
      · unfold lowerOrder
        split
        · exact ofY
        · exact ofX
      · exact least z (List.mem_cons_of_mem _ (List.mem_cons_of_mem _ memZ))

/-- The label cue is that of the LINE_END of lowest set order (R151). -/
theorem labelCue_some {s : State} {e : Event} (mem : e ∈ s.sched.events) (kind : e.kind = .lineEnd)
    (least : ∀ x ∈ s.sched.events, x.kind = .lineEnd → x = e ∨ e.order < x.order) : labelCue s = some e.cue := by
  have here : e ∈ s.sched.events.filter fun e => decide (e.kind = .lineEnd) := by simp [mem, kind]
  unfold labelCue
  split
  case h_1 empty =>
    rw [empty] at here
    cases here
  case h_2 x rest listed =>
    rw [listed] at here
    rw [foldl_lowerOrder rest x here]
    intro y memY
    rw [← listed, List.mem_filter, decide_eq_true_eq] at memY
    exact least y memY.1 memY.2

/-- Settles O53: the port, the fields of a composed word, and the layout. -/
theorem overlayShiftsWord : Obligations.OverlayShiftsWord := by
  refine ⟨fun s w high idle buffer => ?sync, fun s rests => ?noSync, fun s idle => ⟨?noClock, by simp [OutputUnits.ovdat, idle]⟩,
    fun s w k high shifting within_ => ?clocks, fun s w high shifting => ?whole, fun s => ?fields,
    fun s l q w column later is width value => ?columns, fun s none => ?noLabel, fun s e cue q mem kind least found is => ?label,
    fun w => ⟨rfl, rfl, bitsNum_numBits_of_lt (w := 12) (n := w.laneA), bitsNum_numBits_of_lt (w := 12) (n := w.laneB), rfl,
      bitsNum_numBits_of_lt (w := 8) (n := w.countdown), bitsNum_numBits_of_lt (w := 16) (n := w.label),
      bitsNum_numBits_of_lt (w := 4) (n := w.tag), bitsNum_numBits_of_lt (w := 2) (n := w.transport.code) ?code,
      bitsNum_numBits_of_lt (w := 7) (n := w.take)⟩⟩
  case sync =>
    rw [exec_ovsync high]
    simp [overlaySync, idle, buffer]
  case noSync =>
    cases low : s.resetnLow with
    | true => exact (exec_port_low low).1
    | false =>
      rw [exec_ovsync low]
      have still : overlaySync s.out = s.out := by
        unfold overlaySync
        split
        case h_1 w idle buffer => simp [low, idle, buffer] at rests
        case h_2 => rfl
      rw [still]
      rfl
  case noClock =>
    cases low : s.resetnLow with
    | true => exact (exec_port_low low).2
    | false =>
      rw [exec_ovclk low, overlayClock, idle]
      rfl
  case clocks =>
    refine ⟨w.wire[k]'(by rw [wire_length]; exact within_), List.getElem?_eq_getElem _, ?_, ?_⟩
    · have run := runCommands_clocks high shifting k [] (by omega)
      rw [List.append_nil, Nat.zero_add] at run
      exact run
    · have there : w.wire[k]? = some (w.wire[k]'(by rw [wire_length]; exact within_)) := List.getElem?_eq_getElem _
      simp [OutputUnits.ovdat, there]
  case whole =>
    have last := exec_ovclk_shifting (s := s.setOut { s.out with shifter := .shifting w 64 }) (w := w) (k := 64) high rfl
    have run := runCommands_clocks high shifting 64 [.ovclk] (by omega)
    rw [Nat.zero_add, runCommands_cons _ last] at run
    exact run
  case fields => exact ⟨rfl, rfl, rfl, rfl, rfl, fun free => by simp [overlayWord, columnField, free],
    fun free => by simp [overlayWord, columnField, free]⟩
  case columns =>
    subst is width value
    constructor
    · intro held
      simp only [overlayWord, columnField, held]
      exact laneColumn_eq later _ _
    · intro held
      simp only [overlayWord, columnField, held]
      exact laneColumn_eq later _ _
  case noLabel => simp [overlayWord, labelCue_none none]
  case label =>
    subst is
    simp only [overlayWord, labelCue_some mem kind least, Option.bind_some, found, Option.map_some, Option.getD_some]
    exact ⟨trivial, trivial, fun before => if_pos before, fun beyond => if_neg (Nat.not_lt.2 beyond)⟩
  case code => cases w.transport <;> decide

end Sys2Proof.Machine

/-! PROOF. The onset windows and the level port (R163 to R167). -/

namespace Sys2Proof.Machine

-- One proof after another: under the check's memory limit there is no room for a thread per proof.
set_option Elab.async false

/-! ## The level port (R163) -/

theorem exec_levelSample {s : State} (high : s.resetnLow = false) (pulses : List LevelPulse) :
    exec (.levelSample pulses) s = .next (pulses.foldl levelPulse s) := by
  simp [exec, execLevelSample, high]

theorem exec_levelSample_low {s : State} (low : s.resetnLow = true) (pulses : List LevelPulse) :
    exec (.levelSample pulses) s = .next s := by
  simp [exec, execLevelSample, low]

theorem levelPulses_resetnLow (pulses : List LevelPulse) (s : State) : (pulses.foldl levelPulse s).resetnLow = s.resetnLow :=
  foldl_keeps State.resetnLow levelPulse (by simp) pulses s

/-- Bits that do not complete a sample are kept. -/
theorem clocks_part {s : State} {begun : List Bool} (bits : List Bool) (sample : s.onset.sample = some begun)
    (part : begun.length + bits.length < 8) : (bits.map LevelPulse.clock).foldl levelPulse s =
      s.setOnset { s.onset with sample := some (bits.reverse ++ begun) } := by
  induction bits generalizing s begun with
  | nil =>
    rw [List.reverse_nil, List.nil_append, ← sample]
    rfl
  | cons b rest ih =>
    rw [List.length_cons] at part
    have one : levelPulse s (.clock b) = s.setOnset { s.onset with sample := some (b :: begun) } := by
      simp only [levelPulse, sample]
      rw [if_neg (by omega)]
    rw [List.map_cons, List.foldl_cons, one,
      ih (s := s.setOnset { s.onset with sample := some (b :: begun) }) rfl (by rw [List.length_cons]; omega),
      List.reverse_cons, List.append_assoc]
    rfl

/-- The bit that completes a sample makes it arrive. -/
theorem clocks_whole {s : State} {begun : List Bool} (bits : List Bool) (sample : s.onset.sample = some begun)
    (whole : begun.length + bits.length = 8) (some_ : bits ≠ []) : (bits.map LevelPulse.clock).foldl levelPulse s =
      arrive (bitsNum (begun.reverse ++ bits)) (s.setOnset { s.onset with sample := none }) := by
  obtain ⟨first, last, rfl⟩ := List.eq_nil_or_concat bits |>.resolve_left some_
  rw [List.concat_eq_append] at whole ⊢
  rw [List.length_append, List.length_singleton] at whole
  rw [List.map_append, List.foldl_append, clocks_part first sample (by omega)]
  have full : (first.reverse ++ begun).length = 7 := by
    rw [List.length_append, List.length_reverse]
    omega
  simp only [List.map_cons, List.map_nil, List.foldl_cons, List.foldl_nil, levelPulse, State.setOnset_onset, if_pos full]
  rw [List.reverse_cons, List.reverse_append, List.reverse_reverse, List.append_assoc]
  rfl

theorem clocks_idle {s : State} (sample : s.onset.sample = none) (bits : List Bool) :
    (bits.map LevelPulse.clock).foldl levelPulse s = s := by
  induction bits with
  | nil => rfl
  | cons b rest ih =>
    have one : levelPulse s (.clock b) = s := by simp only [levelPulse, sample]
    rw [List.map_cons, List.foldl_cons, one, ih]

/-- A sample behind its LVSYNC. -/
theorem sample_whole {s : State} {bits : List Bool} (whole : bits.length = 8) :
    ((LevelPulse.sync :: bits.map .clock).foldl levelPulse s) = arrive (bitsNum bits) (s.setOnset { s.onset with sample := none }) := by
  have some_ : bits ≠ [] := by
    rintro rfl
    cases whole
  exact clocks_whole (s := s.setOnset { s.onset with sample := some [] }) bits rfl (by simpa using whole) some_

theorem sample_part {s : State} {bits : List Bool} (part : bits.length < 8) :
    ((LevelPulse.sync :: bits.map .clock).foldl levelPulse s) = s.setOnset { s.onset with sample := some bits.reverse } := by
  rw [List.foldl_cons, show levelPulse s .sync = s.setOnset { s.onset with sample := some [] } from rfl,
    clocks_part (s := s.setOnset { s.onset with sample := some [] }) bits rfl (by simpa using part), List.append_nil]
  rfl

/-! ## Arrivals (R166, R167) -/

theorem arrive_sample (v : Nat) (s : State) : (arrive v s).onset.sample = s.onset.sample := by
  unfold arrive judgeSample trigger
  (repeat' split) <;> rfl

theorem arrive_running {s : State} (running : s.running = true) (v : Nat) : arrive v s = judgeSample v s := if_pos running

theorem find_uncredited {s : State} {before after : List Nat} {id : Nat} (split : s.onset.openWindows = before ++ id :: after)
    (others : ∀ x ∈ before, credited s x = true) (here : credited s id = false) :
    s.onset.openWindows.find? (fun x => !credited s x) = some id := by
  rw [split, List.find?_append, List.find?_eq_none.2 fun x mem => by simp [others x mem], Option.none_or,
    List.find?_cons_of_pos (by simp [here])]

/-- A sample that the detector ignores. -/
theorem arrive_ignored {s : State} {v : Nat} (ignored : s.port.part = .config ∨ s.onset.detector = .idle ∨
      (s.onset.detector = .waitingQuiet ∧ s.onsetRec.armLevel < v) ∨
      (s.onset.detector = .armed ∧ v < s.onsetRec.triggerLevel) ∨
      (s.onset.detector = .armed ∧ ∀ id ∈ s.onset.openWindows, credited s id = true)) : arrive v s = s := by
  unfold arrive
  split
  case isFalse => rfl
  case isTrue running =>
    rcases ignored with config | idle | ⟨waits, above⟩ | ⟨armed, below⟩ | ⟨armed, all⟩
    · simp [State.running, config] at running
    · simp only [judgeSample, idle]
    · simp only [judgeSample, waits]
      exact if_neg (Nat.not_le.2 above)
    · simp only [judgeSample, armed]
      exact if_neg (Nat.not_le.2 below)
    · have none : s.onset.openWindows.find? (fun x => !credited s x) = Option.none :=
        List.find?_eq_none.2 fun x mem => by simp [all x mem]
      simp only [judgeSample, armed, trigger, none, ite_self]

theorem judgeSample_arms {s : State} {v : Nat} (waits : s.onset.detector = .waitingQuiet) (quiet : v ≤ s.onsetRec.armLevel) :
    judgeSample v s = s.setOnset { s.onset with detector := .armed } := by
  simp only [judgeSample, waits]
  exact if_pos quiet

theorem judgeSample_triggers {s : State} {v id : Nat} {cue : CueRec} (armed : s.onset.detector = .armed)
    (loud : s.onsetRec.triggerLevel ≤ v) (first : s.onset.openWindows.find? (fun x => !credited s x) = some id)
    (found : findCue s.cues id = some cue) : judgeSample v s = writeTakeCue id (fun c => { c with
      onset := some (((s.posn.p - s.onsetRec.levelDelay : Nat) : Int) - (cue.s : Int)) })
      (s.setOnset { s.onset with detector := .waitingQuiet }) := by
  have triggered : trigger s = writeTakeCue id (fun c => { c with
      onset := some (((s.posn.p - s.onsetRec.levelDelay : Nat) : Int) - (cue.s : Int)) })
      (s.setOnset { s.onset with detector := .waitingQuiet }) := by
    simp only [trigger, first, found]
    rfl
  rw [← triggered]
  simp only [judgeSample, armed]
  exact if_pos loud

/-! ## Windows (R164, R165) -/

theorem opensNow_iff {s : State} {id : Nat} : opensNow s id = true ↔ id ∉ s.onset.openWindows ∧
    ∃ c : CueRec, findCue s.cues id = some c ∧ c.s - s.onsetRec.onsetEarly * 120 ≤ s.posn.p ∧
      ∃ e ∈ s.sched.events, e.cue = id ∧ e.kind = .lineEnd := by
  unfold opensNow
  cases found : findCue s.cues id with
  | none => simp
  | some c =>
    simp only [openingPosition, lineEndListed, Bool.and_eq_true, decide_eq_true_eq, Bool.not_eq_true', List.any_eq_true,
      List.contains_eq_mem, decide_eq_false_iff_not, Option.some.injEq, exists_eq_left']
    exact ⟨fun ⟨⟨reached, shut⟩, listed⟩ => ⟨shut, of_decide_eq_true reached, listed⟩,
      fun ⟨shut, reached, listed⟩ => ⟨⟨decide_eq_true reached, shut⟩, listed⟩⟩

theorem openWindows_elsewhere {s : State} (rests : s.pass.state ≠ .inPass ∨ s.sched.held = none) : openWindows s = s := by
  unfold openWindows
  split
  case h_1 h inPass held => simp [inPass, held] at rests
  case h_2 => rfl

theorem openWindows_held {s : State} {h : HeldSet} (inPass : s.pass.state = .inPass) (held : s.sched.held = some h) :
    openWindows s = if h.cues.any (opensNow s) then
      s.setOnset { s.onset with
        openWindows := h.cues.filter fun id => s.onset.openWindows.contains id || opensNow s id
        detector := if s.onset.detector = .idle then .waitingQuiet else s.onset.detector }
    else s := by
  simp only [openWindows, inPass, held]

/-- A window that closes (R165). -/
theorem closeWindow_open {s : State} {id : Nat} (stands : id ∈ s.onset.openWindows) :
    (closeWindow id s).onset = { s.onset with
      openWindows := s.onset.openWindows.filter (fun x => decide (x ≠ id))
      detector := if s.onset.openWindows.filter (fun x => decide (x ≠ id)) = [] then .idle else s.onset.detector } ∧
    (credited s id = true → (closeWindow id s).log = s.log) ∧
    (credited s id = false → (closeWindow id s).log = (writeTakeCue id (fun c => { c with noOnset := true }) s).log) := by
  have left : s.onset.openWindows.filter (fun x => decide (x ≠ id)) = s.onset.openWindows.filter (· != id) :=
    List.filter_congr fun x _ => by rw [Bool.eq_iff_iff]; simp
  have settled : settleDetector { s.onset with openWindows := s.onset.openWindows.filter (· != id) } = { s.onset with
      openWindows := s.onset.openWindows.filter (· != id)
      detector := if s.onset.openWindows.filter (· != id) = [] then .idle else s.onset.detector } := by
    unfold settleDetector
    simp only [List.isEmpty_iff]
    split <;> rfl
  unfold closeWindow
  rw [if_pos (by simpa using stands), left, ← settled]
  dsimp only
  cases credited s id
  · exact ⟨rfl, nofun, fun _ => rfl⟩
  · exact ⟨rfl, fun _ => rfl, nofun⟩

/-- Settles O54: the windows, the pulses, and the arrival by the state of the detector. -/
theorem levelSampleJudged : Obligations.LevelSampleJudged := by
  refine ⟨fun s bits high part => by rw [exec_levelSample high, sample_part part], fun s b sample => ?noSample,
    fun s bits high whole ignored => ?ignored, fun s bits live whole waits quiet => ?arms,
    fun s bits before after id cue live whole armed loud split others here found => ?triggers, fun s => openWindows_elsewhere,
    fun s h inPass held ordered => ?opens, fun s id shut => if_neg (by simpa using shut), fun s id left stands is => ?closes,
    fun s id => ?credits, fun b7 b6 b5 b4 b3 b2 b1 b0 => ?bits, fun s t first more ran => ?inTurn,
    fun s begun more sample part => ?goesOn, fun s cut more part => ?cuts, fun s bits beyond whole => ?ignoresRest,
    fun s pulses still => ?still⟩
  case noSample =>
    cases low : s.resetnLow with
    | true => exact exec_levelSample_low low _
    | false => exact (exec_levelSample low _).trans (congrArg _ (clocks_idle sample [b]))
  case ignored =>
    rw [exec_levelSample high, sample_whole whole]
    exact congrArg _ (arrive_ignored (s := s.setOnset { s.onset with sample := none }) ignored)
  case arms =>
    obtain ⟨high, part⟩ := live
    have running : (s.setOnset { s.onset with sample := none }).running = true := by simp [State.running, part]
    rw [exec_levelSample high, sample_whole whole, arrive_running running]
    exact congrArg _ (judgeSample_arms (s := s.setOnset { s.onset with sample := none }) waits quiet)
  case triggers =>
    obtain ⟨high, part⟩ := live
    have running : (s.setOnset { s.onset with sample := none }).running = true := by simp [State.running, part]
    have first := find_uncredited (s := s.setOnset { s.onset with sample := none }) split others here
    rw [exec_levelSample high, sample_whole whole, arrive_running running]
    exact congrArg _ (judgeSample_triggers (s := s.setOnset { s.onset with sample := none }) armed loud first found)
  case opens =>
    rw [openWindows_held inPass held]
    split
    case isTrue opening =>
      obtain ⟨one, memOne, opensOne⟩ := List.any_eq_true.1 opening
      refine ⟨_, _, rfl, List.filter_sublist, fun id => ?_, fun _ idle => if_pos idle, fun rests => ?_⟩
      · rw [List.mem_filter, Bool.or_eq_true, opensNow_iff]
        constructor
        · rintro ⟨mem, stands | ⟨-, reached⟩⟩
          · exact .inl (by simpa using stands)
          · exact .inr ⟨mem, reached⟩
        · rintro (stands | ⟨mem, reached⟩)
          · exact ⟨ordered.subset stands, .inl (by simpa using stands)⟩
          · by_cases stands : id ∈ s.onset.openWindows
            · exact ⟨mem, .inl (by simpa using stands)⟩
            · exact ⟨mem, .inr ⟨stands, reached⟩⟩
      · rcases rests with none | busy
        · exact absurd (none one (List.mem_filter.2 ⟨memOne, by simp [opensOne]⟩)) (opensNow_iff.1 opensOne).1
        · exact if_neg busy
    case isFalse rests =>
      have none : ∀ id ∈ h.cues, opensNow s id ≠ true := fun id mem opens => rests (List.any_eq_true.2 ⟨id, mem, opens⟩)
      refine ⟨s.onset.openWindows, s.onset.detector, rfl, ordered, fun id => ?_, fun new => ?_, fun _ => rfl⟩
      · refine ⟨.inl, ?_⟩
        rintro (stands | ⟨mem, reached⟩)
        · exact stands
        · by_contra shut
          exact none id mem (opensNow_iff.2 ⟨shut, reached⟩)
      · obtain ⟨id, mem, shut⟩ := new
        exact absurd mem shut
  case closes =>
    subst is
    exact closeWindow_open stands
  case credits =>
    unfold credited TakeLog.inProgress
    cases s.log.records.find? fun r => decide (r.outcome = .inProgress) with
    | none => simp
    | some r => simp
  case bits =>
    simp only [bitsNum, List.foldl_cons, List.foldl_nil]
    omega
  case inTurn =>
    cases low : s.resetnLow with
    | true =>
      rw [exec_levelSample_low low] at ran
      cases ran
      rw [exec_levelSample_low low, exec_levelSample_low low]
    | false =>
      rw [exec_levelSample low] at ran
      cases ran
      rw [exec_levelSample low, exec_levelSample ((levelPulses_resetnLow first s).trans low), List.foldl_append]
  case goesOn =>
    cases low : s.resetnLow with
    | true => rw [exec_levelSample_low low, exec_levelSample_low low]
    | false =>
      have begunAgain := sample_part (s := s) part
      rw [← sample] at begunAgain
      rw [exec_levelSample low, exec_levelSample low, List.map_append, ← List.cons_append, List.foldl_append, begunAgain]
      rfl
  case cuts =>
    cases low : s.resetnLow with
    | true => rw [exec_levelSample_low low, exec_levelSample_low low]
    | false =>
      rw [exec_levelSample low, exec_levelSample low, ← List.cons_append, List.foldl_append, sample_part part]
      rfl
  case ignoresRest =>
    cases low : s.resetnLow with
    | true => rw [exec_levelSample_low low, exec_levelSample_low low]
    | false =>
      rw [exec_levelSample low, exec_levelSample low, List.map_append, ← List.cons_append, List.foldl_append, sample_whole whole,
        clocks_idle (by rw [arrive_sample]; rfl)]
  case still =>
    rcases still with low | rfl
    · exact exec_levelSample_low low _
    · cases low : s.resetnLow with
      | true => exact exec_levelSample_low low _
      | false => exact exec_levelSample low _

end Sys2Proof.Machine

/-! PROOF. Applied ANCHORs and LOCATEs (R49 to R52, R108, R114, R123, R157). -/

namespace Sys2Proof.Machine

-- One proof after another: under the check's memory limit there is no room for a thread per proof.
set_option Elab.async false

/-! ## What an end of a pass leaves of the pass controller and the outputs -/

theorem restOutputs_twice (o : OutputUnits) : restOutputs (restOutputs o) = restOutputs o := rfl

/-- An abandonment ends in STANDBY with a prepared record, or in IDLE without one (R116). -/
theorem abandonPass_pass (s : State) :
    (∃ a : PlanAnswer, (abandonPass s).pass = { s.pass with state := .standby, own := some (preparedWindow s a) }) ∨
    (abandonPass s).pass = { s.pass with state := .idle, outcome := none, own := none } := by
  obtain ⟨⟨v, answer⟩, again⟩ : ∃ r, planAgain (abandoned s) = r := ⟨_, rfl⟩
  cases answer with
  | some a => exact .inl ⟨a, (abandonedTo again).pass⟩
  | none =>
    obtain ⟨plan, port, state⟩ := planAgain_written again
    refine .inr ?_
    rw [abandonPass_none again]
    simp [giveUpPass_pass, state]

theorem abandonPass_rest (s : State) : (abandonPass s).out = restOutputs s.out := by
  obtain ⟨⟨v, answer⟩, again⟩ : ∃ r, planAgain (abandoned s) = r := ⟨_, rfl⟩
  cases answer with
  | some a => exact (abandonedTo again).out
  | none =>
    obtain ⟨plan, port, state⟩ := planAgain_written again
    rw [abandonPass_none again]
    simp [state]

/-- An operation of the pass controller that leaves window table and closure count. -/
def KeepsTable (s t : State) : Prop := t.pass.windows = s.pass.windows ∧ t.pass.closureCount = s.pass.closureCount

theorem KeepsTable.of_pass {s t : State} (pass : t.pass = s.pass) : KeepsTable s t := ⟨by rw [pass], by rw [pass]⟩

theorem KeepsTable.trans {s t u : State} (st : KeepsTable s t) (tu : KeepsTable t u) : KeepsTable s u :=
  ⟨tu.1.trans st.1, tu.2.trans st.2⟩

theorem abandonPass_table (s : State) : KeepsTable s (abandonPass s) := by
  rcases abandonPass_pass s with ⟨a, pass⟩ | pass <;> exact ⟨by rw [pass], by rw [pass]⟩

theorem leaveCleared_table (s : State) : KeepsTable s (leaveCleared s) := by
  unfold leaveCleared
  split <;> exact ⟨rfl, rfl⟩

theorem passStop_table (s : State) : KeepsTable s (passStop s) := by
  unfold passStop
  split
  · exact abandonPass_table s
  · exact leaveCleared_table s
  · exact .of_pass rfl
  · exact .of_pass rfl

theorem passLocate_table (s : State) : KeepsTable s (passLocate s) := by
  unfold passLocate
  split
  · exact abandonPass_table s
  · exact (leaveCleared_table s).trans ⟨rfl, rfl⟩
  · exact ⟨rfl, rfl⟩
  · exact .of_pass rfl

theorem rollEntry_table (s : State) : KeepsTable s (rollEntry s) := by
  unfold rollEntry
  split
  case h_1 w standby own =>
    split
    · split
      · exact ⟨by rw [beginPass_pass], by rw [beginPass_pass]⟩
      · exact ⟨by simp [skipPass, relabel], by simp [skipPass, relabel]⟩
    · unfold missRoll
      dsimp only
      split
      · exact ⟨by simp [relabel], by simp [relabel]⟩
      · exact .of_pass (by simp)
  case h_2 => exact .of_pass rfl

/-- Outputs at rest stay at rest through a stop of the pass controller. -/
theorem passStop_rest {s : State} (rests : s.out = restOutputs s.out) : (passStop s).out = s.out := by
  unfold passStop
  split
  · rw [abandonPass_rest, ← rests]
  · simp
  · rfl
  · rfl

theorem passLocate_rest {s : State} (rests : s.out = restOutputs s.out) : (passLocate s).out = s.out := by
  unfold passLocate
  split
  · rw [abandonPass_rest, ← rests]
  · simp
  · simp
  · rfl

theorem passStop_idle {s : State} (idle : s.pass.state = .idle) : passStop s = s := by
  simp [passStop, idle]

/-! ## ANCHOR (R49, R50) -/

/-- What an ANCHOR writes at a station that does not roll, before the transport. -/
def anchored (g r p : Nat) (s : State) : State :=
  (recomputeAdvances (s.setPosn ⟨min p s.pMax, min p s.pMax, s.posn.pPrev, 0, clamp 60 240 r⟩)).setAgr
    { s.agr with generation := g, join := .settled, settle := 0, settleFresh := false, locate := none }

theorem applyAnchor_rest {s : State} (still : s.agr.transport ≠ .rolling) (g r p : Nat) (rolling : Bool) :
    applyAnchor g rolling r p s = requestBuild (if rolling
      then rollEntry ((anchored g r p s).setAgr { (anchored g r p s).agr with transport := .rolling, rollFresh := true })
      else passStop ((anchored g r p s).setAgr { (anchored g r p s).agr with transport := .stopped })) := by
  rw [applyAnchor, if_neg still]
  rfl

/-- What an ANCHOR writes at a ROLLING station. -/
def rerated (g r : Nat) (s : State) : State :=
  (recomputeAdvances (s.setPosn { s.posn with rate := clamp 60 240 r })).setAgr { s.agr with generation := g, join := .settled }

/-- The request where the rate changed (R50, R134). -/
def rerequested (g r : Nat) (s : State) : State :=
  if clamp 60 240 r = s.posn.rate then rerated g r s else requestBuild (rerated g r s)

theorem applyAnchor_roll {s : State} (rolls : s.agr.transport = .rolling) (g r p : Nat) :
    applyAnchor g true r p s = rerequested g r s ∧ applyAnchor g false r p s = localStop (rerequested g r s) := by
  rw [applyAnchor, if_pos rolls, applyAnchor, if_pos rolls]
  exact ⟨rfl, rfl⟩

theorem rerequested_keeps (g r : Nat) (s : State) : (rerequested g r s).posn = { s.posn with rate := clamp 60 240 r } ∧
    (rerequested g r s).agr = { s.agr with generation := g, join := .settled } ∧ (rerequested g r s).out = s.out ∧
    (rerequested g r s).pass = s.pass ∧ (rerequested g r s).bus = s.bus := by
  unfold rerequested
  split <;> simp [rerated]

/-! ## LOCATE (R51, R52, R114, R123) -/

/-- A LOCATE that is not a duplicate (R52). -/
theorem notDuplicate {s : State} {n x : Nat} (fresh : s.agr.transport ≠ .cueing ∨ n ≠ s.agr.passNumber ∨
    (∀ l : LocateRec, s.agr.locate = some l → min x s.pMax < l.target)) : duplicateDiscarded n x s = false := by
  rw [← Bool.not_eq_true]
  intro dup
  unfold duplicateDiscarded at dup
  cases locate : s.agr.locate with
  | none => simp [locate] at dup
  | some l =>
    simp only [locate, Bool.and_eq_true, decide_eq_true_eq] at dup
    obtain ⟨⟨cueing, same⟩, later⟩ := dup
    rcases fresh with other | other | earlier
    · exact other cueing
    · exact other same
    · exact Nat.not_lt.2 later (earlier l locate)

/-- What a LOCATE writes before the pass controller handles it. -/
def located (g r st n x : Nat) (closure play : Bool) (s : State) : State :=
  (((recomputeAdvances (s.setPosn ⟨min x s.pMax, min x s.pMax, s.posn.pPrev, 0, clamp 60 240 r⟩)).setOut
      (if s.agr.transport = .rolling then restOutputs s.out else s.out)).setPass { s.pass with
        windows := s.pass.windows.filter fun w => decide (w.passNumber = n)
        closureCount := if s.agr.transport = .rolling then none else s.pass.closureCount }).setAgr { s.agr with
        generation := g, transport := .cueing, settle := min st 250, settleFresh := true, passNumber := n
        rollFresh := s.agr.rollFresh && decide (s.agr.transport ≠ .rolling)
        locate := some ⟨min x s.pMax, closure, play⟩, join := .settled }

theorem located_eq (g r st n x : Nat) (closure play : Bool) (s : State) :
    pruneWindows n (takeLocate g closure play r st n x s) = located g r st n x closure play s := by
  unfold takeLocate located
  by_cases rolls : s.agr.transport = .rolling
  · simp only [rolls, ne_eq, not_true_eq_false, decide_false, Bool.and_false]
    rfl
  · simp only [rolls, ne_eq, not_false_eq_true, decide_true, Bool.and_true]
    rfl

theorem applyLocate_fresh {s : State} {n x : Nat} (fresh : s.agr.transport ≠ .cueing ∨ n ≠ s.agr.passNumber ∨
    (∀ l : LocateRec, s.agr.locate = some l → min x s.pMax < l.target)) (g r st : Nat) (closure play : Bool) :
    applyLocate g closure play r st n x s = requestBuild (if closure
      then reLocate (min x s.pMax) (passLocate (located g r st n x closure play s))
      else passLocate (located g r st n x closure play s)) := by
  rw [applyLocate, notDuplicate fresh, located_eq]
  rfl

theorem passLocate_state (s : State) : (passLocate s).pass.state ≠ .inPass ∧ (passLocate s).pass.state ≠ .cleared := by
  refine ⟨passLocate_out s, ?_⟩
  unfold passLocate
  split
  case h_1 => rcases abandonPass_pass s with ⟨a, pass⟩ | pass <;> simp [pass]
  case h_2 =>
    unfold leaveCleared
    split <;> simp [relabel]
  case h_3 standby => simp [relabel, standby]
  case h_4 idle => simp [idle]

/-- A record that stands after a LOCATE has the label of its pass (R114). -/
theorem passLocate_label {s : State} (still : s.agr.transport ≠ .rolling) (busy : s.pass.state ≠ .idle) {w : OwnWindow}
    (own : (passLocate s).pass.own = some w) : w.label = s.agr.passNumber := by
  have relabelled : ∀ u : State, (relabel s.agr.passNumber u).pass.own = some w → w.label = s.agr.passNumber := fun u own => by
    obtain ⟨x, -, rfl⟩ := Option.map_eq_some_iff.1 own
    rfl
  unfold passLocate at own
  split at own
  case h_1 =>
    rcases abandonPass_pass s with ⟨a, pass⟩ | pass
    · rw [pass] at own
      cases own
      exact if_neg still
    · rw [pass] at own
      cases own
  case h_2 => exact relabelled _ own
  case h_3 => exact relabelled _ own
  case h_4 idle => exact absurd idle busy

theorem passLocate_standby {s : State} (standby : s.pass.state = .standby) : passLocate s = relabel s.agr.passNumber s := by
  simp [passLocate, standby]

theorem reLocate_other {t : Nat} {s : State} (other : s.pass.state ≠ .standby ∨ s.pass.own = none ∨
    (∃ w : OwnWindow, s.pass.own = some w ∧ (w.label ≠ s.agr.passNumber ∨ t ≤ w.pIn))) : reLocate t s = s := by
  unfold reLocate
  split
  case h_1 w standby own =>
    rcases other with other | none | ⟨x, same, rests⟩
    · exact absurd standby other
    · simp [own] at none
    · rw [own] at same
      cases same
      refine if_neg ?_
      rintro ⟨label, earlier⟩
      rcases rests with otherLabel | later
      · exact otherLabel label
      · exact Nat.not_lt.2 later earlier
  case h_2 => rfl

theorem reLocate_earlier {t : Nat} {s : State} {w : OwnWindow} (standby : s.pass.state = .standby) (own : s.pass.own = some w)
    (label : w.label = s.agr.passNumber) (earlier : w.pIn < t) :
    reLocate t s = offerInternal (.locate true true s.posn.rate s.station.settle s.agr.passNumber w.pIn) s := by
  simp [reLocate, standby, own, label, earlier]

/-- Settles O45: ANCHOR at rest and at a ROLLING station, LOCATE, its duplicate, and the re-locate. -/
theorem transportFramesApplied : Obligations.TransportFramesApplied := by
  refine ⟨fun g r p rolling s still => ?rest, fun g r p s rolls => ?rolls, fun g r p s rolls => ?stops,
    fun g r st n x closure play s fresh => ?locate, fun g r st n x closure play l s cueing same locate later => ?duplicate,
    fun o => rfl, fun g r p rolling s u still is => is ▸ applyAnchor_rest still g r p rolling, fun g r p s u rolls is => ?whole,
    fun g r st n x closure play s u fresh is => is ▸ applyLocate_fresh fresh g r st closure play, fun s => ?byState,
    fun t s => reLocate_other, fun t s w => reLocate_earlier⟩
  case rest =>
    rw [applyAnchor_rest still]
    cases rolling with
    | true =>
      have agr := rollEntry_agr ((anchored g r p s).setAgr { (anchored g r p s).agr with transport := .rolling, rollFresh := true })
      have table := rollEntry_table ((anchored g r p s).setAgr { (anchored g r p s).agr with transport := .rolling, rollFresh := true })
      rw [if_pos rfl]
      refine ⟨by simp [anchored], ?_, ?_, fun idle => ?_⟩
      · simp only [requestBuild_keeps]
        exact agr
      · simp only [requestBuild_keeps]
        exact table.1
      · rw [rollEntry_resting (s := (anchored g r p s).setAgr _) (.inl idle)]
        simp [anchored]
    | false =>
      have table := passStop_table ((anchored g r p s).setAgr { (anchored g r p s).agr with transport := .stopped })
      refine ⟨by simp [anchored], by simp [anchored], ?_, fun idle => ?_⟩
      · simp only [requestBuild_keeps]
        exact table.1
      · rw [if_neg nofun, passStop_idle (s := (anchored g r p s).setAgr _) idle]
        simp [anchored]
  case rolls =>
    rw [(applyAnchor_roll rolls g r p).1]
    exact rerequested_keeps g r s
  case stops =>
    obtain ⟨posn, agr, out, pass, -⟩ := rerequested_keeps g r s
    have table := passStop_table (leaveRolling .stopped (rerequested g r s))
    have left : (leaveRolling .stopped (rerequested g r s)).out = restOutputs s.out := by
      simp [leaveRolling, endClosureCount, forceToRest, out]
    have rests := passStop_rest (s := leaveRolling .stopped (rerequested g r s)) (by rw [left, restOutputs_twice])
    rw [(applyAnchor_roll rolls g r p).2]
    refine ⟨by simp [posn], by simp [localStop, leaveRolling, endClosureCount, agr], ?_, rests.trans left, passStop_out _, ?_⟩
    · exact table.2.trans (by simp [leaveRolling, endClosureCount])
    · exact table.1.trans (by simp [leaveRolling, endClosureCount, pass])
  case locate =>
    have table := passLocate_table (located g r st n x closure play s)
    obtain ⟨notIn, notCleared⟩ := passLocate_state (located g r st n x closure play s)
    have rest : ∀ u : State, (requestBuild (if closure then reLocate (min x s.pMax) u else u)).posn = u.posn ∧
        (requestBuild (if closure then reLocate (min x s.pMax) u else u)).agr = u.agr ∧
        (requestBuild (if closure then reLocate (min x s.pMax) u else u)).pass = u.pass ∧
        (requestBuild (if closure then reLocate (min x s.pMax) u else u)).out = u.out := fun u => by
      cases closure <;> simp
    obtain ⟨posn, agr, pass, out⟩ := rest (passLocate (located g r st n x closure play s))
    rw [applyLocate_fresh fresh, posn, agr, pass, out]
    refine ⟨by simp [located], by simp [located], table.1, notIn, notCleared,
      fun w own busy => passLocate_label (s := located g r st n x closure play s) nofun busy own, fun rolls => ⟨?rests, ?counts⟩,
      fun w standby own => ?standby⟩
    case rests =>
      have left : (located g r st n x closure play s).out = restOutputs s.out := if_pos rolls
      exact (passLocate_rest (by rw [left, restOutputs_twice])).trans left
    case counts => exact table.2.trans (if_pos rolls)
    case standby =>
      have relabelled := passLocate_standby (s := located g r st n x closure play s) standby
      have passes := relabel_own (s := located g r st n x closure play s) own n
      rw [show (located g r st n x closure play s).agr.passNumber = n from rfl] at relabelled
      rw [relabelled]
      refine ⟨fun closes earlier => ?_, fun quiet => ?_, by rw [passes], by rw [passes]; exact standby⟩
      · subst closes
        rw [if_pos rfl, reLocate_earlier (s := relabel n _) (w := { w with label := n }) (by rw [passes]; exact standby) (by rw [passes]) rfl
          earlier]
        simp only [requestBuild_keeps, offerInternal_bus]
        exact (offer_bus_congr (.locate true true (clamp 60 240 r) s.station.settle n w.pIn) false (t := s)
          (s := relabel n (located g r st n x true play s)) (by simp [located])).1
      · have same : (if closure = true then reLocate (min x s.pMax) (relabel n (located g r st n x closure play s))
            else relabel n (located g r st n x closure play s)) = relabel n (located g r st n x closure play s) := by
          cases closure with
          | false => rfl
          | true =>
            refine reLocate_other (.inr (.inr ⟨{ w with label := n }, by rw [passes], .inr ?_⟩))
            exact quiet.resolve_left nofun
        rw [same]
        simp [located]
  case duplicate =>
    have dup : duplicateDiscarded n x s = true := by
      simp only [duplicateDiscarded, locate, cueing, same, decide_true, Bool.true_and, decide_eq_true_eq]
      exact later
    rw [applyLocate, if_pos dup]
  case whole =>
    subst is
    obtain ⟨rolling, stopped⟩ := applyAnchor_roll rolls g r p
    rw [rolling, stopped]
    exact ⟨fun same => by rw [rerequested, if_pos same]; exact ⟨rfl, rfl⟩,
      fun other => by rw [rerequested, if_neg other]; exact ⟨rfl, rfl⟩⟩
  case byState =>
    unfold passLocate
    cases s.pass.state <;> rfl

end Sys2Proof.Machine

/-! PROOF. Presence, beacons, the entry of an IDLE station, join adoption and the slip check (R60, R62, R64 to R66, R108). -/

namespace Sys2Proof.Machine

-- One proof after another: under the check's memory limit there is no room for a thread per proof.
set_option Elab.async false

/-! ## The presence update (R60, R62) -/

theorem presenceUpdate_other {f : BusFrame} (kind : f.kind ≠ .beacon) (s : State) : presenceUpdate f s = heardFrom f.source s :=
  if_neg kind

theorem presenceUpdate_equal {f : BusFrame} {s : State} (kind : f.kind = .beacon) (rate : f.rateCode = s.timing.frameRate.code) :
    presenceUpdate f s = beaconEqual f.source s := by
  rw [presenceUpdate, if_pos kind, if_pos rate]

theorem presenceUpdate_differs {f : BusFrame} {s : State} (kind : f.kind = .beacon) (rate : f.rateCode ≠ s.timing.frameRate.code) :
    presenceUpdate f s = beaconDiffers f.source s := by
  rw [presenceUpdate, if_pos kind, if_neg rate]

theorem heardFrom_absent {a : Nat} {s : State} (absent : (s.agr.slot a).presence = .absent) :
    heardFrom a s = post .peerJoined a (s.setSlot a ⟨.present, 0, (s.agr.slot a).lastBeacon⟩) := if_pos absent

theorem heardFrom_there {a : Nat} {s : State} (there : (s.agr.slot a).presence ≠ .absent) :
    heardFrom a s = s.setSlot a ⟨(s.agr.slot a).presence, 0, (s.agr.slot a).lastBeacon⟩ := if_neg there

theorem beaconEqual_present {a : Nat} {s : State} (present : (s.agr.slot a).presence = .present) :
    beaconEqual a s = s.setSlot a ⟨.present, 0, (s.agr.slot a).lastBeacon⟩ := if_pos present

theorem beaconEqual_joins {a : Nat} {s : State} (other : (s.agr.slot a).presence ≠ .present) :
    beaconEqual a s = post .peerJoined a (s.setSlot a ⟨.present, 0, (s.agr.slot a).lastBeacon⟩) := if_neg other

theorem beaconDiffers_again {a : Nat} {s : State} (mismatched : (s.agr.slot a).presence = .mismatched) :
    beaconDiffers a s = s.setSlot a ⟨.mismatched, 0, (s.agr.slot a).lastBeacon⟩ := if_pos mismatched

theorem beaconDiffers_finds {a : Nat} {s : State} (other : (s.agr.slot a).presence ≠ .mismatched) : beaconDiffers a s =
    post .peerMismatch a (dropWindow a (dropHold a (s.setSlot a ⟨.mismatched, 0, (s.agr.slot a).lastBeacon⟩))) := if_neg other

theorem setSlot_self {a : Nat} (low : 1 ≤ a) (high : a ≤ 30) (s : State) (x : PeerSlot) : (s.setSlot a x).agr.slot a = x :=
  Agreement.slot_setSlot_self _ _ _ low high

theorem setSlot_holds (a : Nat) (s : State) (x : PeerSlot) : (s.setSlot a x).agr.holds = s.agr.holds := by
  rw [State.setSlot, State.setAgr_agr, Agreement.setSlot_eq]

/-- A presence update writes one slot and drops entries of its address alone. -/
structure UpdatesPeer (a : Nat) (s t : State) : Prop where
  slots : ∀ b : Nat, b ≠ a → t.agr.slot b = s.agr.slot b
  agr : t.agr = { s.agr with peers := t.agr.peers, holds := t.agr.holds }
  entries : ∀ b : Nat, b ≠ a → holdOf t.agr.holds b = holdOf s.agr.holds b ∧ windowOf t.pass.windows b = windowOf s.pass.windows b
  pass : t.pass = { s.pass with windows := t.pass.windows }
  rest : t.posn = s.posn ∧ t.bus = s.bus ∧ t.log = s.log ∧ t.sched = s.sched ∧ t.out = s.out

theorem UpdatesPeer.setSlot (a : Nat) (s : State) (x : PeerSlot) : UpdatesPeer a s (s.setSlot a x) where
  slots _ other := Agreement.slot_setSlot_ne _ _ _ _ other
  agr := by rw [State.setSlot, State.setAgr_agr, Agreement.setSlot_eq]
  entries _ _ := ⟨by rw [setSlot_holds], rfl⟩
  pass := rfl
  rest := ⟨rfl, rfl, rfl, rfl, rfl⟩

theorem UpdatesPeer.post {a : Nat} {s t : State} (update : UpdatesPeer a s t) (k : NoticeKind) (d : Nat) :
    UpdatesPeer a s (post k d t) := by
  obtain ⟨slots, agr, entries, pass, rest⟩ := update
  exact ⟨by simpa using slots, by simpa using agr, by simpa using entries, by simpa using pass, by simpa using rest⟩

theorem UpdatesPeer.dropHold {a : Nat} {s t : State} (update : UpdatesPeer a s t) : UpdatesPeer a s (dropHold a t) where
  slots b other := update.slots b other
  agr := by
    rw [Machine.dropHold, State.setAgr_agr]
    conv => lhs; rw [update.agr]
  entries b other := ⟨((holdOf_dropHold a t).2 b other).trans (update.entries b other).1, (update.entries b other).2⟩
  pass := update.pass
  rest := update.rest

theorem UpdatesPeer.dropWindow {a : Nat} {s t : State} (update : UpdatesPeer a s t) : UpdatesPeer a s (dropWindow a t) where
  slots := update.slots
  agr := update.agr
  entries b other := ⟨(update.entries b other).1, ((windowOf_dropWindow a t).2 b other).trans (update.entries b other).2⟩
  pass := by
    rw [Machine.dropWindow, State.setWindows, State.setPass_pass]
    conv => lhs; rw [update.pass]
  rest := update.rest

theorem updatesPeer_presenceUpdate (f : BusFrame) (s : State) : UpdatesPeer f.source s (presenceUpdate f s) := by
  by_cases kind : f.kind = .beacon
  · by_cases rate : f.rateCode = s.timing.frameRate.code
    · rw [presenceUpdate_equal kind rate]
      by_cases present : (s.agr.slot f.source).presence = .present
      · rw [beaconEqual_present present]
        exact .setSlot _ _ _
      · rw [beaconEqual_joins present]
        exact (UpdatesPeer.setSlot _ _ _).post _ _
    · rw [presenceUpdate_differs kind rate]
      by_cases mismatched : (s.agr.slot f.source).presence = .mismatched
      · rw [beaconDiffers_again mismatched]
        exact .setSlot _ _ _
      · rw [beaconDiffers_finds mismatched]
        exact ((UpdatesPeer.setSlot _ _ _).dropHold.dropWindow).post _ _
  · rw [presenceUpdate_other kind]
    by_cases absent : (s.agr.slot f.source).presence = .absent
    · rw [heardFrom_absent absent]
      exact (UpdatesPeer.setSlot _ _ _).post _ _
    · rw [heardFrom_there absent]
      exact .setSlot _ _ _

/-! ## An applied BEACON (R64 to R66) -/

/-- The beacon record written. -/
def noted (a rc g n r p : Nat) (t : Transport) (ps : PassState) (presence : Presence) (s : State) : State :=
  s.setSlot a ⟨presence, (s.agr.slot a).age, some ⟨rc, t, g, n, ps, clamp 60 240 r, min p s.pMax⟩⟩

/-- The state in which a beacon of a PRESENT peer is adopted or checked: its record written, the entry of an IDLE station cleared. -/
def heardBeacon (a rc g n r p : Nat) (t : Transport) (ps : PassState) (s : State) : State :=
  if ps = .idle then idleBeacon a (noted a rc g n r p t ps .present s) else noted a rc g n r p t ps .present s

theorem idleBeacon_cleared {a : Nat} {s : State} {w : WindowEntry} (found : windowOf s.pass.windows a = some w)
    (announced : w.status = .announced) : idleBeacon a s = s.setPass { s.pass with windows := s.pass.windows.map fun x =>
      if x.address = a ∧ x.passNumber = w.passNumber then { x with status := .cleared, more := some false } else x } := by
  simp only [idleBeacon, found]
  exact if_pos announced

theorem idleBeacon_quiet {a : Nat} {s : State} (quiet : windowOf s.pass.windows a = none ∨
    (∃ w : WindowEntry, windowOf s.pass.windows a = some w ∧ w.status ≠ .announced)) : idleBeacon a s = s := by
  rcases quiet with none | ⟨w, found, other⟩
  · simp only [idleBeacon, none]
  · simp only [idleBeacon, found]
    exact if_neg other

theorem heardBeacon_keeps (a rc g n r p : Nat) (t : Transport) (ps : PassState) (s : State) :
    (heardBeacon a rc g n r p t ps s).port = s.port ∧ (heardBeacon a rc g n r p t ps s).conf = s.conf ∧
    (heardBeacon a rc g n r p t ps s).posn = s.posn ∧ (heardBeacon a rc g n r p t ps s).bus = s.bus ∧
    (heardBeacon a rc g n r p t ps s).log = s.log ∧
    (heardBeacon a rc g n r p t ps s).agr = (noted a rc g n r p t ps .present s).agr := by
  unfold heardBeacon
  split <;> simp [noted, State.setSlot]

theorem applyBeacon_absent {a : Nat} {s : State} (absent : (s.agr.slot a).presence = .absent) (k : SlipRef) (rc g n r p : Nat)
    (t : Transport) (ps : PassState) : applyBeacon k a rc t ps g n r p s = s := if_pos absent

theorem applyBeacon_mismatched {a : Nat} {s : State} (mismatched : (s.agr.slot a).presence = .mismatched) (k : SlipRef)
    (rc g n r p : Nat) (t : Transport) (ps : PassState) :
    applyBeacon k a rc t ps g n r p s = noted a rc g n r p t ps .mismatched s := by
  have one : ¬ (s.agr.slot a).presence = .absent := by simp [mismatched]
  have two : ¬ (s.agr.slot a).presence = .present := by simp [mismatched]
  rw [noted, ← mismatched]
  exact (if_neg one).trans (if_neg two)

theorem applyBeacon_present {a : Nat} {s : State} (present : (s.agr.slot a).presence = .present) (k : SlipRef)
    (rc g n r p : Nat) (t : Transport) (ps : PassState) : applyBeacon k a rc t ps g n r p s =
      if adopts t (heardBeacon a rc g n r p t ps s) then adopt t g n r (min p s.pMax) (heardBeacon a rc g n r p t ps s)
      else slipCheck k a g (min p s.pMax) (heardBeacon a rc g n r p t ps s) := by
  have one : ¬ (s.agr.slot a).presence = .absent := by simp [present]
  rw [heardBeacon, noted, ← present]
  exact (if_neg one).trans (if_pos present)

theorem adopts_iff {t : Transport} {s : State} : adopts t s = true ↔ s.bus.link = .listening ∧ s.agr.join = .waiting ∧ t ≠ .cueing := by
  simp [adopts, and_assoc]

theorem adopt_rolling (g n r p : Nat) (s : State) : adopt .rolling g n r p s = requestBuild (rollEntry
    ((recomputeAdvances (s.setPosn ⟨min (p + clamp 60 240 r) s.pMax, min (p + clamp 60 240 r) s.pMax, s.posn.pPrev, 0,
      clamp 60 240 r⟩)).setAgr { s.agr with generation := g, join := .settled, passNumber := n, settle := 0, settleFresh := false
                                            locate := none, transport := .rolling, rollFresh := true })) := rfl

theorem adopt_stopped (g n r p : Nat) (s : State) : adopt .stopped g n r p s = requestBuild
    ((recomputeAdvances (s.setPosn ⟨min p s.pMax, min p s.pMax, s.posn.pPrev, 0, clamp 60 240 r⟩)).setAgr { s.agr with
      generation := g, join := .settled, passNumber := n, settle := 0, settleFresh := false, locate := none
      transport := .stopped, rollFresh := false }) := rfl

/-! ## The slip check (R66) -/

theorem slipPasses_iff {k : SlipRef} {tol g p : Nat} : slipPasses k tol g p = true ↔ g = k.generation ∧
    ((p ≤ k.pEdge + tol ∧ k.pEdge ≤ p + tol) ∨ (p ≤ k.pPrev + tol ∧ k.pPrev ≤ p + tol)) := by
  simp [slipPasses, within]

theorem slipCheck_passes {k : SlipRef} {g p : Nat} {s : State} (passes : slipPasses k s.station.slipTolerance g p = true) (a : Nat) :
    slipCheck k a g p s = s := if_neg fun both => both.2 passes

theorem slipCheck_fails {k : SlipRef} {g p : Nat} {s : State} (settled : s.agr.join = .settled)
    (fails : ¬ slipPasses k s.station.slipTolerance g p = true) (a : Nat) :
    slipCheck k a g p s = landSlip k.take k.counter (post .slip a s) := if_pos ⟨settled, fails⟩

theorem slipCheck_waiting {s : State} (waits : s.agr.join = .waiting) (k : SlipRef) (a g p : Nat) : slipCheck k a g p s = s :=
  if_neg fun both => by
    have settled := both.1
    rw [waits] at settled
    cases settled

/-- The take in which a slip lands (R66, R170). -/
theorem landSlip_log (take : Option Nat) (counter : Nat) (s : State) :
    (take = none → counter = s.log.counter → (landSlip take counter s).log = (flagSyncSuspect s).log) ∧
    ∀ m : Nat, (take = some m ∨ (take = none ∧ counter ≠ s.log.counter ∧ m = s.log.counter)) → (landSlip take counter s).log =
      ⟨s.log.records.map (fun x => if x.number = m then { x with flags := { x.flags with syncSuspect := true } } else x),
        s.log.counter⟩ := by
  refine ⟨fun none same => ?_, fun m lands => ?_⟩
  · subst none same
    rw [landSlip, if_pos rfl]
  · rcases lands with rfl | ⟨rfl, other, rfl⟩
    · rfl
    · rw [landSlip, if_neg (Ne.symm other)]
      rfl

/-! ## A beacon at a WAITING and at a SETTLED station -/

section
variable {s : State} {a : Nat} (present : (s.agr.slot a).presence = .present) (k : SlipRef) (rc g n r p : Nat) (t : Transport) (ps : PassState)

theorem heardBeacon_join : (heardBeacon a rc g n r p t ps s).agr.join = s.agr.join := by
  rw [(heardBeacon_keeps a rc g n r p t ps s).2.2.2.2.2, noted, State.setSlot, State.setAgr_agr, Agreement.setSlot_eq]

include present

theorem applyBeacon_waiting (waits : s.agr.join = .waiting) (rests : t = .cueing ∨ s.bus.link ≠ .listening) :
    applyBeacon k a rc t ps g n r p s = heardBeacon a rc g n r p t ps s := by
  have none : ¬ adopts t (heardBeacon a rc g n r p t ps s) = true := by
    obtain ⟨-, -, -, bus, -, -⟩ := heardBeacon_keeps a rc g n r p t ps s
    rw [adopts_iff, bus]
    rintro ⟨listening, -, moves⟩
    exact rests.elim moves fun other => other listening
  rw [applyBeacon_present present, if_neg none, slipCheck_waiting ((heardBeacon_join ..).trans waits)]

theorem applyBeacon_adopts (waits : s.agr.join = .waiting) (listening : s.bus.link = .listening) (moves : t ≠ .cueing) :
    applyBeacon k a rc t ps g n r p s = adopt t g n r (min p s.pMax) (heardBeacon a rc g n r p t ps s) := by
  obtain ⟨-, -, -, bus, -, -⟩ := heardBeacon_keeps a rc g n r p t ps s
  rw [applyBeacon_present present, if_pos (adopts_iff.2 ⟨by rw [bus, listening], (heardBeacon_join ..).trans waits, moves⟩)]

theorem applyBeacon_settled (settled : s.agr.join = .settled) :
    applyBeacon k a rc t ps g n r p s = slipCheck k a g (min p s.pMax) (heardBeacon a rc g n r p t ps s) := by
  have none : ¬ adopts t (heardBeacon a rc g n r p t ps s) = true := by
    rw [adopts_iff, heardBeacon_join, settled]
    rintro ⟨-, waits, -⟩
    cases waits
  rw [applyBeacon_present present, if_neg none]

end

/-- Settles O47: the presence update by kind and rate, then the beacon: adoption, slip check, entry of an IDLE station. -/
theorem presenceAndBeacons : Obligations.PresenceAndBeacons := by
  refine ⟨fun f s low high kind => ?other, fun f s low high kind rate => ?equal, fun f s low high kind rate => ?differs,
    fun k a rc g n r p t ps s low high present listening waits moves => ?adopted,
    fun k a rc g n r p t ps s low high present settled => ?checked,
    fun k a rc g n r p t ps s low high present settled => ?entry,
    fun k a rc g n r p t ps s low high mismatched => applyBeacon_mismatched mismatched k rc g n r p t ps, fun f s => ?update,
    fun a s => ⟨idleBeacon_quiet, fun w => idleBeacon_cleared⟩,
    fun k a rc g n r p t ps s u v present waits isU isV => ?whole,
    fun k a rc g n r p t ps s absent => applyBeacon_absent absent k rc g n r p t ps⟩
  case other =>
    rw [presenceUpdate_other kind]
    by_cases absent : (s.agr.slot f.source).presence = .absent
    · rw [heardFrom_absent absent, if_pos absent, if_pos absent]
      exact ⟨by simp [setSlot_self low high], post_port_congr _ _ rfl, by simp [State.setSlot], by simp [setSlot_holds]⟩
    · rw [heardFrom_there absent, if_neg absent, if_neg absent]
      exact ⟨setSlot_self low high _ _, rfl, rfl, setSlot_holds _ _ _⟩
  case equal =>
    rw [presenceUpdate_equal kind rate]
    by_cases present : (s.agr.slot f.source).presence = .present
    · rw [beaconEqual_present present, if_pos present]
      exact ⟨setSlot_self low high _ _, rfl, rfl, setSlot_holds _ _ _⟩
    · rw [beaconEqual_joins present, if_neg present]
      exact ⟨by simp [setSlot_self low high], post_port_congr _ _ rfl, by simp [State.setSlot], by simp [setSlot_holds]⟩
  case differs =>
    rw [presenceUpdate_differs kind rate]
    by_cases mismatched : (s.agr.slot f.source).presence = .mismatched
    · rw [beaconDiffers_again mismatched, if_pos mismatched]
      exact ⟨setSlot_self low high _ _, rfl, fun other => absurd mismatched other⟩
    · rw [beaconDiffers_finds mismatched, if_neg mismatched]
      refine ⟨?_, post_port_congr _ _ rfl, fun _ => ⟨?_, ?_⟩⟩
      · simp only [post_keeps]
        exact setSlot_self low high _ _
      · simp only [post_keeps]
        exact (holdOf_dropHold _ _).1
      · simp only [post_keeps]
        exact (windowOf_dropWindow _ _).1
  case adopted =>
    obtain ⟨-, conf, posn, -, -, agr⟩ := heardBeacon_keeps a rc g n r p t ps s
    have pMax := State.pMax_of_conf conf
    have slot : ∀ g' : Agreement, g'.peers = (heardBeacon a rc g n r p t ps s).agr.peers →
        g'.slot a = ⟨.present, (s.agr.slot a).age, some ⟨rc, t, g, n, ps, clamp 60 240 r, min p s.pMax⟩⟩ := fun g' same => by
      rw [Agreement.slot_congr same, agr]
      exact setSlot_self low high _ _
    rw [applyBeacon_adopts present k rc g n r p t ps waits listening moves]
    cases t with
    | cueing => exact absurd rfl moves
    | stopped =>
      rw [adopt_stopped]
      refine ⟨by simp, by simp, by simp, by simp, ?_, nofun, fun _ => by simp [pMax, posn]⟩
      simp only [requestBuild_keeps]
      exact slot _ rfl
    | rolling =>
      rw [adopt_rolling]
      generalize entering : (recomputeAdvances ((heardBeacon a rc g n r p .rolling ps s).setPosn _)).setAgr _ = x
      have peers : x.agr.peers = (heardBeacon a rc g n r p .rolling ps s).agr.peers := by rw [← entering]; rfl
      have enters := rollEntry_agr x
      unfold Agreement.SameButReasons at enters
      refine ⟨?_, ?_, ?_, ?_, ?_, fun _ => ?_, nofun⟩
      · simp only [requestBuild_keeps]
        rw [enters, ← entering]
        rfl
      · simp only [requestBuild_keeps]
        rw [enters, ← entering]
        rfl
      · simp only [requestBuild_keeps]
        rw [enters, ← entering]
        rfl
      · simp only [requestBuild_keeps]
        rw [enters, ← entering]
        rfl
      · simp only [requestBuild_keeps]
        rw [enters]
        exact slot _ peers
      · simp only [requestBuild_keeps, rollEntry_keeps]
        rw [← entering]
        simp [pMax, posn]
  case checked =>
    obtain ⟨port, conf, posn, -, log, agr⟩ := heardBeacon_keeps a rc g n r p t ps s
    have station : (heardBeacon a rc g n r p t ps s).station = s.station := by rw [State.station, conf, State.station]
    rw [applyBeacon_settled present k rc g n r p t ps settled]
    refine ⟨by simp [posn], ?_, fun generation near => ?_, fun apart => ?_⟩
    · simp only [slipCheck_keeps, agr]
      rw [noted, State.setSlot, State.setAgr_agr, Agreement.setSlot_eq]
    · rw [slipCheck_passes (by rw [slipPasses_iff, station]; exact ⟨generation, near⟩)]
      exact ⟨port, log⟩
    · have fails : ¬ slipPasses k (heardBeacon a rc g n r p t ps s).station.slipTolerance g (min p s.pMax) = true := by
        rw [slipPasses_iff, station]
        rintro ⟨generation, near⟩
        rcases apart with other | ⟨farEdge, farPrev⟩
        · exact other generation
        · omega
      have posted : (post .slip a (heardBeacon a rc g n r p t ps s)).log = s.log := by simp [log]
      obtain ⟨inProgress, number⟩ := landSlip_log k.take k.counter (post .slip a (heardBeacon a rc g n r p t ps s))
      rw [posted] at inProgress number
      rw [slipCheck_fails ((heardBeacon_join ..).trans settled) fails]
      refine ⟨by simp [post_port_congr _ _ port], fun none same => (inProgress none same).trans ?_, number⟩
      simp [flagSyncSuspect, writeTake_log, log]
  case entry =>
    have pass : (applyBeacon k a rc t ps g n r p s).pass = (heardBeacon a rc g n r p t ps s).pass := by
      simp [applyBeacon_settled present k rc g n r p t ps settled]
    rw [pass]
    refine ⟨fun w idle found announced => ?_, fun quiet => ?_⟩
    · rw [heardBeacon, if_pos idle, idleBeacon_cleared (s := noted a rc g n r p t ps .present s) found announced]
      rfl
    · unfold heardBeacon
      split
      case isTrue idle => rw [idleBeacon_quiet (s := noted a rc g n r p t ps .present s) (quiet.resolve_left fun other => other idle)]; rfl
      case isFalse => rfl
  case update =>
    obtain ⟨slots, agr, entries, pass, posn, bus, log, sched, out⟩ := updatesPeer_presenceUpdate f s
    exact ⟨slots, agr, entries, pass, posn, bus, log, sched, out⟩
  case whole =>
    have same : v = heardBeacon a rc g n r p t ps s := by
      rw [isV, isU]
      rfl
    obtain ⟨-, conf, posn, -, -, agr⟩ := heardBeacon_keeps a rc g n r p t ps s
    have pMax := State.pMax_of_conf conf
    subst same
    refine ⟨applyBeacon_waiting present k rc g n r p t ps waits, fun listening rolling => ?_, fun listening stopped => ?_⟩
    · subst rolling
      rw [applyBeacon_adopts present k rc g n r p .rolling ps waits listening nofun, adopt_rolling, pMax]
    · subst stopped
      rw [applyBeacon_adopts present k rc g n r p .stopped ps waits listening nofun, adopt_stopped, pMax, Nat.min_assoc, Nat.min_self]

end Sys2Proof.Machine

/-! PROOF. The frame edge and its parts in their order (R17, R18, R46, R48, R60, R158, R200). -/

namespace Sys2Proof.Machine

-- One proof after another: under the check's memory limit there is no room for a thread per proof.
set_option Elab.async false

/-! ## No part of an edge brings back a frame that was handed on (R48) -/

theorem Agreement.SameButReasons.frames {a b : Agreement} (same : a.SameButReasons b) : b.frames = a.frames := by
  unfold Agreement.SameButReasons at same
  rw [same]

@[simp] theorem rollEntry_frames (s : State) : (rollEntry s).agr.frames = s.agr.frames := (rollEntry_agr s).frames

@[simp] theorem takeGeneration_frames (g : Nat) (s : State) : (takeGeneration g s).agr.frames = s.agr.frames := rfl

@[simp] theorem leaveRolling_frames (t : Transport) (s : State) : (leaveRolling t s).agr.frames = s.agr.frames := by
  simp [leaveRolling]

@[simp] theorem dropHold_frames (a : Nat) (s : State) : (dropHold a s).agr.frames = s.agr.frames := rfl

@[simp] theorem setSlot_frames (s : State) (a : Nat) (x : PeerSlot) : (s.setSlot a x).agr.frames = s.agr.frames := by
  rw [State.setSlot, Agreement.setSlot_eq, State.setAgr_agr]

theorem heardFrom_frames (a : Nat) (s : State) : (heardFrom a s).agr.frames = s.agr.frames := by
  simp only [heardFrom]
  split <;> simp

theorem beaconEqual_frames (a : Nat) (s : State) : (beaconEqual a s).agr.frames = s.agr.frames := by
  simp only [beaconEqual]
  split <;> simp

theorem beaconDiffers_frames (a : Nat) (s : State) : (beaconDiffers a s).agr.frames = s.agr.frames := by
  simp only [beaconDiffers]
  split <;> simp

theorem presenceUpdate_frames (f : BusFrame) (s : State) : (presenceUpdate f s).agr.frames = s.agr.frames := by
  unfold presenceUpdate
  split
  · split
    · exact beaconEqual_frames ..
    · exact beaconDiffers_frames ..
  · exact heardFrom_frames ..

theorem anchorAtRoll_frames (g : Nat) (rolling : Bool) (r : Nat) (s : State) :
    (anchorAtRoll g rolling r s).agr.frames = s.agr.frames := by
  simp only [anchorAtRoll]
  split <;> split <;> simp

theorem anchorAtRest_frames (g : Nat) (rolling : Bool) (r p : Nat) (s : State) :
    (anchorAtRest g rolling r p s).agr.frames = s.agr.frames := by
  simp only [anchorAtRest]
  split <;> simp [Agreement.entersRoll]

theorem takeLocate_frames (g : Nat) (closure play : Bool) (r st n t : Nat) (s : State) :
    (takeLocate g closure play r st n t s).agr.frames = s.agr.frames := by
  simp only [takeLocate]
  split <;> simp

theorem applyLocate_frames (g : Nat) (closure play : Bool) (r st n t : Nat) (s : State) :
    (applyLocate g closure play r st n t s).agr.frames = s.agr.frames := by
  simp only [applyLocate]
  split
  · rfl
  · split <;> simp [takeLocate_frames]

theorem adopt_frames (t : Transport) (g n r p : Nat) (s : State) : (adopt t g n r p s).agr.frames = s.agr.frames := by
  simp only [adopt]
  split <;> simp [Agreement.entersRoll]

theorem applyBeacon_frames (k : SlipRef) (a rc : Nat) (t : Transport) (ps : PassState) (g n r p : Nat) (s : State) :
    (applyBeacon k a rc t ps g n r p s).agr.frames = s.agr.frames := by
  simp only [applyBeacon]
  split
  · rfl
  · split
    · split <;> split <;> simp [adopt_frames]
    · simp

theorem applyPayload_frames (k : SlipRef) (a : Nat) (x : Payload) (s : State) :
    (applyPayload k a x s).agr.frames = s.agr.frames := by
  cases x with
  | anchor g rolling r p =>
    show (applyAnchor g rolling r p s).agr.frames = _
    unfold applyAnchor
    split
    · exact anchorAtRoll_frames ..
    · exact anchorAtRest_frames ..
  | locate g closure play r st n t => exact applyLocate_frames ..
  | beacon rc t ps g n r p => exact applyBeacon_frames ..
  | done n oc more => simp [applyPayload]
  | hold | release | window | test => rfl

theorem applyFrame_frames (k : SlipRef) (s : State) (h : HeardFrame) : (applyFrame k s h).agr.frames = s.agr.frames := by
  have updated : (if h.echo then s else presenceUpdate h.frame s).agr.frames = s.agr.frames := by
    split
    · rfl
    · exact presenceUpdate_frames ..
  unfold applyFrame
  generalize (if h.echo = true then s else presenceUpdate h.frame s) = u at updated
  dsimp only
  split
  · exact updated
  · split
    · rw [applyPayload_frames, updated]
    · exact updated

/-- Step 2 leaves the list empty (R48). -/
theorem applyFrames_frames (before s : State) : (applyFrames before s).agr.frames = [] :=
  foldl_keeps (·.agr.frames) _ (fun t h => applyFrame_frames _ t h) _ _

theorem agePeer_frames (s : State) (a : Nat) : (agePeer s a).agr.frames = s.agr.frames := by
  simp only [agePeer, losePeer]
  (repeat' split) <;> simp

theorem presenceStep_frames (s : State) : (presenceStep s).agr.frames = s.agr.frames := by
  unfold presenceStep
  generalize addresses = l
  exact foldl_keeps (·.agr.frames) _ agePeer_frames _ s

theorem rollStep_frames (s : State) : (rollStep s).agr.frames = s.agr.frames := by
  simp only [rollStep]
  (repeat' split) <;> simp [Agreement.entersRoll]

theorem settleStep_frames (s : State) : (settleStep s).agr.frames = s.agr.frames := by
  unfold settleStep
  split <;> rfl

theorem offerBeacon_frames (s : State) : (offerBeacon s).agr.frames = s.agr.frames := by simp [offerBeacon]

theorem beaconStep_frames (s : State) : (beaconStep s).agr.frames = s.agr.frames := by
  unfold beaconStep
  split
  · exact offerBeacon_frames s
  · rfl

theorem listeningStep_frames (s : State) : (listeningStep s).agr.frames = s.agr.frames := by
  simp only [listeningStep, linkUp]
  (repeat' split) <;> simp [offerBeacon_frames]

theorem frameEdge_frames (s : State) : (frameEdge s).agr.frames = [] := by
  simp [frameEdge, (judgeMarks_agr ..).frames, listeningStep_frames, agreementSteps, beaconStep_frames, rollStep_frames,
    settleStep_frames, presenceStep_frames, holdsStep, countLeases_agr, applyFrames_frames]

/-! ## The advance (R17, R18) -/

theorem localStop_eq (s : State) : localStop s = passStop (((s.setAgr { s.agr with transport := .stopped, rollFresh := false }).setOut
    (restOutputs s.out)).setPass { s.pass with closureCount := none }) := rfl

theorem localStop_agr (s : State) : (localStop s).agr = { s.agr with transport := .stopped, rollFresh := false } := by
  simp [localStop_eq]

theorem localStop_out (s : State) : (localStop s).out = restOutputs s.out := by
  rw [localStop_eq, passStop_rest rfl]
  rfl

theorem edgeAdvance_still {s : State} (still : s.agr.transport ≠ .rolling) :
    edgeAdvance s = s.setPosn { s.posn with pPrev := s.posn.pEdge } := if_neg still

/-- The advance handed to the scheduler where the position moved. -/
def advancedToEdge (s : State) : State := if s.posn.p ≠ edgeTarget s then handAdvance (movedToEdge s) else movedToEdge s

theorem advancedToEdge_moves {s : State} (moves : s.posn.p ≠ edgeTarget s) :
    advancedToEdge s = openWindows (fireGroup (movedToEdge s)) := if_pos moves

theorem advancedToEdge_rests {s : State} (rests : s.posn.p = edgeTarget s) : advancedToEdge s = movedToEdge s :=
  if_neg (not_not.2 rests)

theorem advancedToEdge_keeps (s : State) : (advancedToEdge s).posn = (movedToEdge s).posn ∧
    (advancedToEdge s).agr = { s.agr with rollFresh := false } := by
  unfold advancedToEdge
  split
  · simp [movedToEdge]
  · exact ⟨rfl, rfl⟩

theorem edgeAdvance_stays {s : State} (rolling : s.agr.transport = .rolling) (within : s.posn.pEdge + s.posn.rate ≤ s.pMax) :
    edgeAdvance s = advancedToEdge s := by
  rw [edgeAdvance_of_rolling rolling, if_neg (by omega)]
  rfl

theorem edgeAdvance_stops {s : State} (rolling : s.agr.transport = .rolling) (beyond : s.pMax < s.posn.pEdge + s.posn.rate) :
    edgeAdvance s = localStop (advancedToEdge s) := by
  rw [edgeAdvance_of_rolling rolling, if_pos beyond]
  rfl

theorem edgeAdvance_posn {s : State} (rolling : s.agr.transport = .rolling) : (edgeAdvance s).posn = (movedToEdge s).posn := by
  rcases Nat.lt_or_ge s.pMax (s.posn.pEdge + s.posn.rate) with beyond | within
  · rw [edgeAdvance_stops rolling beyond, (localStop_keeps _).2.2.1, (advancedToEdge_keeps s).1]
  · rw [edgeAdvance_stays rolling within, (advancedToEdge_keeps s).1]

theorem edgeAdvance_frames (s : State) : (edgeAdvance s).agr.frames = s.agr.frames := by
  by_cases rolling : s.agr.transport = .rolling
  · rcases Nat.lt_or_ge s.pMax (s.posn.pEdge + s.posn.rate) with beyond | within
    · rw [edgeAdvance_stops rolling beyond, localStop_agr, (advancedToEdge_keeps s).2]
    · rw [edgeAdvance_stays rolling within, (advancedToEdge_keeps s).2]
  · rw [edgeAdvance_still rolling]
    rfl

/-! ## The edge after its second step -/

/-- The parts of an edge after the frames have been applied, but for the word. -/
def edgeRest (pair : Option (Nat × Nat)) (s : State) : State :=
  judgeMarks pair (closureTest (ownEntryMaintenance (clearingTest (listeningStep (beaconStep (rollStep (settleStep
    (presenceStep (holdsStep s)))))))))

theorem frameEdge_eq (s : State) : frameEdge s = compose (edgeRest (handedPair s (edgeAdvance s)) (applyFrames s (edgeAdvance s))) := rfl

theorem frameEdge_quiet {s : State} (quiet : s.agr.frames = []) :
    frameEdge s = compose (edgeRest (handedPair s (edgeAdvance s)) (edgeAdvance s)) := by
  rw [frameEdge_eq, applyFrames_nil _ _ ((edgeAdvance_frames s).trans quiet)]

theorem edgeRest_out (pair : Option (Nat × Nat)) (s : State) : (edgeRest pair s).out = s.out := by simp [edgeRest]

theorem transport_of_rollOf {s t : State} (same : rollOf t = rollOf s) : t.agr.transport = s.agr.transport :=
  congrArg (·.2.2.2.1) same

/-- A station that does not cue is not moved by the roll condition (R53). -/
theorem edgeRest_transport {s : State} (apart : s.agr.transport ≠ .cueing) (pair : Option (Nat × Nat)) :
    (edgeRest pair s).agr.transport = s.agr.transport := by
  have before : rollOf (settleStep (presenceStep (holdsStep s))) = rollOf s := by simp
  have waits : rollStep (settleStep (presenceStep (holdsStep s))) = settleStep (presenceStep (holdsStep s)) :=
    rollStep_waits (.inl (by rw [transport_of_rollOf before]; exact apart))
  apply transport_of_rollOf
  simp [edgeRest, waits]

theorem presenceStep_passState (s : State) : (presenceStep s).pass.state = s.pass.state := by
  unfold presenceStep
  generalize addresses = l
  refine foldl_keeps (·.pass.state) _ (fun t a => ?_) _ s
  simp only [agePeer, losePeer]
  (repeat' split) <;> simp [dropWindow, State.setWindows, dropHold, State.setSlot]

/-- Out of IN_PASS and out of CUEING nothing in the rest of an edge begins or ends a pass (R111, R112). -/
theorem edgeRest_passState {s : State} (apart : s.agr.transport ≠ .cueing) (ended : s.pass.state ≠ .inPass)
    (pair : Option (Nat × Nat)) : (edgeRest pair s).pass.state = s.pass.state := by
  have before : rollOf (settleStep (presenceStep (holdsStep s))) = rollOf s := by simp
  have waits : rollStep (settleStep (presenceStep (holdsStep s))) = settleStep (presenceStep (holdsStep s)) :=
    rollStep_waits (.inl (by rw [transport_of_rollOf before]; exact apart))
  have state : (listeningStep (beaconStep (settleStep (presenceStep (holdsStep s))))).pass.state = s.pass.state := by
    simp [presenceStep_passState]
  have idle : clearingTest (listeningStep (beaconStep (settleStep (presenceStep (holdsStep s))))) =
      listeningStep (beaconStep (settleStep (presenceStep (holdsStep s)))) := by
    unfold clearingTest
    rw [if_neg]
    rw [clears_iff, state]
    exact fun clears => ended clears.1
  have count : ∀ u : State, (closureTest u).pass.state = u.pass.state := by
    intro u
    simp only [closureTest]
    (repeat' split) <;> simp
  simp [edgeRest, waits, idle, count, presenceStep_passState]

/-! ## One frame (R48, R200) -/

theorem applyFrame_echo (k : SlipRef) (s : State) {h : HeardFrame} (echo : h.echo = true) : applyFrame k s h =
    ((parsePayload h.frame.kind h.frame.payload).map fun x => applyPayload k h.frame.source x s).getD s := by
  simp only [applyFrame, echo]
  cases parsePayload h.frame.kind h.frame.payload <;> simp

theorem applyFrame_heard (k : SlipRef) (s : State) {h : HeardFrame} (heard : h.echo = false) : applyFrame k s h =
    if ((presenceUpdate h.frame s).agr.slot h.frame.source).presence = .mismatched ∧ h.frame.kind ≠ .beacon then
      presenceUpdate h.frame s
    else ((parsePayload h.frame.kind h.frame.payload).map fun x =>
      applyPayload k h.frame.source x (presenceUpdate h.frame s)).getD (presenceUpdate h.frame s) := by
  simp only [applyFrame, heard]
  cases parsePayload h.frame.kind h.frame.payload <;> simp

/-! ## Reserved codes (R200) -/

theorem parse_anchor_reserved (x : Byte) {y : Byte} (rest : List Byte) (reserved : 1 < y.toNat) :
    parsePayload .anchor (x :: y :: rest) = none := by
  rcases rest with _ | ⟨r, _ | ⟨p3, _ | ⟨p2, _ | ⟨p1, _ | ⟨p0, _ | ⟨e, more⟩⟩⟩⟩⟩⟩
  case cons.cons.cons.cons.cons.nil =>
    have zero : y ≠ 0 := by rintro rfl; simp at reserved
    have one : y ≠ 1 := by rintro rfl; simp at reserved
    show (if y = 0 then _ else if y = 1 then _ else none) = _
    rw [if_neg zero, if_neg one]
  all_goals rfl

theorem parse_done_reserved (x y : Byte) {z : Byte} (reserved : 192 ≤ z.toNat) : parsePayload .done [x, y, z] = none := by
  have code : z.toNat / 64 = 3 := by have := z.isLt; omega
  show (doneOutcomeOfCode (z.toNat / 64)).map _ = none
  rw [code]
  rfl

theorem parse_beacon_reserved {x : Byte} (rest : List Byte) (reserved : x.toNat / 8 % 4 = 3) :
    parsePayload .beacon (x :: rest) = none := by
  rcases rest with _ | ⟨g, _ | ⟨n1, _ | ⟨n0, _ | ⟨r, _ | ⟨p3, _ | ⟨p2, _ | ⟨p1, _ | ⟨p0, _ | ⟨e, more⟩⟩⟩⟩⟩⟩⟩⟩⟩
  case cons.cons.cons.cons.cons.cons.cons.cons.nil =>
    show (match transportOfCode (x.toNat / 8 % 4), passStateOfCode (x.toNat / 2 % 4) with
      | some t, some ps => some (Payload.beacon (x.toNat / 32) t ps g.toNat (bytesNum [n1, n0]) r.toNat
        (bytesNum [p3, p2, p1, p0]))
      | _, _ => none) = none
    rw [reserved]
    rfl
  all_goals rfl

/-- Settles O40: the edge by its equation, the advance by its four cases, a frame by its echo mark. -/
theorem edgeMovesPosition : Obligations.EdgeMovesPosition := by
  refine ⟨fun s quiet rolling => ⟨?_, fun within => ?_, fun beyond => ?_⟩, fun s quiet still => ?_,
    fun s => ⟨?_, ?_, by simp, by simp, frameEdge_frames s⟩, fun s => rfl, fun b s => rfl, fun s u rolling isU => ?_,
    fun s => edgeAdvance_still, fun s t => rfl, fun s => rfl, fun s => ⟨rfl, fun a => ?_, by decide⟩, localStop_eq,
    fun k s h echo => ⟨fun reserved => ?_, fun x parsed => ?_⟩,
    fun k s u h heard isU => ⟨fun other mismatched => ?_, fun reserved => ?_, fun x parsed served => ?_⟩,
    fun k a g r st n x lease reason c i o rc p b d oc t ps s => ⟨rfl, rfl, rfl, rfl, rfl, rfl, rfl, rfl⟩,
    fun x y z rest => ⟨parse_anchor_reserved x rest, parse_done_reserved x y, parse_beacon_reserved rest⟩⟩
  · rw [frameEdge_posn, applyFrames_nil _ _ ((edgeAdvance_frames s).trans quiet), edgeAdvance_posn rolling]
    rfl
  · have moved : (edgeAdvance s).agr.transport = .rolling := by
      rw [edgeAdvance_stays rolling within, (advancedToEdge_keeps s).2]
      exact rolling
    rw [frameEdge_quiet quiet, (compose_keeps _).2.2.2.2.2.1, edgeRest_transport (by rw [moved]; nofun), moved]
  · have stopped : (edgeAdvance s).agr.transport = .stopped := by
      rw [edgeAdvance_stops rolling beyond, localStop_agr]
    have ended : (edgeAdvance s).pass.state ≠ .inPass := by
      rw [edgeAdvance_stops rolling beyond]
      exact passStop_out _
    have apart : (edgeAdvance s).agr.transport ≠ .cueing := by rw [stopped]; nofun
    rw [frameEdge_quiet quiet, (compose_keeps _).2.2.2.2.2.1, (compose_keeps _).2.2.2.2.2.2.2.2.1, edgeRest_transport apart,
      edgeRest_passState apart ended]
    refine ⟨stopped, ?_, ended⟩
    have out : (edgeRest (handedPair s (edgeAdvance s)) (edgeAdvance s)).out = restOutputs (advancedToEdge s).out := by
      rw [edgeRest_out, edgeAdvance_stops rolling beyond, localStop_out]
    simp only [compose, State.setOut_out, out]
    rfl
  · rw [frameEdge_posn, applyFrames_nil _ _ ((edgeAdvance_frames s).trans quiet), edgeAdvance_still still]
    rfl
  · rw [frameEdge_eq, overlayWord_compose]
    rfl
  · rw [frameEdge_eq, overlayWord_compose]
    rfl
  · have same : u = movedToEdge s := isU
    subst same
    refine ⟨fun moves within => ?_, fun moves beyond => ?_, fun rests within => ?_, fun rests beyond => ?_⟩
    · rw [edgeAdvance_stays rolling within, advancedToEdge_moves moves]
    · rw [edgeAdvance_stops rolling beyond, advancedToEdge_moves moves]
    · rw [edgeAdvance_stays rolling within, advancedToEdge_rests rests]
    · rw [edgeAdvance_stops rolling beyond, advancedToEdge_rests rests]
  · simp only [addresses, List.mem_map, List.mem_range]
    exact ⟨fun ⟨i, low, high⟩ => by omega, fun range => ⟨a - 1, by omega, by omega⟩⟩
  · rw [applyFrame_echo k s echo, reserved]
    rfl
  · rw [applyFrame_echo k s echo, parsed]
    rfl
  · subst isU
    rw [applyFrame_heard k s heard, if_pos ⟨mismatched, other⟩]
  · subst isU
    rw [applyFrame_heard k s heard, reserved]
    exact ite_self _
  · subst isU
    rw [applyFrame_heard k s heard, if_neg (fun dropped => served.elim dropped.2 fun present => present dropped.1), parsed]
    rfl

end Sys2Proof.Machine

/-! PROOF. The stage bus on the wire: the stuffed region bit by bit, the header, the end field, and the frame read back (R23 to R28, R200, R201). -/

namespace Sys2Proof.Machine

-- One proof after another: under the check's memory limit there is no room for a thread per proof.
set_option Elab.async false

/-! ## Runs of bits -/

theorem runRx_cons (rx : Receiver) (b : Bool) (rest : List Bool) : runRx rx (b :: rest) =
    ((runRx (rxBit rx b).1 rest).1, (rxBit rx b).2.toList ++ (runRx (rxBit rx b).1 rest).2) := rfl

theorem runRx_append (rx : Receiver) (l m : List Bool) : runRx rx (l ++ m) =
    ((runRx (runRx rx l).1 m).1, (runRx rx l).2 ++ (runRx (runRx rx l).1 m).2) := by
  induction l generalizing rx with
  | nil => rfl
  | cons b rest ih => rw [List.cons_append, runRx_cons, ih, runRx_cons, List.append_assoc]

/-- A bit that ends nothing passes the rest on. -/
theorem runRx_cons_silent {rx next : Receiver} {b : Bool} (silent : rxBit rx b = (next, none)) (rest : List Bool) :
    runRx rx (b :: rest) = runRx next rest := by
  rw [runRx_cons, silent]
  rfl

/-- Silent bits pass the rest on. -/
theorem runRx_append_silent {rx next : Receiver} {l : List Bool} (silent : runRx rx l = (next, [])) (m : List Bool) :
    runRx rx (l ++ m) = runRx next m := by
  rw [runRx_append, silent]
  rfl

/-! ## Stuffing (R25) -/

/-- The run of equal bits after one more bit. -/
def runOn (k : Bool × Nat) (b : Bool) : Nat := if b = k.1 then k.2 + 1 else 1

theorem runOn_same (b : Bool) (run : Nat) : runOn (b, run) b = run + 1 := if_pos rfl

theorem runOn_other (b : Bool) (run : Nat) : runOn (b, run) (!b) = 1 := if_neg (by simp)

theorem runOn_le (k : Bool × Nat) (b : Bool) : runOn k b ≤ k.2 + 1 := by
  unfold runOn
  split <;> omega

/-- The levels of a stuffed region. -/
def stuffed : Bool × Nat → List Bool → List Bool
  | _, [] => []
  | k, b :: rest => if runOn k b = 5 then b :: (!b) :: stuffed (!b, 1) rest else b :: stuffed (b, runOn k b) rest

theorem stuffed_five {k : Bool × Nat} {b : Bool} (five : runOn k b = 5) (rest : List Bool) :
    stuffed k (b :: rest) = b :: (!b) :: stuffed (!b, 1) rest := if_pos five

theorem stuffed_plain {k : Bool × Nat} {b : Bool} (plain : runOn k b ≠ 5) (rest : List Bool) :
    stuffed k (b :: rest) = b :: stuffed (b, runOn k b) rest := if_neg plain

theorem stuff_five {last : Bool} {run : Nat} {x : TxBit} (five : runOn (last, run) x.level = 5) (rest : List TxBit) :
    stuff last run (x :: rest) = x :: ⟨!x.level, (rest.head?.map TxBit.contention).getD false⟩ :: stuff (!x.level) 1 rest :=
  if_pos five

theorem stuff_plain {last : Bool} {run : Nat} {x : TxBit} (plain : runOn (last, run) x.level ≠ 5) (rest : List TxBit) :
    stuff last run (x :: rest) = x :: stuff x.level (runOn (last, run) x.level) rest := if_neg plain

theorem stuff_levels (last : Bool) (run : Nat) (l : List TxBit) :
    (stuff last run l).map TxBit.level = stuffed (last, run) (l.map TxBit.level) := by
  induction l generalizing last run with
  | nil => rfl
  | cons x rest ih =>
    by_cases five : runOn (last, run) x.level = 5
    · rw [stuff_five five, List.map_cons, List.map_cons, List.map_cons, stuffed_five five, ih]
    · rw [stuff_plain five, List.map_cons, List.map_cons, stuffed_plain five, ih]

/-- The last bit and its run, after a run of bits. -/
def lastRun (k : Bool × Nat) (l : List Bool) : Bool × Nat := l.foldl (fun k b => (b, runOn k b)) k

theorem lastRun_append (k : Bool × Nat) (l m : List Bool) : lastRun k (l ++ m) = lastRun (lastRun k l) m :=
  List.foldl_append ..

theorem lastRun_cons (k : Bool × Nat) (b : Bool) (l : List Bool) : lastRun k (b :: l) = lastRun (b, runOn k b) l := rfl

theorem lastRun_five {k : Bool × Nat} {b : Bool} (five : runOn k b = 5) (l : List Bool) :
    lastRun k (b :: (!b) :: l) = lastRun (!b, 1) l := by
  rw [lastRun_cons, lastRun_cons, five, runOn_other]

theorem stuffed_append (k : Bool × Nat) (l m : List Bool) :
    stuffed k (l ++ m) = stuffed k l ++ stuffed (lastRun k (stuffed k l)) m := by
  induction l generalizing k with
  | nil => rfl
  | cons b rest ih =>
    by_cases five : runOn k b = 5
    · rw [List.cons_append, stuffed_five five, stuffed_five five, ih, lastRun_five five]
      rfl
    · rw [List.cons_append, stuffed_plain five, stuffed_plain five, ih, lastRun_cons]
      rfl

/-- A stuffed region ends with a run of at most four: the stuff bit follows the fifth at once. -/
theorem lastRun_stuffed {k : Bool × Nat} (low : k.2 ≤ 4) (l : List Bool) : (lastRun k (stuffed k l)).2 ≤ 4 := by
  induction l generalizing k with
  | nil => exact low
  | cons b rest ih =>
    have next := runOn_le k b
    by_cases five : runOn k b = 5
    · rw [stuffed_five five, lastRun_five five]
      exact ih (by simp)
    · rw [stuffed_plain five, lastRun_cons]
      exact ih (show runOn k b ≤ 4 by omega)

/-- Equal bits make a run of at least their number. -/
theorem lastRun_replicate (k : Bool × Nat) (n : Nat) (b : Bool) :
    (lastRun k (List.replicate (n + 1) b)).1 = b ∧ n + 1 ≤ (lastRun k (List.replicate (n + 1) b)).2 := by
  induction n with
  | zero =>
    refine ⟨rfl, ?_⟩
    show 1 ≤ runOn k b
    unfold runOn
    split <;> omega
  | succ n ih =>
    obtain ⟨last, run⟩ := ih
    rw [List.replicate_succ', lastRun_append]
    refine ⟨rfl, ?_⟩
    generalize lastRun k (List.replicate (n + 1) b) = k at last run
    obtain ⟨c, r⟩ := k
    subst last
    show n + 1 + 1 ≤ runOn (c, r) c
    rw [runOn_same]
    omega

/-! ## The stuffed region at the receiver (R25 to R27) -/

/-- The receiver inside the stuffed region, by the last bit with its run and the data bits taken in. -/
def inRegion (k : Bool × Nat) (taken : List Bool) : Receiver := ⟨0, some ⟨k.1, k.2, taken.reverse, 0⟩⟩

/-- The data bits taken in make a whole frame, which the end field follows. -/
def wholeFrame (taken : List Bool) : Option (Nat × FrameKind) := if 16 ≤ taken.length then regionEnd taken else none

theorem rxBit_start : rxBit ⟨10, none⟩ false = (inRegion (false, 1) [], none) := rfl

theorem rxBit_stuff (last : Bool) (taken : List Bool) :
    rxBit (inRegion (last, 5) taken) (!last) = (inRegion (!last, 1) taken, none) := by
  cases last <;> rfl

theorem rxBit_sixth (last : Bool) (taken : List Bool) : rxBit (inRegion (last, 5) taken) last = (⟨0, none⟩, some .discard) := by
  cases last <;> rfl

theorem rxBit_data {k : Bool × Nat} {taken : List Bool} (low : k.2 ≤ 4) (more : wholeFrame taken = none) (b : Bool) :
    rxBit (inRegion k taken) b = if dataBitDiscards (taken ++ [b]) then (⟨0, none⟩, some .discard)
      else (inRegion (b, runOn k b) (taken ++ [b]), none) := by
  have due : ¬ k.2 = 5 := by omega
  simp only [wholeFrame] at more
  simp [rxBit, inRegion, rxInFrame, due, more, runOn]

/-- Data bits are taken in without an end of the frame. -/
def Silent (taken l : List Bool) : Prop :=
  ∀ before after : List Bool, ∀ b : Bool, l = before ++ b :: after →
    wholeFrame (taken ++ before) = none ∧ dataBitDiscards (taken ++ before ++ [b]) = false

theorem Silent.head {taken l : List Bool} {b : Bool} (silent : Silent taken (b :: l)) :
    wholeFrame taken = none ∧ dataBitDiscards (taken ++ [b]) = false := by
  simpa using silent [] l b rfl

theorem Silent.tail {taken l : List Bool} {b : Bool} (silent : Silent taken (b :: l)) : Silent (taken ++ [b]) l := by
  intro before after c split
  simpa using silent (b :: before) after c (by rw [split, List.cons_append])

theorem rxBit_silent {k : Bool × Nat} {taken l : List Bool} {b : Bool} (low : k.2 ≤ 4) (silent : Silent taken (b :: l)) :
    rxBit (inRegion k taken) b = (inRegion (b, runOn k b) (taken ++ [b]), none) := by
  rw [rxBit_data low silent.head.1, silent.head.2]
  rfl

/-- Silent data bits are taken in through their stuffing. -/
theorem runRx_stuffed {k : Bool × Nat} {taken l : List Bool} (low : k.2 ≤ 4) (silent : Silent taken l) :
    runRx (inRegion k taken) (stuffed k l) = (inRegion (lastRun k (stuffed k l)) (taken ++ l), []) := by
  induction l generalizing k taken with
  | nil => rw [List.append_nil]; rfl
  | cons b rest ih =>
    have bit := rxBit_silent low silent
    have next := runOn_le k b
    by_cases five : runOn k b = 5
    · rw [five] at bit
      rw [stuffed_five five, runRx_cons_silent bit, runRx_cons_silent (rxBit_stuff _ _), ih (by simp) silent.tail,
        lastRun_five five, List.append_assoc]
      rfl
    · rw [stuffed_plain five, runRx_cons_silent bit, ih (show runOn k b ≤ 4 by omega) silent.tail, lastRun_cons, List.append_assoc]
      rfl

/-- Inside the stuffed region last bit and run follow the line. -/
theorem runRx_stuffed_part {k : Bool × Nat} {taken l part rest : List Bool} (low : k.2 ≤ 4) (silent : Silent taken l)
    (isPart : stuffed k l = part ++ rest) :
    (lastRun k part).2 ≤ 5 ∧ ∃ t : List Bool, runRx (inRegion k taken) part = (inRegion (lastRun k part) t, []) := by
  induction l generalizing k taken part with
  | nil =>
    have none : part = [] := (List.append_eq_nil_iff.1 isPart.symm).1
    subst none
    exact ⟨Nat.le_succ_of_le low, taken, rfl⟩
  | cons b more ih =>
    cases part with
    | nil => exact ⟨Nat.le_succ_of_le low, taken, rfl⟩
    | cons c part =>
      have bit := rxBit_silent low silent
      have next := runOn_le k b
      by_cases five : runOn k b = 5
      · rw [stuffed_five five, List.cons_append, List.cons.injEq] at isPart
        obtain ⟨rfl, tail⟩ := isPart
        rw [five] at bit
        rw [runRx_cons_silent bit]
        cases part with
        | nil =>
          rw [lastRun_cons, five]
          exact ⟨Nat.le_refl 5, _, rfl⟩
        | cons d part =>
          rw [List.cons_append, List.cons.injEq] at tail
          obtain ⟨rfl, tail⟩ := tail
          rw [runRx_cons_silent (rxBit_stuff _ _), lastRun_five five]
          exact ih (by simp) silent.tail tail
      · rw [stuffed_plain five, List.cons_append, List.cons.injEq] at isPart
        obtain ⟨rfl, tail⟩ := isPart
        rw [runRx_cons_silent bit, lastRun_cons]
        exact ih (show runOn k b ≤ 4 by omega) silent.tail tail

/-- A data bit that meets a discard condition ends the frame, whatever stuff bit follows it. -/
theorem runRx_stuffed_discards {k : Bool × Nat} {l : List Bool} {b : Bool} (low : k.2 ≤ 4) (silent : Silent [] l)
    (more : wholeFrame l = none) (discards : dataBitDiscards (l ++ [b]) = true) :
    (runRx (inRegion k []) (stuffed k (l ++ [b]))).2 = [.discard] := by
  rw [stuffed_append, runRx_append_silent (runRx_stuffed low silent), List.nil_append]
  have small := lastRun_stuffed low l
  generalize lastRun k (stuffed k l) = k at small
  have bit : rxBit (inRegion k l) b = (⟨0, none⟩, some .discard) := by rw [rxBit_data small more, discards]; rfl
  by_cases five : runOn k b = 5
  · rw [stuffed_five five, runRx_cons, bit]
    cases b <;> rfl
  · rw [stuffed_plain five, runRx_cons, bit]
    rfl

end Sys2Proof.Machine

/-! PROOF. Frames and payloads read back from the line, and the discards of R27 (R23 to R28, R200, R201). -/

namespace Sys2Proof.Machine

-- One proof after another: under the check's memory limit there is no room for a thread per proof.
set_option Elab.async false

/-! ## Bytes as bits (R200) -/

theorem byteBits_eq (b : Byte) : byteBits b = numBits 8 b.toNat := rfl

theorem bitsNum_byteBits (b : Byte) : bitsNum (byteBits b) = b.toNat := by
  rw [byteBits_eq, bitsNum_numBits_of_lt b.isLt]

theorem byteBits_length (b : Byte) : (byteBits b).length = 8 := rfl

theorem flatMap_byteBits_length (bs : List Byte) : (bs.flatMap byteBits).length = 8 * bs.length := by
  induction bs with
  | nil => rfl
  | cons b rest ih =>
    rw [List.flatMap_cons, List.length_append, ih, byteBits_length, List.length_cons]
    omega

/-- Bytes written as bits are read as the same bytes. -/
theorem bitsBytes_flatMap (bs : List Byte) : bitsBytes (bs.flatMap byteBits) = bs := by
  induction bs with
  | nil => rfl
  | cons b rest ih =>
    rw [List.flatMap_cons]
    show BitVec.ofNat 8 (bitsNum (byteBits b)) :: bitsBytes (rest.flatMap byteBits) = b :: rest
    rw [bitsNum_byteBits, ih, BitVec.ofNat_toNat, BitVec.setWidth_eq]

theorem crcBits_eq (c : BitVec 16) : crcBits c = (List.range 16).map fun i => c.getLsbD (15 - i) := by
  simp [crcBits, byteBits, List.range_succ]

theorem crcBits_length (c : BitVec 16) : (crcBits c).length = 16 := rfl

theorem crcBits_inj {c d : BitVec 16} (same : crcBits c = crcBits d) : c = d := by
  rw [crcBits_eq, crcBits_eq, List.map_inj_left] at same
  refine BitVec.eq_of_getLsbD_eq fun i small => ?_
  have bit := same (15 - i) (by simp; omega)
  rwa [show 15 - (15 - i) = i by omega] at bit

/-! ## The header (R24, R27, R201) -/

theorem kindOfCode_iff (c : Nat) (k : FrameKind) : kindOfCode c = some k ↔ c = k.code := by
  constructor
  · intro known
    unfold kindOfCode at known
    split at known <;> cases known <;> rfl
  · rintro rfl
    cases k <;> rfl

theorem sourceFits_iff (k : FrameKind) (a : Nat) :
    sourceFits k a = true ↔ (k = .test ∧ a = 0) ∨ (k ≠ .test ∧ 1 ≤ a ∧ a ≤ 30) := by
  unfold sourceFits
  split <;> simp_all

theorem sourceFits_lt {k : FrameKind} {a : Nat} (fits : sourceFits k a = true) : a < 31 := by
  rcases (sourceFits_iff k a).1 fits with ⟨-, rfl⟩ | ⟨-, -, high⟩ <;> omega

theorem cls_lt (k : FrameKind) : k.cls < 4 := by cases k <;> decide

theorem code_lt (k : FrameKind) : k.code < 8 := by cases k <;> decide

theorem payloadBytes_lt (k : FrameKind) : k.payloadBytes < 16 := by cases k <;> decide

/-- The header conditions of R27 are met by no two bytes but those of a kind with a source that belongs to it. -/
theorem parseHeader_iff (x y : Byte) (rest : List Bool) (a : Nat) (k : FrameKind) :
    parseHeader (byteBits x ++ (byteBits y ++ rest)) = some (a, k) ↔
      sourceFits k a = true ∧ [x, y] = BusFrame.header ⟨a, k, []⟩ := by
  have first : bitsNum ((byteBits x ++ (byteBits y ++ rest)).take 8) = x.toNat := bitsNum_byteBits x
  have second : bitsNum (((byteBits x ++ (byteBits y ++ rest)).drop 8).take 8) = y.toNat := bitsNum_byteBits y
  have xSmall := x.isLt
  have ySmall := y.isLt
  simp only [parseHeader, first, second]
  constructor
  · intro parsed
    split at parsed
    case h_1 => cases parsed
    case h_2 j known =>
      split at parsed
      case isFalse => cases parsed
      case isTrue met =>
        obtain ⟨len, cls, fits⟩ := met
        cases parsed
        have code := (kindOfCode_iff _ _).1 known
        refine ⟨fits, ?_⟩
        show [x, y] = [BitVec.ofNat 8 (k.cls * 32 + x.toNat % 32), BitVec.ofNat 8 (k.code * 16 + k.payloadBytes)]
        rw [show k.cls * 32 + x.toNat % 32 = x.toNat by omega, show k.code * 16 + k.payloadBytes = y.toNat by omega]
        simp
  · rintro ⟨fits, bytes⟩
    change [x, y] = [BitVec.ofNat 8 (k.cls * 32 + a), BitVec.ofNat 8 (k.code * 16 + k.payloadBytes)] at bytes
    have source := sourceFits_lt fits
    have cls := cls_lt k
    have code := code_lt k
    have len := payloadBytes_lt k
    rw [List.cons.injEq, List.cons.injEq] at bytes
    obtain ⟨isX, isY, -⟩ := bytes
    have xNum : x.toNat = k.cls * 32 + a := by
      rw [isX, BitVec.toNat_ofNat]
      exact Nat.mod_eq_of_lt (by omega)
    have yNum : y.toNat = k.code * 16 + k.payloadBytes := by
      rw [isY, BitVec.toNat_ofNat]
      exact Nat.mod_eq_of_lt (by omega)
    have known : kindOfCode (y.toNat / 16) = some k := (kindOfCode_iff _ _).2 (by omega)
    have address : x.toNat % 32 = a := by omega
    rw [known]
    dsimp only
    rw [if_pos ⟨by omega, by omega, by rw [address]; exact fits⟩, address]

theorem parseHeader_append {l : List Bool} (whole : 16 ≤ l.length) (m : List Bool) : parseHeader (l ++ m) = parseHeader l := by
  simp only [parseHeader]
  rw [List.take_append_of_le_length (by omega), List.drop_append_of_le_length (by omega),
    List.take_append_of_le_length (by rw [List.length_drop]; omega)]

/-! ## The data bits of a frame (R26, R27) -/

theorem regionEnd_eq {l : List Bool} {a : Nat} {k : FrameKind} (header : parseHeader l = some (a, k)) :
    regionEnd l = if l.length = k.dataLength then some (a, k) else none := by
  rw [regionEnd, header]

theorem regionEnd_short {l : List Bool} (short : l.length < 32) : regionEnd l = none := by
  unfold regionEnd
  split
  case h_1 a k _ =>
    rw [if_neg]
    unfold FrameKind.dataLength
    omega
  case h_2 => rfl

/-- A part of the data bits of a frame with a good header is taken in silently. -/
theorem part_silent {l m : List Bool} {a : Nat} {k : FrameKind} (header : parseHeader (l ++ m) = some (a, k))
    (length : (l ++ m).length = k.dataLength) (more : m ≠ []) : wholeFrame l = none ∧ dataBitDiscards l = false := by
  have long : 0 < m.length := List.length_pos_iff.2 more
  rw [List.length_append] at length
  have region : wholeFrame l = none ∧ regionEnd l = none := by
    rcases Nat.lt_or_ge l.length 16 with short | whole
    · exact ⟨if_neg (by omega), regionEnd_short (by omega)⟩
    · rw [parseHeader_append whole] at header
      have none : regionEnd l = none := by rw [regionEnd_eq header, if_neg (by omega)]
      exact ⟨by rw [wholeFrame, if_pos whole, none], none⟩
  refine ⟨region.1, ?_⟩
  unfold dataBitDiscards
  split
  case isTrue sixteen =>
    rw [parseHeader_append (by omega)] at header
    rw [header]
    rfl
  case isFalse => rw [region.2]

theorem parts_silent {l m : List Bool} {a : Nat} {k : FrameKind} (header : parseHeader (l ++ m) = some (a, k))
    (length : (l ++ m).length = k.dataLength) (more : m ≠ []) : Silent [] l := by
  rintro before after b rfl
  rw [List.append_assoc] at header length
  refine ⟨(part_silent header length (by simp)).1, (part_silent (l := before ++ [b]) (m := after ++ m) (a := a) (k := k) ?_ ?_ ?_).2⟩
  · simpa using header
  · simpa using length
  · simp [more]

/-- A frame that a transmitter can send. -/
structure BusFrame.Sendable (f : BusFrame) : Prop where
  length : f.payload.length = f.kind.payloadBytes
  source : sourceFits f.kind f.source = true

/-- The data bits of a frame with a check of any value. -/
def BusFrame.dataWith (f : BusFrame) (check : BitVec 16) : List Bool := f.checkedBits ++ crcBits check

theorem BusFrame.Sendable.checked_length {f : BusFrame} (h : f.Sendable) : f.checkedBits.length = 16 + 8 * f.kind.payloadBytes := by
  rw [BusFrame.checkedBits, flatMap_byteBits_length, List.length_append, h.length]
  show 8 * (2 + _) = _
  omega

theorem BusFrame.Sendable.data_length {f : BusFrame} (h : f.Sendable) (check : BitVec 16) :
    (f.dataWith check).length = f.kind.dataLength := by
  rw [BusFrame.dataWith, List.length_append, h.checked_length, crcBits_length, FrameKind.dataLength]
  omega

theorem BusFrame.Sendable.header {f : BusFrame} (h : f.Sendable) (check : BitVec 16) :
    parseHeader (f.dataWith check) = some (f.source, f.kind) :=
  (parseHeader_iff _ _ (f.payload.flatMap byteBits ++ crcBits check) _ _).2 ⟨h.source, rfl⟩

theorem BusFrame.Sendable.whole {f : BusFrame} (h : f.Sendable) (check : BitVec 16) :
    wholeFrame (f.dataWith check) = some (f.source, f.kind) := by
  have length := h.data_length check
  rw [wholeFrame, if_pos (by rw [length, FrameKind.dataLength]; omega), regionEnd_eq (h.header check), if_pos length]

/-- The last data bit is judged by the check. -/
theorem BusFrame.Sendable.discards_iff {f : BusFrame} (h : f.Sendable) (check : BitVec 16) :
    dataBitDiscards (f.dataWith check) = true ↔ check ≠ crc f.checkedBits := by
  have length := h.data_length check
  rw [dataBitDiscards, if_neg (by rw [length, FrameKind.dataLength]; omega), regionEnd_eq (h.header check), if_pos length]
  show decide (crcBits (crc ((f.checkedBits ++ crcBits check).take _)) ≠ (f.checkedBits ++ crcBits check).drop _) = true ↔ _
  rw [← h.checked_length, List.take_left, List.drop_left, decide_eq_true_eq]
  exact not_congr ⟨fun same => (crcBits_inj same).symm, fun same => by rw [same]⟩

/-- The data bits of a sent frame are taken in silently. -/
theorem BusFrame.Sendable.silent {f : BusFrame} (h : f.Sendable) : Silent [] f.dataBits := by
  intro before after b split
  have header := h.header (crc f.checkedBits)
  have length := h.data_length (crc f.checkedBits)
  have good : dataBitDiscards f.dataBits = false :=
    Bool.eq_false_iff.2 fun bad => (h.discards_iff (crc f.checkedBits)).1 bad rfl
  rw [BusFrame.dataWith, ← BusFrame.dataBits, split] at header length
  refine ⟨(part_silent header length (by simp)).1, ?_⟩
  rw [List.nil_append]
  rcases eq_or_ne after [] with rfl | more
  · rwa [split] at good
  · rw [List.append_cons] at header length
    exact (part_silent header length more).2

end Sys2Proof.Machine

/-! PROOF. Every frame is read back from the line and every payload from its bytes; each fault of R27 is discarded. -/

namespace Sys2Proof.Machine

-- One proof after another: under the check's memory limit there is no room for a thread per proof.
set_option Elab.async false

/-! ## The end field (R28) -/

/-- The receiver after n recessive bits of the end field. -/
def inEnd (k : Bool × Nat) (taken : List Bool) (n : Nat) : Receiver := ⟨n, some ⟨k.1, k.2, taken.reverse, n⟩⟩

theorem rxBit_end {k : Bool × Nat} {taken : List Bool} {a : Nat} {kind : FrameKind} (low : k.2 ≤ 4)
    (whole : wholeFrame taken = some (a, kind)) (n : Nat) (b : Bool) : rxBit (inEnd k taken n) b =
      if b = false then (⟨0, none⟩, some .discard)
      else if n = 7 then (⟨n + 1, none⟩, some (.complete (frameOfBits a kind taken)))
      else (inEnd k taken (n + 1), none) := by
  have due : ¬ k.2 = 5 := by omega
  simp only [wholeFrame] at whole
  simp [rxBit, inEnd, rxInFrame, due, whole]

theorem runRx_end {k : Bool × Nat} {taken : List Bool} {a : Nat} {kind : FrameKind} (low : k.2 ≤ 4)
    (whole : wholeFrame taken = some (a, kind)) {n : Nat} (within : n < 8) :
    runRx (inRegion k taken) (List.replicate n true) = (inEnd k taken n, []) := by
  induction n with
  | zero => rfl
  | succ n ih =>
    rw [List.replicate_succ', runRx_append_silent (ih (by omega)), runRx_cons, rxBit_end low whole, if_neg (by simp),
      if_neg (by omega)]
    rfl

theorem runRx_end_dominant {k : Bool × Nat} {taken : List Bool} {a : Nat} {kind : FrameKind} (low : k.2 ≤ 4)
    (whole : wholeFrame taken = some (a, kind)) {n : Nat} (within : n < 8) :
    runRx (inRegion k taken) (List.replicate n true ++ [false]) = (⟨0, none⟩, [.discard]) := by
  rw [runRx_append_silent (runRx_end low whole within), runRx_cons, rxBit_end low whole, if_pos rfl]
  rfl

theorem runRx_end_complete {k : Bool × Nat} {taken : List Bool} {a : Nat} {kind : FrameKind} (low : k.2 ≤ 4)
    (whole : wholeFrame taken = some (a, kind)) :
    runRx (inRegion k taken) (List.replicate 8 true) = (⟨8, none⟩, [.complete (frameOfBits a kind taken)]) := by
  rw [List.replicate_succ', runRx_append_silent (runRx_end low whole (n := 7) (by omega)), runRx_cons, rxBit_end low whole,
    if_neg (by simp), if_pos rfl]
  rfl

/-! ## Frames on the line -/

theorem tagged_levels (f : BusFrame) : f.tagged.map TxBit.level = f.dataBits := by
  simp [BusFrame.tagged, Function.comp_def]

/-- The start bit and the stuffed region of a frame. -/
def BusFrame.region (f : BusFrame) : List Bool := false :: stuffed (false, 1) f.dataBits

theorem lineBits_eq (f : BusFrame) : f.lineBits = f.region ++ List.replicate 8 true := by
  rw [BusFrame.lineBits, BusFrame.txBits, List.map_append, List.map_cons, stuff_levels, tagged_levels, List.map_replicate]
  rfl

theorem lineBits_length (f : BusFrame) : f.lineBits.length = f.region.length + 8 := by
  rw [lineBits_eq, List.length_append, List.length_replicate]

theorem BusFrame.Sendable.whole_data {f : BusFrame} (h : f.Sendable) : wholeFrame f.dataBits = some (f.source, f.kind) :=
  h.whole _

theorem BusFrame.Sendable.region_read {f : BusFrame} (h : f.Sendable) :
    ∃ k : Bool × Nat, k.2 ≤ 4 ∧ runRx ⟨10, none⟩ f.region = (inRegion k f.dataBits, []) := by
  refine ⟨_, lastRun_stuffed (k := (false, 1)) (by decide) f.dataBits, ?_⟩
  rw [BusFrame.region, runRx_cons_silent rxBit_start, runRx_stuffed (by decide) h.silent]
  rfl

theorem BusFrame.Sendable.frameOfBits {f : BusFrame} (h : f.Sendable) : frameOfBits f.source f.kind f.dataBits = f := by
  have split : f.dataBits = f.header.flatMap byteBits ++ (f.payload.flatMap byteBits ++ crcBits (crc f.checkedBits)) := by
    show (f.header ++ f.payload).flatMap byteBits ++ crcBits (crc f.checkedBits) = _
    rw [List.flatMap_append, List.append_assoc]
  have payload : (f.dataBits.drop 16).take (8 * f.kind.payloadBytes) = f.payload.flatMap byteBits := by
    rw [split, List.drop_left' (i := 16) (flatMap_byteBits_length f.header), ← h.length, List.take_left' (flatMap_byteBits_length _)]
  rw [Machine.frameOfBits, payload, bitsBytes_flatMap]

/-- A frame that a transmitter can send is read back, once, and leaves eight recessive bits behind it. -/
theorem BusFrame.Sendable.read_back {f : BusFrame} (h : f.Sendable) :
    runRx ⟨10, none⟩ f.lineBits = (⟨8, none⟩, [.complete f]) := by
  obtain ⟨k, low, region⟩ := h.region_read
  rw [lineBits_eq, runRx_append_silent region, runRx_end_complete low h.whole_data, h.frameOfBits]

theorem BusFrame.Sendable.end_dominant {f : BusFrame} (h : f.Sendable) {n : Nat} (within : n < 8) :
    runRx ⟨10, none⟩ (f.lineBits.take (f.lineBits.length - 8 + n) ++ [false]) = (⟨0, none⟩, [.discard]) := by
  obtain ⟨k, low, region⟩ := h.region_read
  have part : f.lineBits.take (f.lineBits.length - 8 + n) = f.region ++ List.replicate n true := by
    rw [lineBits_length, lineBits_eq, Nat.add_sub_cancel, List.take_length_add_append, List.take_replicate,
      Nat.min_eq_left (by omega)]
  rw [part, List.append_assoc, runRx_append_silent region, runRx_end_dominant low h.whole_data within]

/-! ## The discards (R23, R25 to R27) -/

/-- A sixth equal bit in the stuffed region. -/
theorem BusFrame.Sendable.sixth_bit {f : BusFrame} (h : f.Sendable) {before rest : List Bool} {b : Bool}
    (inLine : f.lineBits = before ++ List.replicate 5 b ++ rest) (inside : 8 ≤ rest.length) :
    runRx ⟨10, none⟩ (before ++ List.replicate 5 b ++ [b]) = (⟨0, none⟩, [.discard]) := by
  have inRegion : ∃ more, f.region = before ++ List.replicate 5 b ++ more := by
    rw [lineBits_eq] at inLine
    rcases List.append_eq_append_iff.1 inLine with ⟨c, longer, ends⟩ | ⟨c, shorter, -⟩
    · have lengths := congrArg List.length ends
      rw [List.length_append, List.length_replicate] at lengths
      have none : c = [] := List.eq_nil_of_length_eq_zero (by omega)
      exact ⟨[], by rw [longer, none, List.append_nil, List.append_nil]⟩
    · exact ⟨c, shorter⟩
  obtain ⟨more, inRegion⟩ := inRegion
  obtain ⟨c, part, isPart⟩ : ∃ c part, before ++ List.replicate 5 b = c :: part := List.exists_cons_of_ne_nil (by simp)
  have runs : lastRun (false, 0) (before ++ List.replicate 5 b) = lastRun (c, runOn (false, 0) c) part := by
    rw [isPart, lastRun_cons]
  rw [isPart, BusFrame.region, List.cons_append, List.cons.injEq] at inRegion
  obtain ⟨rfl, inStuffed⟩ := inRegion
  obtain ⟨atMost, taken, read⟩ := runRx_stuffed_part (k := (false, 1)) (by decide) h.silent inStuffed
  obtain ⟨last, atLeast⟩ := lastRun_replicate (lastRun (false, 0) before) 4 b
  rw [← lastRun_append, runs] at last atLeast
  have five : lastRun (false, 1) part = (b, 5) := Prod.ext last (Nat.le_antisymm atMost atLeast)
  rw [five] at read
  rw [isPart, List.cons_append, runRx_cons_silent rxBit_start, runRx_append_silent read, runRx_cons, rxBit_sixth]
  rfl

/-- A dominant bit within a frame discards it or makes a run of dominant bits. -/
theorem rxBit_dominant (idle : Nat) (fr : RxFrame) (low : fr.run ≤ 5) :
    (rxBit ⟨idle, some fr⟩ false).2 = some .discard ∨
    ∃ next : RxFrame, rxBit ⟨idle, some fr⟩ false = (⟨0, some next⟩, none) ∧ next.last = false ∧ 1 ≤ next.run ∧ next.run ≤ 5 ∧
      (fr.last = false → next.run = fr.run + 1) := by
  show (rxInFrame idle fr false).2 = _ ∨ ∃ next, rxInFrame idle fr false = _ ∧ _
  unfold rxInFrame
  split
  case isTrue five =>
    split
    · exact .inl rfl
    case isFalse recessive =>
      exact .inr ⟨_, rfl, rfl, Nat.le_refl 1, show 1 ≤ 5 by decide, fun dominant => absurd dominant.symm recessive⟩
  case isFalse other =>
    split
    · exact .inl rfl
    · split
      · exact .inl rfl
      · refine .inr ⟨_, rfl, rfl, ?_, ?_, fun dominant => if_pos dominant.symm⟩ <;> dsimp only <;> split <;> omega

theorem dominant_discards (n idle : Nat) (fr : RxFrame) (dominant : fr.last = false) (due : 5 < n + fr.run) (low : fr.run ≤ 5) :
    .discard ∈ (runRx ⟨idle, some fr⟩ (List.replicate n false)).2 := by
  induction n generalizing idle fr with
  | zero => omega
  | succ n ih =>
    rw [List.replicate_succ, runRx_cons]
    rcases rxBit_dominant idle fr low with discard | ⟨next, silent, last, -, high, run⟩
    · rw [discard]
      exact List.mem_cons_self ..
    · rw [silent]
      exact List.mem_append_right _ (ih _ next last (by rw [run dominant]; omega) high)

/-- Six dominant bits within a frame: whatever the frame was, a discard comes by the sixth. -/
theorem abort_discards (idle : Nat) (fr : RxFrame) (low : fr.run ≤ 5) :
    .discard ∈ (runRx ⟨idle, some fr⟩ (List.replicate 6 false)).2 := by
  rw [List.replicate_succ, runRx_cons]
  rcases rxBit_dominant idle fr low with discard | ⟨next, silent, last, some, high, -⟩
  · rw [discard]
    exact List.mem_cons_self ..
  · rw [silent]
    exact List.mem_append_right _ (dominant_discards 5 0 next last (by omega) high)

theorem marked_levels (l : List Bool) : (l.map fun b => (⟨b, false⟩ : TxBit)).map TxBit.level = l := by
  simp [Function.comp_def]

/-- A discard at the last data bit of a region. -/
theorem region_discards {l : List Bool} (some : l ≠ []) (silent : Silent [] l.dropLast) (more : wholeFrame l.dropLast = none)
    (discards : dataBitDiscards l = true) :
    (runRx ⟨10, none⟩ (false :: (stuff false 1 (l.map (⟨·, false⟩))).map TxBit.level)).2 = [.discard] := by
  rw [stuff_levels, marked_levels, runRx_cons_silent rxBit_start]
  rw [← List.dropLast_append_getLast some] at discards ⊢
  exact runRx_stuffed_discards (by decide) silent more discards

/-- Fewer bits than a header are taken in silently. -/
theorem short_silent {l : List Bool} (short : l.length < 16) : Silent [] l := by
  rintro before after b rfl
  rw [List.length_append, List.length_cons] at short
  refine ⟨if_neg (by simp; omega), ?_⟩
  rw [dataBitDiscards, if_neg (by simp; omega), regionEnd_short (by simp; omega)]

/-- Two bytes that are the header of no kind. -/
theorem bad_header {first second : Byte}
    (bad : ∀ f : BusFrame, sourceFits f.kind f.source = true → f.header ≠ [first, second]) :
    (runRx ⟨10, none⟩ (false :: (stuff false 1 ((byteBits first ++ byteBits second).map (⟨·, false⟩))).map TxBit.level)).2 =
      [.discard] := by
  have none : parseHeader (byteBits first ++ byteBits second) = none := by
    refine Option.eq_none_iff_forall_ne_some.2 fun ⟨a, k⟩ parsed => ?_
    rw [← List.append_nil (byteBits second)] at parsed
    obtain ⟨fits, header⟩ := (parseHeader_iff first second [] a k).1 parsed
    exact bad ⟨a, k, []⟩ fits header.symm
  have length : (byteBits first ++ byteBits second).length = 16 := rfl
  generalize byteBits first ++ byteBits second = header at none length
  have short : header.dropLast.length < 16 := by rw [List.length_dropLast, length]; decide
  refine region_discards (by rintro rfl; cases length) (short_silent short) (if_neg (by omega)) ?_
  rw [dataBitDiscards, if_pos length, none]
  rfl

/-- A check that is not the CRC of the bytes before it. -/
theorem BusFrame.Sendable.bad_check {f : BusFrame} (h : f.Sendable) {check : BitVec 16} (bad : check ≠ crc f.checkedBits) :
    (runRx ⟨10, none⟩ (false :: (stuff false 1 ((f.dataWith check).map (⟨·, false⟩))).map TxBit.level)).2 = [.discard] := by
  have length := h.data_length check
  have header := h.header check
  have some : f.dataWith check ≠ [] := by
    intro none
    rw [none, FrameKind.dataLength, List.length_nil] at length
    omega
  have parts := List.dropLast_append_getLast some
  rw [← parts] at header length
  refine region_discards some (parts_silent header length (by simp)) (part_silent header length (by simp)).1 ?_
  exact (h.discards_iff check).2 bad

/-! ## Payloads (R201) -/

theorem byte_fits {n : Nat} (fits : n < 256) : (BitVec.ofNat 8 (n / 256 ^ 0)).toNat = n := by
  rw [Nat.pow_zero, Nat.div_one, BitVec.toNat_ofNat, Nat.mod_eq_of_lt fits]

theorem bytesNum_fits {w n : Nat} (fits : n < 256 ^ w) : bytesNum (numBytes w n) = n := by
  rw [bytesNum_numBytes, Nat.mod_eq_of_lt fits]

theorem transportOfCode_code (t : Transport) : transportOfCode t.code = some t := by cases t <;> rfl

theorem passStateOfCode_code (p : PassState) : passStateOfCode p.code = some p := by cases p <;> rfl

theorem parse_beacon {b g n1 n0 r p3 p2 p1 p0 : Byte} {t : Transport} {ps : PassState}
    (transport : transportOfCode (b.toNat / 8 % 4) = some t) (pass : passStateOfCode (b.toNat / 2 % 4) = some ps) :
    parsePayload .beacon [b, g, n1, n0, r, p3, p2, p1, p0] =
      some (.beacon (b.toNat / 32) t ps g.toNat (bytesNum [n1, n0]) r.toNat (bytesNum [p3, p2, p1, p0])) := by
  show (match transportOfCode (b.toNat / 8 % 4), passStateOfCode (b.toNat / 2 % 4) with
    | some t, some ps =>
      some (Payload.beacon (b.toNat / 32) t ps g.toNat (bytesNum [n1, n0]) r.toNat (bytesNum [p3, p2, p1, p0]))
    | _, _ => none) = _
  rw [transport, pass]

theorem payload_length (x : Payload) : x.bytes.length = x.kind.payloadBytes := by
  cases x <;> rfl

/-- A payload whose fields fit is read back from its bytes. -/
theorem parse_bytes {x : Payload} (fits : x.fits = true) : parsePayload x.kind x.bytes = some x := by
  cases x with
  | anchor g rolling r p =>
    simp only [Payload.fits, Bool.and_eq_true, decide_eq_true_eq] at fits
    obtain ⟨⟨hg, hr⟩, hp⟩ := fits
    have read : parsePayload .anchor (Payload.anchor g rolling r p).bytes =
        some (.anchor (BitVec.ofNat 8 (g / 256 ^ 0)).toNat rolling (BitVec.ofNat 8 (r / 256 ^ 0)).toNat (bytesNum (numBytes 4 p))) := by
      cases rolling <;> rfl
    exact read.trans (by rw [byte_fits hg, byte_fits hr, bytesNum_fits hp])
  | locate g closure play r st n t =>
    simp only [Payload.fits, Bool.and_eq_true, decide_eq_true_eq] at fits
    obtain ⟨⟨⟨⟨hg, hr⟩, hst⟩, hn⟩, ht⟩ := fits
    have read : parsePayload .locate (Payload.locate g closure play r st n t).bytes =
        some (.locate (BitVec.ofNat 8 (g / 256 ^ 0)).toNat closure play (BitVec.ofNat 8 (r / 256 ^ 0)).toNat
          (BitVec.ofNat 8 (st / 256 ^ 0)).toNat (bytesNum (numBytes 2 n)) (bytesNum (numBytes 4 t))) := by
      cases closure <;> cases play <;> rfl
    exact read.trans (by rw [byte_fits hg, byte_fits hr, byte_fits hst, bytesNum_fits hn, bytesNum_fits ht])
  | hold lease reason =>
    simp only [Payload.fits, Bool.and_eq_true, decide_eq_true_eq] at fits
    obtain ⟨hl, hr⟩ := fits
    have read : parsePayload .hold (Payload.hold lease reason).bytes =
        some (.hold (BitVec.ofNat 8 (lease / 256 ^ 0)).toNat ((BitVec.ofNat 8 (reason % 16 / 256 ^ 0)).toNat % 16)) := rfl
    exact read.trans (by rw [byte_fits hl, byte_fits (by omega), Nat.mod_mod, Nat.mod_eq_of_lt hr])
  | release => rfl
  | window n c i o =>
    simp only [Payload.fits, Bool.and_eq_true, decide_eq_true_eq] at fits
    obtain ⟨⟨⟨hn, hc⟩, hi⟩, ho⟩ := fits
    have read : parsePayload .window (Payload.window n c i o).bytes =
        some (.window (bytesNum (numBytes 2 n)) (bytesNum (numBytes 2 c)) (bytesNum (numBytes 4 i)) (bytesNum (numBytes 4 o))) := rfl
    exact read.trans (by rw [bytesNum_fits hn, bytesNum_fits hc, bytesNum_fits hi, bytesNum_fits ho])
  | done n outcome more =>
    simp only [Payload.fits, decide_eq_true_eq] at fits
    have read : parsePayload .done (Payload.done n outcome more).bytes = some (.done (bytesNum (numBytes 2 n)) outcome more) := by
      cases outcome <;> cases more <;> rfl
    exact read.trans (by rw [bytesNum_fits fits])
  | beacon rc t ps g n r p =>
    simp only [Payload.fits, Bool.and_eq_true, decide_eq_true_eq] at fits
    obtain ⟨⟨⟨⟨hrc, hg⟩, hn⟩, hr⟩, hp⟩ := fits
    have tSmall : t.code < 3 := by cases t <;> decide
    have psSmall : ps.code < 4 := by cases ps <;> decide
    have head : (BitVec.ofNat 8 ((32 * rc + 8 * t.code + 2 * ps.code) / 256 ^ 0)).toNat = 32 * rc + 8 * t.code + 2 * ps.code :=
      byte_fits (by omega)
    have read := parse_beacon (b := BitVec.ofNat 8 ((32 * rc + 8 * t.code + 2 * ps.code) / 256 ^ 0))
      (g := BitVec.ofNat 8 (g / 256 ^ 0)) (n1 := BitVec.ofNat 8 (n / 256 ^ 1)) (n0 := BitVec.ofNat 8 (n / 256 ^ 0))
      (r := BitVec.ofNat 8 (r / 256 ^ 0)) (p3 := BitVec.ofNat 8 (p / 256 ^ 3)) (p2 := BitVec.ofNat 8 (p / 256 ^ 2))
      (p1 := BitVec.ofNat 8 (p / 256 ^ 1)) (p0 := BitVec.ofNat 8 (p / 256 ^ 0)) (t := t) (ps := ps)
      (by rw [head, show (32 * rc + 8 * t.code + 2 * ps.code) / 8 % 4 = t.code by omega, transportOfCode_code])
      (by rw [head, show (32 * rc + 8 * t.code + 2 * ps.code) / 2 % 4 = ps.code by omega, passStateOfCode_code])
    refine Eq.trans read ?_
    show some (Payload.beacon _ t ps _ (bytesNum (numBytes 2 n)) _ (bytesNum (numBytes 4 p))) = _
    rw [head, byte_fits hg, byte_fits hr, bytesNum_fits hn, bytesNum_fits hp,
      show (32 * rc + 8 * t.code + 2 * ps.code) / 32 = rc by omega]
  | test n =>
    simp only [Payload.fits, decide_eq_true_eq] at fits
    have read : parsePayload .test (Payload.test n).bytes = some (.test (BitVec.ofNat 8 (n / 256 ^ 0)).toNat) := rfl
    exact read.trans (by rw [byte_fits fits])

/-! ## The CRC (R26) -/

theorem crc_append (bits : List Bool) (b : Bool) : crc (bits ++ [b]) =
    (crc bits <<< 1) ^^^ if (crc bits).getLsbD 15 = b then 0 else 0x1021 := by
  have step : crc (bits ++ [b]) = crcStep (crc bits) b := List.foldl_append ..
  have top : (crc bits).msb = (crc bits).getLsbD 15 := rfl
  rw [step, crcStep, top]
  split <;> simp_all

/-- Settles O57: a frame by its header, stuffed region and end field, a payload by its kind, each discard by the bit that meets it. -/
theorem receiverReadsBackFrames : Obligations.ReceiverReadsBackFrames := by
  refine ⟨fun f length source => BusFrame.Sendable.read_back ⟨length, source⟩, fun x fits => ⟨payload_length x, parse_bytes fits⟩,
    by decide, rfl, rfl, fun f => ⟨?_, ?_⟩, fun b => rfl, fun bits b => ⟨rfl, crc_append bits b⟩, fun source x => rfl, fun x => ?_,
    fun i => ⟨rfl, fun line => ?_, rfl⟩, fun f before five rest b length source inLine equal inside => ?_,
    fun idle fr low => abort_discards idle fr low, fun first second bad => bad_header bad, sourceFits_iff,
    fun f check length source bad => ?_, fun f n length source within => BusFrame.Sendable.end_dominant ⟨length, source⟩ within⟩
  · show [BitVec.ofNat 8 (f.kind.cls * 32 + f.source), BitVec.ofNat 8 (f.kind.code * 16 + f.kind.payloadBytes)] =
      [BitVec.ofNat 8 ((32 * f.kind.cls + f.source) / 256 ^ 0), BitVec.ofNat 8 ((16 * f.kind.code + f.kind.payloadBytes) / 256 ^ 0)]
    rw [Nat.mul_comm 32, Nat.mul_comm 16, Nat.pow_zero, Nat.div_one, Nat.div_one]
  · rw [← crcBits_eq]
    rfl
  · cases x with
    | anchor g rolling r p => cases rolling <;> rfl
    | locate g closure play r st n t => cases closure <;> cases play <;> rfl
    | done n outcome more => cases outcome <;> cases more <;> rfl
    | beacon rate t ps g n r p => cases t <;> cases ps <;> rfl
    | hold | release | window | test => rfl
  · exact Prod.ext (by show rxOutside i false = _; simp [rxOutside, Config.idleBits, line]) rfl
  · subst equal
    exact BusFrame.Sendable.sixth_bit ⟨length, source⟩ inLine inside
  · rw [← crcBits_eq]
    exact BusFrame.Sendable.bad_check ⟨length, source⟩ bad

end Sys2Proof.Machine

/-! PROOF. Attempts on the line (R25, R30 to R32, R35, R37, R54, R63). -/

namespace Sys2Proof.Machine

-- One proof after another: under the check's memory limit there is no room for a thread per proof.
set_option Elab.async false

/-! ## The transmitter's judgement (R31, R32, R34) -/

theorem judgeTx_sent (sent rest : List TxBit) (line : List Bool) :
    judgeTx (sent ++ rest) (sent.map TxBit.level ++ line) = judgeTx rest line := by
  induction sent with
  | nil => rfl
  | cons x more ih =>
    rw [List.cons_append, List.map_cons, List.cons_append, judgeTx, if_pos rfl, ih]

theorem afterDifference_sent (sent rest : List TxBit) (line : List Bool) :
    afterDifference (sent ++ rest) (sent.map TxBit.level ++ line) = afterDifference rest line := by
  induction sent with
  | nil => rfl
  | cons x more ih =>
    rw [List.cons_append, List.map_cons, List.cons_append, afterDifference, if_pos rfl, ih]

/-- The first difference is judged by its bit. -/
theorem judgeTx_differs (sent rest : List TxBit) (x : TxBit) (more : List Bool) :
    judgeTx (sent ++ x :: rest) (sent.map TxBit.level ++ (!x.level) :: more) =
      if x.contention = true ∧ x.level = true then .lost else .bitError := by
  rw [judgeTx_sent, judgeTx, if_neg (by simp)]

theorem afterDifference_differs (sent rest : List TxBit) (x : TxBit) (more : List Bool) :
    afterDifference (sent ++ x :: rest) (sent.map TxBit.level ++ (!x.level) :: more) = more := by
  rw [afterDifference_sent, afterDifference, if_neg (by simp)]

theorem judgeTx_whole (sent : List TxBit) (after : List Bool) : judgeTx sent (sent.map TxBit.level ++ after) = .complete := by
  have whole := judgeTx_sent sent [] after
  rwa [List.append_nil] at whole

theorem afterDifference_whole (sent : List TxBit) (after : List Bool) :
    afterDifference sent (sent.map TxBit.level ++ after) = after := by
  have whole := afterDifference_sent sent [] after
  rwa [List.append_nil] at whole

theorem judgeTx_part (sent rest : List TxBit) (x : TxBit) : judgeTx (sent ++ x :: rest) (sent.map TxBit.level) = .unfinished := by
  have part := judgeTx_sent sent (x :: rest) []
  rwa [List.append_nil] at part

/-! ## The queue and the entry on the line (R30 to R34) -/

/-- The oldest entry of the lowest class, by what stands before and behind it. -/
structure Oldest (before : List TxEntry) (e : TxEntry) (after : List TxEntry) : Prop where
  before : ∀ x ∈ before, e.frame.kind.cls < x.frame.kind.cls
  after : ∀ x ∈ after, e.frame.kind.cls ≤ x.frame.kind.cls

theorem Oldest.lowestClass {before after : List TxEntry} {e : TxEntry} (h : Oldest before e after) :
    lowestClass (before ++ e :: after) = e.frame.kind.cls := by
  refine Nat.le_antisymm ?_ ?_
  · exact (foldl_min_le _ 3).2 _ (List.mem_map_of_mem (f := fun e : TxEntry => e.frame.kind.cls) (by simp))
  · rcases List.mem_cons.1 (foldl_min_mem ((before ++ e :: after).map fun e => e.frame.kind.cls) 3) with top | inQueue
    · rw [Machine.lowestClass, top]
      exact Nat.le_of_lt_succ (cls_lt _)
    · obtain ⟨x, mem, cls⟩ := List.mem_map.1 inQueue
      rw [Machine.lowestClass, ← cls]
      rcases List.mem_append.1 mem with ahead | later
      · exact Nat.le_of_lt (h.before x ahead)
      · rcases List.mem_cons.1 later with rfl | behind
        · exact Nat.le_refl _
        · exact h.after x behind

theorem Oldest.chosen {before after : List TxEntry} {e : TxEntry} (h : Oldest before e after) :
    chosenEntry (before ++ e :: after) = some e := by
  rw [chosenEntry, h.lowestClass, List.find?_append, List.find?_eq_none.2, Option.none_or, List.find?_cons_of_pos]
  · exact decide_eq_true rfl
  · intro x mem
    have higher := h.before x mem
    simp only [decide_eq_true_eq]
    omega

theorem Oldest.marked {before after : List TxEntry} {e : TxEntry} (h : Oldest before e after) :
    markChosen e.frame.kind.cls (before ++ e :: after) = before ++ { e with onLine := true } :: after := by
  have higher := h.before
  clear h
  induction before with
  | nil => exact if_pos rfl
  | cons x rest ih =>
    have first := higher x (List.mem_cons_self ..)
    rw [List.cons_append, markChosen, if_neg (by omega), ih fun y mem => higher y (List.mem_cons_of_mem x mem)]
    rfl

/-- The one entry on the line, by what waits before and behind it. -/
structure OnLine (before : List TxEntry) (e : TxEntry) (after : List TxEntry) : Prop where
  sent : e.onLine = true
  others : ∀ x ∈ before ++ after, x.onLine = false

theorem OnLine.retries {before after : List TxEntry} {e : TxEntry} (h : OnLine before e after) :
    onLineRetries (before ++ e :: after) = e.retries := by
  rw [onLineRetries, List.find?_append, List.find?_eq_none.2, Option.none_or, List.find?_cons_of_pos h.sent]
  · rfl
  · intro x mem
    rw [h.others x (List.mem_append_left _ mem)]
    decide

theorem OnLine.dropped {before after : List TxEntry} {e : TxEntry} (h : OnLine before e after) :
    (before ++ e :: after).filter (fun x => !x.onLine) = before ++ after := by
  have kept : ∀ l : List TxEntry, (∀ x ∈ l, x ∈ before ++ after) → l.filter (fun x => !x.onLine) = l := fun l inside =>
    List.filter_eq_self.2 fun x mem => by rw [h.others x (inside x mem)]; rfl
  rw [List.filter_append, List.filter_cons_of_neg (by rw [h.sent]; decide), kept before fun x => List.mem_append_left _,
    kept after fun x => List.mem_append_right _]

theorem OnLine.unmarked {before after : List TxEntry} {e : TxEntry} (h : OnLine before e after) (retry : Bool) (b : BusCtl)
    (queue : b.queue = before ++ e :: after) : unmarkOnLine retry b = { b with
      queue := before ++ { e with onLine := false, retries := if retry then e.retries + 1 else e.retries } :: after
      sending := none } := by
  have kept : ∀ l : List TxEntry, (∀ x ∈ l, x ∈ before ++ after) → (l.map fun x =>
      if x.onLine then { x with onLine := false, retries := if retry then x.retries + 1 else x.retries } else x) = l := fun l inside =>
    (List.map_congr_left fun x mem => by rw [h.others x (inside x mem)]; rfl).trans (List.map_id l)
  rw [unmarkOnLine, queue, List.map_append, List.map_cons, if_pos h.sent, kept before fun x => List.mem_append_left _,
    kept after fun x => List.mem_append_right _]

/-! ## What TXD carries (R22, R37) -/

theorem drives_iff (s : State) : s.drives = true ↔
    s.bus.link = .active ∨ (s.bus.link = .lineTest ∧ ∃ t : LineTest, s.bus.lineTest = some t ∧ t.mode = .busEcho) := by
  unfold State.drives
  split <;> simp_all

/-! ## The bits of a frame (R25, R32) -/

theorem stuff_other {last : Bool} {x : TxBit} (other : x.level ≠ last) (run : Nat) (rest : List TxBit) :
    stuff last run (x :: rest) = x :: stuff x.level 1 rest := by
  have run1 : runOn (last, run) x.level = 1 := if_neg other
  rw [stuff_plain (by rw [run1]; decide), run1]

theorem stuff_same {last : Bool} {run : Nat} {x : TxBit} (same : x.level = last) (short : run ≠ 4) (rest : List TxBit) :
    stuff last run (x :: rest) = x :: stuff last (run + 1) rest := by
  have longer : runOn (last, run) x.level = run + 1 := if_pos same
  rw [stuff_plain (by omega), longer, same]

theorem stuff_fifth {last : Bool} {x : TxBit} (same : x.level = last) (rest : List TxBit) :
    stuff last 4 (x :: rest) = x :: ⟨!last, (rest.head?.map TxBit.contention).getD false⟩ :: stuff (!last) 1 rest := by
  rw [stuff_five (if_pos same), same]

/-- Bits without the mark are stuffed without it. -/
theorem stuff_unmarked (last : Bool) (run : Nat) {l : List TxBit} (unmarked : ∀ x ∈ l, x.contention = false) :
    ∀ x ∈ stuff last run l, x.contention = false := by
  induction l generalizing last run with
  | nil => nofun
  | cons y rest ih =>
    have first := unmarked y (List.mem_cons_self ..)
    have others := fun last run => ih last run fun x mem => unmarked x (List.mem_cons_of_mem _ mem)
    by_cases five : runOn (last, run) y.level = 5
    · rw [stuff_five five, List.forall_mem_cons, List.forall_mem_cons]
      refine ⟨first, ?_, others _ _⟩
      cases rest with
      | nil => rfl
      | cons z more => exact unmarked z (by simp)
    · rw [stuff_plain five, List.forall_mem_cons]
      exact ⟨first, others _ _⟩

/-- The marked bits of a stuffed region stand first: the marked data bits, and the stuff bits between them, each four data bits or more after the one before. -/
theorem stuff_marked {others : List TxBit} (unmarked : ∀ x ∈ others, x.contention = false) (bits : List Bool) (last : Bool) (run : Nat) :
    ∃ marked rest : List TxBit, stuff last run (bits.map (fun b => ⟨b, true⟩) ++ others) = marked ++ rest ∧
      (∀ x ∈ marked, x.contention = true) ∧ (∀ x ∈ rest, x.contention = false) ∧ bits.length ≤ marked.length ∧
      (marked.length = bits.length ∨ 4 * marked.length + 2 ≤ 5 * bits.length + run) := by
  induction bits generalizing last run with
  | nil => exact ⟨[], stuff last run others, rfl, nofun, stuff_unmarked last run unmarked, Nat.le_refl 0, .inl rfl⟩
  | cons b more ih =>
    have next := runOn_le (last, run) b
    rw [List.map_cons, List.cons_append]
    by_cases five : runOn (last, run) b = 5
    · rw [stuff_five five]
      cases more with
      | nil =>
        refine ⟨[⟨b, true⟩], _, rfl, by simp, ?_, Nat.le_refl 1, .inl rfl⟩
        rw [List.forall_mem_cons]
        refine ⟨?_, stuff_unmarked _ _ unmarked⟩
        cases others with
        | nil => rfl
        | cons x rest => exact unmarked x (List.mem_cons_self ..)
      | cons c more =>
        obtain ⟨marked, rest, split, isMarked, isRest, atLeast, atMost⟩ := ih (!b) 1
        rw [List.length_cons] at atLeast atMost
        refine ⟨⟨b, true⟩ :: ⟨!b, true⟩ :: marked, rest, by rw [split]; rfl, ?_, isRest, ?_, ?_⟩
        · rw [List.forall_mem_cons, List.forall_mem_cons]
          exact ⟨rfl, rfl, isMarked⟩
        · simp only [List.length_cons]
          omega
        · simp only [List.length_cons]
          omega
    · rw [stuff_plain five]
      obtain ⟨marked, rest, split, isMarked, isRest, atLeast, atMost⟩ := ih b (runOn (last, run) b)
      refine ⟨⟨b, true⟩ :: marked, rest, by rw [split]; rfl, ?_, isRest, ?_, ?_⟩
      · rw [List.forall_mem_cons]
        exact ⟨rfl, isMarked⟩
      · simp only [List.length_cons]
        omega
      · simp only [List.length_cons]
        dsimp only at next
        omega

theorem txBits_eq (f : BusFrame) : f.txBits = ⟨false, false⟩ :: stuff false 1
    ((byteBits (BitVec.ofNat 8 (f.kind.cls * 32 + f.source))).map (fun b => ⟨b, true⟩) ++
      (f.dataBits.drop 8).map (fun b => ⟨b, false⟩)) ++ List.replicate 8 ⟨true, false⟩ := rfl

/-! ## Events on the line -/

theorem exec_transmitStart (line : List Bool) (s : State) : exec (.transmitStart line) s = execTransmitStart line s := by rfl

theorem exec_bitError (line : List Bool) (s : State) : exec (.bitError line) s = execBitError line s := by rfl

theorem exec_arbitrationLoss (line : List Bool) (s : State) : exec (.arbitrationLoss line) s = execArbitrationLoss line s := by rfl

theorem execTransmitStart_ready {s : State} {line : List Bool} (up : s.resetnLow = false) (active : s.bus.link = .active)
    (quiet : s.bus.sending = none) (idle : runRx s.bus.rx line = (⟨10, none⟩, [])) (sent : s.bus.abort ≤ line.length)
    {e : TxEntry} (chosen : chosenEntry s.bus.queue = some e) : exec (.transmitStart line) s = .next (startAttempt e s) := by
  rw [exec_transmitStart]
  simp [execTransmitStart, up, active, quiet, waitsToIdle, idle, sent, chosen, Receiver.lineIdle, Config.idleBits]

theorem execTransmitStart_not {s : State} {line : List Bool} (fails : s.resetnLow = true ∨ s.bus.link ≠ .active ∨
    s.bus.sending.isSome = true ∨ s.bus.queue = [] ∨ (runRx s.bus.rx line).1.lineIdle = false ∨ line.length < s.bus.abort) :
    exec (.transmitStart line) s = .next s := by
  rw [exec_transmitStart]
  unfold execTransmitStart
  split
  case isTrue ready =>
    simp only [Bool.and_eq_true, Bool.not_eq_true', decide_eq_true_eq, waitsToIdle, List.isEmpty_iff] at ready
    obtain ⟨⟨⟨⟨up, active⟩, none⟩, idle, -⟩, sent⟩ := ready
    have empty : s.bus.queue = [] := by
      rcases fails with low | other | sending | empty | busy | short
      · rw [low] at up; cases up
      · exact absurd active other
      · rw [Option.isNone_iff_eq_none] at none
        rw [none] at sending
        cases sending
      · exact empty
      · rw [busy] at idle; cases idle
      · omega
    rw [empty]
    rfl
  case isFalse => rfl

theorem execBitError_judged {s : State} {f : BusFrame} {line : List Bool} (up : s.resetnLow = false)
    (sending : s.bus.sending = some f) (noTest : s.bus.lineTest = none) (error : judgeTx f.txBits line = .bitError) :
    exec (.bitError line) s = .next (entryBitError (afterDifference f.txBits line) s) := by
  rw [exec_bitError]
  simp [execBitError, up, sending, noTest, error]

theorem execBitError_not {s : State} {f : BusFrame} {line : List Bool} (sending : s.bus.sending = some f)
    (noTest : s.bus.lineTest = none) (other : judgeTx f.txBits line ≠ .bitError) : exec (.bitError line) s = .next s := by
  rw [exec_bitError]
  simp [execBitError, sending, noTest, other]

theorem execArbitrationLoss_judged {s : State} {f : BusFrame} {line : List Bool} (up : s.resetnLow = false)
    (sending : s.bus.sending = some f) (noTest : s.bus.lineTest = none) (lost : judgeTx f.txBits line = .lost) :
    exec (.arbitrationLoss line) s = .next (received (runRx s.bus.rx line).2
      (s.setBus { unmarkOnLine false s.bus with rx := (runRx s.bus.rx line).1 })) := by
  rw [exec_arbitrationLoss]
  simp [execArbitrationLoss, up, sending, noTest, lost]

theorem execArbitrationLoss_not {s : State} {f : BusFrame} {line : List Bool} (sending : s.bus.sending = some f)
    (noTest : s.bus.lineTest = none) (other : judgeTx f.txBits line ≠ .lost) : exec (.arbitrationLoss line) s = .next s := by
  rw [exec_arbitrationLoss]
  simp [execArbitrationLoss, sending, noTest, other]

/-- Without a frame on the line, or under RESETN, no bits are judged. -/
theorem exec_unsent {s : State} (quiet : s.bus.sending = none ∨ s.resetnLow = true) (line : List Bool) :
    exec (.bitError line) s = .next s ∧ exec (.arbitrationLoss line) s = .next s := by
  rw [exec_bitError, exec_arbitrationLoss]
  rcases quiet with none | low
  · simp [execBitError, execArbitrationLoss, none]
  · unfold execBitError execArbitrationLoss
    rw [low]
    cases s.bus.sending <;> cases s.bus.lineTest <;> exact ⟨rfl, rfl⟩

/-- Settles O55: an attempt by the queue, an error and a loss by the entry on the line, the bits of a frame by their stuffing. -/
theorem attemptsOnTheLine : Obligations.AttemptsOnTheLine := by
  refine ⟨fun s line before after e up active none idle sent queue higher lower => ?_, fun s line => execTransmitStart_not,
    fun s rolling r p => rfl, fun s closure play r st n x => rfl, fun s n c i o lease reason oc more => ⟨rfl, rfl, rfl, rfl⟩,
    fun s => rfl,
    fun s f line more before after e up sending noTest error isMore queue onLine others => ⟨fun few => ?_, fun many => ?_⟩,
    fun s f line before after e up sending noTest lost queue onLine others => ?_, fun s f more => ⟨rfl, rfl, rfl⟩,
    fun f sent rest x more split => ?_, fun f => ?_, fun s line quiet => exec_unsent quiet line,
    fun s f line sending noTest => ⟨execBitError_not sending noTest, execArbitrationLoss_not sending noTest⟩,
    fun f sent rest x split => ?_,
    fun s drives => ⟨fun f sending => ?_, fun none => ?_⟩, fun s apart rests => ?_, txBits_eq,
    fun last run x rest => ⟨rfl, fun same short => stuff_same same short rest, fun other => stuff_other other run rest, fun same four => ?_⟩,
    fun f => ?_⟩
  · have oldest : Oldest before e after := ⟨higher, lower⟩
    rw [execTransmitStart_ready up active none idle sent (queue ▸ oldest.chosen), startAttempt, queue, oldest.marked]
  · have entry : OnLine before e after := ⟨onLine, others⟩
    rw [execBitError_judged up sending noTest error, isMore, entryBitError, queue, entry.retries, if_pos few,
      entry.unmarked true s.bus queue]
    rfl
  · have entry : OnLine before e after := ⟨onLine, others⟩
    rw [execBitError_judged up sending noTest error, isMore, entryBitError, queue, entry.retries, if_neg (by omega), dropOnLine, queue,
      entry.dropped]
    rfl
  · have entry : OnLine before e after := ⟨onLine, others⟩
    rw [execArbitrationLoss_judged up sending noTest lost, entry.unmarked false s.bus queue]
    rfl
  · rw [split]
    exact ⟨judgeTx_differs .., afterDifference_differs ..⟩
  · have whole := judgeTx_whole f.txBits []
    rwa [List.append_nil] at whole
  · rw [split]
    exact judgeTx_part ..
  · rw [State.txd, State.driven, if_pos ((drives_iff s).2 drives), BusCtl.output, sending]
    exact ⟨rfl, rfl⟩
  · rw [State.txd, State.driven, if_pos ((drives_iff s).2 drives), BusCtl.output, none]
    refine ⟨rfl, ?_⟩
    cases s.bus.abort <;> rfl
  · have released : ¬ s.drives = true := by
      rw [drives_iff]
      rintro (active | ⟨testing, t, present, echo⟩)
      · exact apart active
      · rcases rests with other | internal
        · exact other testing
        · exact absurd (echo.symm.trans (internal t present)) (by decide)
    rw [State.txd, State.driven, if_neg released]
    exact ⟨rfl, rfl⟩
  · subst four
    rw [stuff_fifth same]
    cases rest <;> rfl
  · obtain ⟨marked, rest, split, isMarked, isRest, atLeast, atMost⟩ := stuff_marked (others := (f.dataBits.drop 8).map (fun b => ⟨b, false⟩))
      (fun x mem => by obtain ⟨b, -, rfl⟩ := List.mem_map.1 mem; rfl) (byteBits (BitVec.ofNat 8 (f.kind.cls * 32 + f.source))) false 1
    rw [byteBits_length] at atLeast atMost
    refine ⟨marked, rest ++ List.replicate 8 ⟨true, false⟩, ?_, isMarked, ?_, by omega⟩
    · rw [txBits_eq, split]
      simp
    · rw [List.forall_mem_append]
      exact ⟨isRest, fun x mem => by rw [(List.mem_replicate.1 mem).2]⟩

end Sys2Proof.Machine

/-! PROOF. Frames that end in the bits read: echoes, frames of other stations, clashes, overruns and discards (R27, R28, R34, R39, R40, R43, R47). -/

namespace Sys2Proof.Machine

-- One proof after another: under the check's memory limit there is no room for a thread per proof.
set_option Elab.async false

/-! ## The line as the controller reads it (R37, R42) -/

theorem readsLine_of_handsOn {s : State} (hands : s.bus.link.handsOn = true) : s.readsLine = true := by
  unfold State.readsLine
  split <;> simp_all [LinkState.handsOn]

theorem readsLine_of_echo {s : State} {t : LineTest} (testing : s.bus.link = .lineTest) (present : s.bus.lineTest = some t)
    (echo : t.mode = .busEcho) : s.readsLine = true := by
  simp [State.readsLine, testing, present, echo]

theorem readsLine_of_off {s : State} (off : s.bus.link = .off) : s.readsLine = false := by
  simp [State.readsLine, off]

/-! ## Frames of other stations (R28, R39, R40, R47) -/

theorem foreignFrame_unheard {s : State} (unheard : s.bus.link.handsOn = false) (f : BusFrame) : foreignFrame f s = s := by
  unfold foreignFrame
  split <;> simp_all [LinkState.handsOn]

theorem foreignFrame_heard {s : State} (hands : s.bus.link.handsOn = true) (f : BusFrame) : foreignFrame f s =
    if f.kind = .test then s else if f.source = s.address then addressClash s else handOn f false s := by
  unfold foreignFrame
  split <;> simp_all [LinkState.handsOn]

theorem foreignFrame_test {f : BusFrame} (test : f.kind = .test) (s : State) : foreignFrame f s = s := by
  cases hands : s.bus.link.handsOn with
  | false => exact foreignFrame_unheard hands f
  | true => rw [foreignFrame_heard hands, if_pos test]

theorem foreignFrame_other {s : State} {f : BusFrame} (hands : s.bus.link.handsOn = true) (kind : f.kind ≠ .test)
    (other : f.source ≠ s.address) : foreignFrame f s = handOn f false s := by
  rw [foreignFrame_heard hands, if_neg kind, if_neg other]

theorem foreignFrame_clash {s : State} {f : BusFrame} (hands : s.bus.link.handsOn = true) (kind : f.kind ≠ .test)
    (own : f.source = s.address) : foreignFrame f s = addressClash s := by
  rw [foreignFrame_heard hands, if_neg kind, if_pos own]

theorem addressClash_listenOnly {s : State} (only : s.bus.link = .listenOnly) : addressClash s = s := if_pos only

theorem addressClash_elsewhere {s : State} (other : s.bus.link ≠ .listenOnly) : addressClash s =
    post .addressClash s.address ((s.setBus { s.bus with link := .listenOnly, queue := [] }).setAgr { s.agr with join := .settled }) :=
  if_neg other

theorem foreignFrame_listenOnly {s : State} {f : BusFrame} (own : f.source = s.address) (only : s.bus.link = .listenOnly) :
    foreignFrame f s = s := by
  by_cases test : f.kind = .test
  · exact foreignFrame_test test s
  · rw [foreignFrame_clash (by rw [only]; rfl) test own, addressClash_listenOnly only]

/-- In OFF and in a line test no frame is handed on. -/
theorem received_unheard (outcomes : List RxOutcome) {s : State} (unheard : s.bus.link.handsOn = false) : received outcomes s = s := by
  induction outcomes with
  | nil => rfl
  | cons o more ih =>
    cases o with
    | discard => exact ih
    | complete f =>
      show received more (foreignFrame f s) = s
      rw [foreignFrame_unheard unheard, ih]

/-! ## FRAME_COMPLETE and FRAME_DISCARD -/

theorem exec_frameComplete (line : List Bool) (s : State) : exec (.frameComplete line) s = execFrameComplete line s := by rfl

theorem exec_frameDiscard (line : List Bool) (s : State) : exec (.frameDiscard line) s = execFrameDiscard line s := by rfl

theorem any_isComplete_iff (l : List RxOutcome) : l.any RxOutcome.isComplete = true ↔ ∃ f, .complete f ∈ l := by
  rw [List.any_eq_true]
  constructor
  · rintro ⟨o, mem, complete⟩
    cases o with
    | complete f => exact ⟨f, mem⟩
    | discard => cases complete
  · rintro ⟨f, mem⟩
    exact ⟨_, mem, rfl⟩

/-- Outcomes of which none is a discard alone, and the other way round. -/
theorem any_isComplete_of_discards {l : List RxOutcome} (discards : ∀ o ∈ l, o = .discard) : l.any RxOutcome.isComplete = false := by
  rw [Bool.eq_false_iff, Ne, any_isComplete_iff]
  rintro ⟨f, mem⟩
  cases discards _ mem

theorem frameComplete_own {s : State} {f : BusFrame} (up : s.resetnLow = false) (sending : s.bus.sending = some f)
    (noTest : s.bus.lineTest = none) (after : List Bool) :
    exec (.frameComplete (f.lineBits ++ after)) s = .next (echoComplete f after s) := by
  have judged : judgeTx f.txBits (f.lineBits ++ after) = .complete := judgeTx_whole ..
  have rest : afterDifference f.txBits (f.lineBits ++ after) = after := afterDifference_whole ..
  rw [exec_frameComplete]
  simp [execFrameComplete, up, sending, noTest, judged, rest]

theorem frameComplete_foreign {s : State} {line : List Bool} {f : BusFrame} (up : s.resetnLow = false) (quiet : s.bus.sending = none)
    (reads : s.readsLine = true) (complete : .complete f ∈ (runRx s.bus.rx line).2) :
    exec (.frameComplete line) s = .next (received (runRx s.bus.rx line).2 (hear line s)) := by
  have ends := (any_isComplete_iff _).2 ⟨f, complete⟩
  rw [exec_frameComplete]
  simp [execFrameComplete, up, quiet, reads, ends]

theorem frameComplete_not {s : State} {line : List Bool} (quiet : s.bus.sending = none)
    (fails : s.bus.link = .off ∨ ∀ f : BusFrame, .complete f ∉ (runRx s.bus.rx line).2) : exec (.frameComplete line) s = .next s := by
  have not : (s.readsLine && (runRx s.bus.rx line).2.any RxOutcome.isComplete) = false := by
    rcases fails with off | noFrame
    · rw [readsLine_of_off off, Bool.false_and]
    · have none : (runRx s.bus.rx line).2.any RxOutcome.isComplete = false := by
        rw [Bool.eq_false_iff, Ne, any_isComplete_iff]
        exact fun ⟨f, mem⟩ => noFrame f mem
      rw [none, Bool.and_false]
  rw [exec_frameComplete]
  simp [execFrameComplete, quiet, not]

theorem frameDiscard_heard {s : State} {line : List Bool} (up : s.resetnLow = false) (quiet : s.bus.sending = none)
    (reads : s.readsLine = true) (some : (runRx s.bus.rx line).2 ≠ []) (discards : ∀ o ∈ (runRx s.bus.rx line).2, o = .discard) :
    exec (.frameDiscard line) s = .next (hear line s) := by
  have ends := any_isComplete_of_discards discards
  rw [exec_frameDiscard]
  simp [execFrameDiscard, up, quiet, reads, some, ends]

theorem frameDiscard_not {s : State} {line : List Bool} (fails : s.bus.link = .off ∨ (runRx s.bus.rx line).2 = [] ∨
    ∃ f : BusFrame, .complete f ∈ (runRx s.bus.rx line).2) : exec (.frameDiscard line) s = .next s := by
  rw [exec_frameDiscard]
  rcases fails with off | none | complete
  · simp [execFrameDiscard, readsLine_of_off off]
  · simp [execFrameDiscard, none]
  · simp [execFrameDiscard, (any_isComplete_iff _).2 complete]

/-! ## Bits taken in (R23, R31, R43) -/

/-- Bits taken in by the receiver, which are bit times of an abort still to be sent. -/
def heardBits (line : List Bool) (s : State) : State :=
  s.setBus { s.bus with rx := (runRx s.bus.rx line).1, abort := s.bus.abort - line.length }

theorem hear_noTest {s : State} (noTest : s.bus.lineTest = none) (line : List Bool) : hear line s = heardBits line s :=
  hear_bus line s noTest

theorem hear_test {s : State} {t : LineTest} (present : s.bus.lineTest = some t) (line : List Bool) :
    hear line s = testGoesOn t s.bus.rx line (heardBits line s) := by
  unfold hear
  rw [present]
  rfl

/-! ## A line test that goes on (R43) -/

theorem allJudged_of_lt {t : LineTest} (judged : t.count < t.next) : t.allJudged = true := decide_eq_true judged

theorem allJudged_of_le {t : LineTest} (more : t.next ≤ t.count) : t.allJudged = false := decide_eq_false (by omega)

theorem waits_echo {t : LineTest} (echo : t.mode = .busEcho) (rx : Receiver) (line : List Bool) :
    t.waits rx line = idleWait rx t.waited line := by
  simp [LineTest.waits, echo]

theorem waits_internal {t : LineTest} (internal : t.mode = .internal) (rx : Receiver) (line : List Bool) :
    t.waits rx line = some 0 := by
  simp [LineTest.waits, internal]

/-- A line test that goes on stays in LINE_TEST or ends in OFF. -/
theorem testGoesOn_unheard (t : LineTest) (rx : Receiver) (line : List Bool) {s : State} (unheard : s.bus.link.handsOn = false) :
    (testGoesOn t rx line s).bus.link.handsOn = false := by
  unfold testGoesOn
  split
  · split
    · rfl
    · exact unheard
  · split
    · exact unheard
    · rfl

/-- A frame or a discard of another station in a line test goes into its wait or its last abort alone. -/
theorem exec_heard_in_test {s : State} {t : LineTest} {line : List Bool} {c : Instr} (up : s.resetnLow = false)
    (quiet : s.bus.sending = none) (testing : s.bus.link = .lineTest) (present : s.bus.lineTest = some t) (echo : t.mode = .busEcho)
    (event : (c = .frameComplete line ∧ ∃ f : BusFrame, .complete f ∈ (runRx s.bus.rx line).2) ∨
      (c = .frameDiscard line ∧ (runRx s.bus.rx line).2 ≠ [] ∧ ∀ o ∈ (runRx s.bus.rx line).2, o = .discard)) :
    exec c s = .next (testGoesOn t s.bus.rx line (heardBits line s)) := by
  have reads := readsLine_of_echo testing present echo
  have unheard : (heardBits line s).bus.link.handsOn = false := by
    show s.bus.link.handsOn = false
    rw [testing]
    rfl
  rcases event with ⟨rfl, f, complete⟩ | ⟨rfl, some, discards⟩
  · rw [frameComplete_foreign up quiet reads complete, hear_test present, received_unheard _ (testGoesOn_unheard _ _ _ unheard)]
  · rw [frameDiscard_heard up quiet reads some discards, hear_test present]

/-- Settles O56: the echo and the frame of another station by what the bits complete, a line test by its wait. -/
theorem framesHandedOn : Obligations.FramesHandedOn := by
  refine ⟨fun s f up sending noTest => ?_, fun s f after up sending noTest => ?_, fun s line f up quiet noTest hands complete => ?_,
    fun s f => ⟨fun unheard => foreignFrame_unheard unheard f, fun test => foreignFrame_test test s, foreignFrame_other,
      fun hands kind own other => ?_, foreignFrame_listenOnly⟩,
    fun s f echo room => if_pos room, fun s f echo full => if_neg (Nat.not_lt.2 full),
    fun s f up quiet noTest idle hands length source => ?_, fun s line up quiet noTest hands some discards => ?_,
    fun s t line c up quiet testing present echo event => ⟨fun w more wait => ?_, fun more busy => ?_, fun judged short => ?_,
      fun judged long => ?_⟩,
    fun s line quiet fails => frameComplete_not quiet fails, fun s line fails => frameDiscard_not fails⟩
  · have own := frameComplete_own up sending noTest []
    rw [List.append_nil] at own
    exact own
  · exact frameComplete_own up sending noTest after
  · rw [frameComplete_foreign up quiet (readsLine_of_handsOn hands) complete, hear_noTest noTest]
    rfl
  · rw [foreignFrame_clash hands kind own, addressClash_elsewhere other]
  · have sendable : f.Sendable := ⟨length, source⟩
    have read := sendable.read_back
    have run : exec (.frameComplete f.lineBits) s = .next (foreignFrame f (s.setBus { s.bus with
        rx := ⟨8, none⟩, abort := s.bus.abort - f.lineBits.length })) := by
      have heard := frameComplete_foreign (line := f.lineBits) (f := f) up quiet (readsLine_of_handsOn hands) (by rw [idle, read]; simp)
      rw [hear_noTest noTest, heardBits, idle, read] at heard
      exact heard
    refine ⟨fun kind other => ?_, fun test => ?_, fun kind own apart => ?_, fun kind own only => ?_⟩
    · exact run.trans (congrArg _ (foreignFrame_other hands kind other))
    · exact run.trans (congrArg _ (foreignFrame_test test _))
    · have clash := foreignFrame_clash (s := heardBits f.lineBits s) hands kind own
      rw [addressClash_elsewhere (s := heardBits f.lineBits s) apart, heardBits, idle, read] at clash
      exact run.trans (congrArg _ clash)
    · exact run.trans (congrArg _ (foreignFrame_listenOnly own only))
  · rw [frameDiscard_heard up quiet (readsLine_of_handsOn hands) some discards, hear_noTest noTest]
    rfl
  · rw [exec_heard_in_test up quiet testing present echo event, testGoesOn_waits _ _ _ _ w (allJudged_of_le more) ((waits_echo echo _ _).trans wait)]
    rfl
  · rw [exec_heard_in_test up quiet testing present echo event, testGoesOn_busy _ _ _ _ (allJudged_of_le more) ((waits_echo echo _ _).trans busy)]
    simp [endTest, heardBits, quiet, Receiver.reset]
  · rw [exec_heard_in_test up quiet testing present echo event, testGoesOn_judged _ _ _ _ (allJudged_of_lt judged),
      if_neg (show (heardBits line s).bus.abort ≠ 0 from Nat.sub_ne_zero_of_lt short)]
    simp [heardBits, present]
  · rw [exec_heard_in_test up quiet testing present echo event, testGoesOn_judged _ _ _ _ (allJudged_of_lt judged),
      if_pos (show (heardBits line s).bus.abort = 0 from Nat.sub_eq_zero_of_le long)]
    simp [endTest, heardBits, quiet, Receiver.reset, judgedResult]

end Sys2Proof.Machine

/-! PROOF. The line test (R37, R41 to R44): the command, the wait for the idle line, and the frames judged. -/

namespace Sys2Proof.Machine

-- One proof after another: under the check's memory limit there is no room for a thread per proof.
set_option Elab.async false

/-! ## LINE TEST (R41) -/

theorem exec_lineTest (mode count : Byte) (s : State) : exec (.lineTest mode count) s = .next (take false (lineTestBody mode count) s) := by
  rfl

theorem testModeOfCode_eq (code : Nat) :
    testModeOfCode code = if code = 0 then some .internal else if code = 1 then some .busEcho else none := by
  unfold testModeOfCode
  split <;> simp_all

theorem held_eq_zero_iff (c : Conf) : c.held = 0 ↔ c.timing = none := by
  unfold Conf.held
  cases c.timing <;> simp
  (repeat' split) <;> simp

theorem timing_held {c : Conf} (timing : c.timing.isSome = true) : c.held ≠ 0 := by
  rw [Ne, held_eq_zero_iff]
  intro none
  rw [none] at timing
  cases timing

theorem lineTestBody_running {s : State} (running : s.running = true) (mode count : Byte) :
    lineTestBody mode count s = answerPlain .state s := if_pos running

theorem lineTestBody_order {s : State} (halted : s.running = false) (none : s.conf.held = 0) (mode count : Byte) :
    lineTestBody mode count s = answerPlain .order s := by
  simp [lineTestBody, halted, none]

theorem lineTestBody_accepted {s : State} {mode count : Byte} {m : TestMode} (halted : s.running = false) (held : s.conf.held ≠ 0)
    (known : testModeOfCode mode.toNat = some m) (low : 1 ≤ count.toNat) (high : count.toNat ≤ 16) :
    lineTestBody mode count s = answerPlain .ok (beginTest m count.toNat s) := by
  simp [lineTestBody, halted, held, known, low, high]

theorem lineTestBody_range {s : State} {mode count : Byte} (halted : s.running = false) (held : s.conf.held ≠ 0)
    (bad : 1 < mode.toNat ∨ count = 0 ∨ 16 < count.toNat) : lineTestBody mode count s = answerPlain .range s := by
  have counted : testModeOfCode mode.toNat = none ∨ ¬ (1 ≤ count.toNat ∧ count.toNat ≤ 16) := by
    rcases bad with unknown | rfl | many
    · rw [testModeOfCode_eq, if_neg (by omega), if_neg (by omega)]
      exact .inl rfl
    · exact .inr (by decide)
    · exact .inr (by omega)
  simp only [lineTestBody, halted, held, Bool.false_eq_true, if_false]
  rcases counted with unknown | outside
  · rw [unknown]
  · cases testModeOfCode mode.toNat with
    | none => rfl
    | some m => exact if_neg outside

/-! ## The wait for the idle line (R23, R43) -/

theorem lineIdle_iff (rx : Receiver) : rx.lineIdle = true ↔ rx.frame = none ∧ rx.idle = 10 := by
  simp [Receiver.lineIdle, Config.idleBits]

theorem bitsToIdle_idle {rx : Receiver} (idle : rx.lineIdle = true) (line : List Bool) : bitsToIdle rx line = some (0, rx, line) := by
  cases line <;> simp [bitsToIdle, idle]

theorem bitsToIdle_nil {rx : Receiver} (busy : rx.lineIdle = false) : bitsToIdle rx [] = none := by
  simp [bitsToIdle, busy]

theorem bitsToIdle_cons {rx : Receiver} (busy : rx.lineIdle = false) (b : Bool) (line : List Bool) :
    bitsToIdle rx (b :: line) = (bitsToIdle (rxBit rx b).1 line).map fun (n, r) => (n + 1, r) := by
  simp [bitsToIdle, busy]

theorem idleWait_idle {rx : Receiver} (idle : rx.lineIdle = true) (w : Nat) (b : Bool) (line : List Bool) :
    idleWait rx w (b :: line) = idleWait (rxBit rx b).1 1 line := by
  simp [idleWait, idle]

theorem idleWait_idle_nil {rx : Receiver} (idle : rx.lineIdle = true) (w : Nat) : idleWait rx w [] = some 0 := by
  simp [idleWait, idle]

theorem idleWait_busy_nil {rx : Receiver} (busy : rx.lineIdle = false) (w : Nat) :
    idleWait rx w [] = if w < 1000 then some w else none := by
  simp [idleWait, busy, Config.lineTestWait]

theorem idleWait_busy {rx : Receiver} (busy : rx.lineIdle = false) (w : Nat) (b : Bool) (line : List Bool) :
    idleWait rx w (b :: line) = if w < 1000 then idleWait (rxBit rx b).1 (w + 1) line else none := by
  simp [idleWait, busy, Config.lineTestWait]

theorem lineIdle_of_none {rx : Receiver} {line : List Bool} (none : bitsToIdle rx line = none) : rx.lineIdle = false := by
  rw [Bool.eq_false_iff]
  intro idle
  rw [bitsToIdle_idle idle] at none
  cases none

theorem bitsToIdle_tail {rx : Receiver} {b : Bool} {line : List Bool} (busy : bitsToIdle rx (b :: line) = none) :
    bitsToIdle (rxBit rx b).1 line = none := by
  rw [bitsToIdle_cons (lineIdle_of_none busy)] at busy
  exact Option.map_eq_none_iff.1 busy

/-- Bits without an idle line are waited (R43). -/
theorem idleWait_grows {rx : Receiver} {w : Nat} {line : List Bool} (none : bitsToIdle rx line = none)
    (within : w + line.length < 1000) : idleWait rx w line = some (w + line.length) := by
  induction line generalizing rx w with
  | nil => rw [idleWait_busy_nil (lineIdle_of_none none), if_pos (show w < 1000 from within)]; rfl
  | cons b rest ih =>
    rw [List.length_cons] at within ⊢
    rw [idleWait_busy (lineIdle_of_none none), if_pos (by omega), ih (w := w + 1) (bitsToIdle_tail none) (by omega)]
    congr 1
    omega

/-- The wait runs out where 1,000 bit times show no idle line (R43). -/
theorem idleWait_out {rx : Receiver} {w : Nat} {line : List Bool} (long : 1000 ≤ w + line.length)
    (none : bitsToIdle rx (line.take (1000 - w)) = none) : idleWait rx w line = Option.none := by
  have busy := lineIdle_of_none none
  induction line generalizing rx w with
  | nil =>
    rw [List.length_nil] at long
    rw [idleWait_busy_nil busy, if_neg (by omega)]
  | cons b rest ih =>
    rw [List.length_cons] at long
    rw [idleWait_busy busy]
    split
    case isTrue room =>
      rw [show 1000 - w = (1000 - (w + 1)) + 1 by omega, List.take_succ_cons] at none
      have tail := bitsToIdle_tail none
      exact ih (by omega) tail (lineIdle_of_none tail)
    case isFalse => rfl

/-- The wait from an idle line on: over, or begun again with the bit that follows it (R43, log 24). -/
def waitFromIdle (idle : Receiver) : List Bool → Option Nat
  | [] => some 0
  | b :: more => idleWait (rxBit idle b).1 1 more

/-- The wait ends at an idle line, and begins again with the bit that follows it (R43, log 24). -/
theorem idleWait_idles {rx idle : Receiver} {w n : Nat} {line rest : List Bool} (within : w + n ≤ 1000)
    (reached : bitsToIdle rx line = some (n, idle, rest)) : idleWait rx w line = waitFromIdle idle rest := by
  induction line generalizing rx w n with
  | nil =>
    have ready : rx.lineIdle = true := by
      by_contra busy
      rw [bitsToIdle_nil (by simpa using busy)] at reached
      cases reached
    rw [bitsToIdle_idle ready] at reached
    cases reached
    exact idleWait_idle_nil ready w
  | cons b more ih =>
    cases ready : rx.lineIdle with
    | true =>
      rw [bitsToIdle_idle ready] at reached
      cases reached
      exact idleWait_idle ready w b more
    | false =>
      rw [bitsToIdle_cons ready] at reached
      obtain ⟨⟨m, r⟩, later, same⟩ := Option.map_eq_some_iff.1 reached
      cases same
      rw [idleWait_busy ready, if_pos (by omega)]
      exact ih (w := w + 1) (n := m) (by omega) later

/-! ## A test frame judged (R42, R43) -/

theorem judge_echo {t : LineTest} (echo : t.mode = .busEcho) (line : List Bool) :
    t.judge line = judgeTx (testFrame t.next).txBits line := by
  simp [LineTest.judge, echo]

theorem judge_internal {t : LineTest} (internal : t.mode = .internal) (line : List Bool) : t.judge line =
    if judgeTx (testFrame t.next).txBits line = .lost then .bitError else judgeTx (testFrame t.next).txBits line := by
  unfold LineTest.judge
  rw [internal]
  cases judgeTx (testFrame t.next).txBits line <;> rfl

theorem judge_of_judgeTx {t : LineTest} {line : List Bool} (apart : judgeTx (testFrame t.next).txBits line ≠ .lost) :
    t.judge line = judgeTx (testFrame t.next).txBits line := by
  cases mode : t.mode with
  | internal => rw [judge_internal mode, if_neg apart]
  | busEcho => exact judge_echo mode line

theorem judge_whole (t : LineTest) (after : List Bool) : t.judge ((testFrame t.next).lineBits ++ after) = .complete := by
  have whole : judgeTx (testFrame t.next).txBits ((testFrame t.next).lineBits ++ after) = .complete := judgeTx_whole ..
  rw [judge_of_judgeTx (by rw [whole]; decide), whole]

theorem afterFrame (t : LineTest) (after : List Bool) :
    afterDifference (testFrame t.next).txBits ((testFrame t.next).lineBits ++ after) = after := afterDifference_whole ..

theorem judge_error {t : LineTest} {sent rest : List TxBit} {x : TxBit} (split : (testFrame t.next).txBits = sent ++ x :: rest)
    (judged : t.mode = .internal ∨ x.contention = false ∨ x.level = false) (after : List Bool) :
    t.judge (sent.map TxBit.level ++ (!x.level) :: after) = .bitError := by
  have differs := judgeTx_differs sent rest x after
  rw [← split] at differs
  by_cases lost : x.contention = true ∧ x.level = true
  · rw [if_pos lost] at differs
    have internal : t.mode = .internal := by
      rcases judged with internal | unmarked | dominant
      · exact internal
      · rw [unmarked] at lost; cases lost.1
      · rw [dominant] at lost; cases lost.2
    rw [judge_internal internal, if_pos differs]
  · rw [if_neg lost] at differs
    rw [judge_of_judgeTx (by rw [differs]; decide), differs]

theorem judge_lost {t : LineTest} (echo : t.mode = .busEcho) {sent rest : List TxBit} {x : TxBit}
    (split : (testFrame t.next).txBits = sent ++ x :: rest) (marked : x.contention = true) (recessive : x.level = true)
    (after : List Bool) : t.judge (sent.map TxBit.level ++ (!x.level) :: after) = .lost := by
  rw [judge_echo echo, split, judgeTx_differs, if_pos ⟨marked, recessive⟩]

theorem after_error {t : LineTest} {sent rest : List TxBit} {x : TxBit} (split : (testFrame t.next).txBits = sent ++ x :: rest)
    (after : List Bool) : afterDifference (testFrame t.next).txBits (sent.map TxBit.level ++ (!x.level) :: after) = after := by
  rw [split, afterDifference_differs]

theorem testFrameBits_good {t : LineTest} (after : List Bool) (s : State) :
    testFrameBits ((testFrame t.next).lineBits ++ after) t s = judgeTestFrame true after t s := by
  simp only [testFrameBits, judge_whole, afterFrame]

theorem testFrameBits_whole {t : LineTest} (s : State) :
    testFrameBits (testFrame t.next).lineBits t s = judgeTestFrame true [] t s := by
  have good := testFrameBits_good (t := t) [] s
  rwa [List.append_nil] at good

theorem testFrameBits_bad {t : LineTest} {line : List Bool} (error : t.judge line = .bitError) (s : State) :
    testFrameBits line t s = judgeTestFrame false (afterDifference (testFrame t.next).txBits line) t s := by
  simp only [testFrameBits, error]

theorem testFrameBits_lost {t : LineTest} {line : List Bool} (lost : t.judge line = .lost) (s : State) :
    testFrameBits line t s = testFrameLost line (afterDifference (testFrame t.next).txBits line) t s := by
  simp only [testFrameBits, lost]

/-- A test frame put on the line (log 20). -/
def testFrameOn (t : LineTest) (s : State) : State :=
  s.setBus { s.bus with sending := some (testFrame t.next), rx := ⟨10, none⟩, abort := 0 }

theorem testFrameBits_nil (t : LineTest) (s : State) : testFrameBits [] t s = testFrameOn t s := by
  have part : judgeTx (testFrame t.next).txBits [] = .unfinished := rfl
  have open_ : t.judge [] = .unfinished := by rw [judge_of_judgeTx (by rw [part]; decide), part]
  simp only [testFrameBits, open_]
  rfl

theorem testFrameBits_part {t : LineTest} (echo : t.mode = .busEcho) {sent later : List TxBit} {x : TxBit}
    (split : (testFrame t.next).txBits = sent ++ x :: later) (some : sent ≠ []) (s : State) :
    testFrameBits (sent.map TxBit.level) t s = s := by
  have open_ : t.judge (sent.map TxBit.level) = .unfinished := by rw [judge_echo echo, split, judgeTx_part]
  simp [testFrameBits, open_, some]

/-- A frame judged is judged alike where it stands on the line. -/
theorem judgeTestFrame_on (good : Bool) (after : List Bool) (t u : LineTest) (s : State) :
    judgeTestFrame good after t (testFrameOn u s) = judgeTestFrame good after t s := by
  cases good <;> rfl

theorem testFrameLost_on (line after : List Bool) (t u : LineTest) (s : State) :
    testFrameLost line after t (testFrameOn u s) = testFrameLost line after t s := rfl

/-! ## The test after a frame (R42, R43) -/

/-- The state after the end of a test. -/
theorem endTest_eq (r : TestResult) (s : State) : endTest r s = s.setBus { s.bus with
    link := .off, sending := none, rx := ⟨0, none⟩, abort := 0, lineTest := none, testResult := r } := rfl

theorem goodFrame_more {t : LineTest} {after : List Bool} {w : Nat} (more : t.next < t.count)
    (waits : LineTest.waits { t with waited := 0 } ⟨8, none⟩ after = some w) (s : State) :
    judgeTestFrame true after t s = s.setBus { s.bus with
      sending := none, rx := (runRx ⟨8, none⟩ after).1, abort := 0, lineTest := some { t with next := t.next + 1, waited := w } } :=
  testGoesOn_waits _ _ _ _ w (allJudged_of_le (t := { t with next := t.next + 1, waited := 0 }) more) waits

theorem goodFrame_busy {t : LineTest} {after : List Bool} (more : t.next < t.count)
    (busy : LineTest.waits { t with waited := 0 } ⟨8, none⟩ after = none) (s : State) :
    judgeTestFrame true after t s = endTest .lineBusy s :=
  testGoesOn_busy _ _ _ _ (allJudged_of_le (t := { t with next := t.next + 1, waited := 0 }) more) busy

theorem goodFrame_last {t : LineTest} (last : t.count ≤ t.next) (after : List Bool) (s : State) :
    judgeTestFrame true after t s = endTest (judgedResult t.bad) s := by
  have judged := testGoesOn_judged _ ⟨8, none⟩ after
    (s.setBus { s.bus with sending := none, rx := (runRx ⟨8, none⟩ after).1, abort := 0 })
    (allJudged_of_lt (t := { t with next := t.next + 1, waited := 0 }) (Nat.lt_succ_of_le last))
  exact judged

theorem badFrame_more {t : LineTest} {after : List Bool} {w : Nat} (more : t.next < t.count)
    (waits : LineTest.waits { t with waited := 0 } ⟨0, none⟩ after = some w) (s : State) :
    judgeTestFrame false after t s = s.setBus { s.bus with
      sending := none, rx := (runRx ⟨0, none⟩ after).1, abort := 8 - after.length
      lineTest := some { t with next := t.next + 1, bad := t.bad + 1, waited := w } } :=
  testGoesOn_waits _ _ _ _ w (allJudged_of_le (t := { t with next := t.next + 1, bad := t.bad + 1, waited := 0 }) more) waits

theorem badFrame_busy {t : LineTest} {after : List Bool} (more : t.next < t.count)
    (busy : LineTest.waits { t with waited := 0 } ⟨0, none⟩ after = none) (s : State) :
    judgeTestFrame false after t s = endTest .lineBusy s :=
  testGoesOn_busy _ _ _ _ (allJudged_of_le (t := { t with next := t.next + 1, bad := t.bad + 1, waited := 0 }) more) busy

theorem badFrame_last {t : LineTest} (last : t.count ≤ t.next) (after : List Bool) (s : State) :
    judgeTestFrame false after t s =
      if 8 - after.length = 0 then endTest (.fail (t.bad + 1)) s
      else s.setBus { s.bus with
        sending := none, rx := (runRx ⟨0, none⟩ after).1, abort := 8 - after.length
        lineTest := some { t with next := t.next + 1, bad := t.bad + 1, waited := 0 } } :=
  testGoesOn_judged _ ⟨0, none⟩ after (s.setBus (beginAbort after s.bus))
    (allJudged_of_lt (t := { t with next := t.next + 1, bad := t.bad + 1, waited := 0 }) (Nat.lt_succ_of_le last))

theorem waits_atOnce (t : LineTest) : LineTest.waits { t with waited := 0 } ⟨8, none⟩ [] = some 0 := by
  obtain ⟨mode, count, next, bad, waited⟩ := t
  cases mode <;> rfl

/-! ## The events of a line test -/

theorem exec_lineTestFrame (line : List Bool) (s : State) : exec (.lineTestFrame line) s = execLineTestFrame line s := by rfl

theorem exec_lineBusy (line : List Bool) (s : State) : exec (.lineBusy line) s = execLineBusy line s := by rfl

/-- A line test with no frame of its own on the line. -/
structure Waiting (t : LineTest) (s : State) : Prop where
  up : s.resetnLow = false
  link : s.bus.link = .lineTest
  quiet : s.bus.sending = none
  present : s.bus.lineTest = some t

theorem Waiting.lineTestFrame_internal {t : LineTest} {s : State} (h : Waiting t s) (more : t.next ≤ t.count)
    (internal : t.mode = .internal) (line : List Bool) : exec (.lineTestFrame line) s =
      .next (testFrameBits (if line.isEmpty then [] else (testFrame t.next).lineBits) t s) := by
  rw [exec_lineTestFrame]
  simp [execLineTestFrame, h.up, h.link, h.quiet, h.present, allJudged_of_le more, internal, LineTest.reads]

theorem Waiting.lineTestFrame_echo {t : LineTest} {s : State} (h : Waiting t s) (more : t.next ≤ t.count)
    (echo : t.mode = .busEcho) {line rest : List Bool} {n : Nat} {idle : Receiver}
    (reached : bitsToIdle s.bus.rx line = some (n, idle, rest)) (within : t.waited + n ≤ 1000) (sent : s.bus.abort ≤ n) :
    exec (.lineTestFrame line) s = .next (testFrameBits rest t s) := by
  rw [exec_lineTestFrame]
  simp [execLineTestFrame, h.up, h.link, h.quiet, h.present, allJudged_of_le more, echo, reached, LineTest.mayWait,
    Config.lineTestWait, within, sent]

theorem Waiting.lineTestFrame_judged {t : LineTest} {s : State} (h : Waiting t s) (judged : t.count < t.next) (line : List Bool) :
    exec (.lineTestFrame line) s =
      if t.mode = .internal ∨ s.bus.abort ≤ line.length then .next (endTest (judgedResult t.bad) s) else .next s := by
  rw [exec_lineTestFrame]
  simp [execLineTestFrame, h.up, h.link, h.quiet, h.present, allJudged_of_lt judged]

/-- A whole frame of an idle line, or of the loop, is judged good. -/
theorem Waiting.lineTestFrame_whole {t : LineTest} {s : State} (h : Waiting t s) (more : t.next ≤ t.count)
    (ready : t.mode = .internal ∨ (s.bus.rx = ⟨10, none⟩ ∧ s.bus.abort = 0 ∧ t.waited ≤ 1000)) :
    exec (.lineTestFrame (testFrame t.next).lineBits) s = .next (judgeTestFrame true [] t s) ∧
    exec (.lineTestFrame []) s = .next (testFrameOn t s) := by
  cases mode : t.mode with
  | internal =>
    rw [h.lineTestFrame_internal more mode, h.lineTestFrame_internal more mode, ← testFrameBits_whole, ← testFrameBits_nil]
    exact ⟨rfl, rfl⟩
  | busEcho =>
    obtain ⟨rx, abort, waited⟩ := ready.resolve_left (by rw [mode]; decide)
    have reached : ∀ line, bitsToIdle s.bus.rx line = some (0, s.bus.rx, line) :=
      bitsToIdle_idle ((lineIdle_iff _).2 (by rw [rx]; exact ⟨rfl, rfl⟩))
    rw [h.lineTestFrame_echo more mode (reached _) waited (by omega), h.lineTestFrame_echo more mode (reached _) waited (by omega),
      testFrameBits_whole, testFrameBits_nil]
    exact ⟨rfl, rfl⟩

theorem lineTestFrame_not_echo {t : LineTest} {s : State} {line : List Bool} (present : s.bus.lineTest = some t)
    (echo : t.mode = .busEcho) (more : t.next ≤ t.count) (fails : ∀ n idle rest, bitsToIdle s.bus.rx line = some (n, idle, rest) →
      1000 < t.waited + n ∨ n < s.bus.abort) : exec (.lineTestFrame line) s = .next s := by
  rw [exec_lineTestFrame]
  cases reached : bitsToIdle s.bus.rx line with
  | none => simp [execLineTestFrame, present, allJudged_of_le more, echo, reached]
  | some r =>
    obtain ⟨n, idle, rest⟩ := r
    have not : (t.mayWait n && decide (s.bus.abort ≤ n)) = false := by
      rw [LineTest.mayWait, Config.lineTestWait, Bool.and_eq_false_iff, decide_eq_false_iff_not, decide_eq_false_iff_not]
      have either := fails n idle rest reached
      omega
    simp [execLineTestFrame, present, allJudged_of_le more, echo, reached, not]

theorem Waiting.lineBusy_out {t : LineTest} {s : State} (h : Waiting t s) (more : t.next ≤ t.count) (echo : t.mode = .busEcho)
    {line : List Bool} (out : idleWait s.bus.rx t.waited line = none) : exec (.lineBusy line) s = .next (endTest .lineBusy s) := by
  rw [exec_lineBusy]
  simp [execLineBusy, h.up, h.link, h.quiet, h.present, allJudged_of_le more, waits_echo echo, out]

theorem lineBusy_not {t : LineTest} {s : State} {line : List Bool} (present : s.bus.lineTest = some t)
    (fails : t.count < t.next ∨ t.waits s.bus.rx line ≠ none) : exec (.lineBusy line) s = .next s := by
  rw [exec_lineBusy]
  rcases fails with judged | waits
  · simp [execLineBusy, present, allJudged_of_lt judged]
  · simp [execLineBusy, present, waits]

/-- Out of a waiting line test neither event of the wait changes anything. -/
theorem exec_not_waiting {s : State} (fails : s.resetnLow = true ∨ s.bus.link ≠ .lineTest ∨ s.bus.sending.isSome = true ∨
    s.bus.lineTest = none) (line : List Bool) : exec (.lineTestFrame line) s = .next s ∧ exec (.lineBusy line) s = .next s := by
  rw [exec_lineTestFrame, exec_lineBusy]
  rcases fails with low | other | sending | none
  · simp [execLineTestFrame, execLineBusy, low]
  · simp [execLineTestFrame, execLineBusy, other]
  · simp [execLineTestFrame, execLineBusy, Option.isNone_eq_false_iff.2 sending]
  · simp [execLineTestFrame, execLineBusy, none]

/-- A line test with its frame on the line. -/
structure Sending (t : LineTest) (s : State) : Prop where
  up : s.resetnLow = false
  sent : s.bus.sending.isSome = true
  present : s.bus.lineTest = some t

theorem Sending.frameComplete {t : LineTest} {s : State} (h : Sending t s) (after : List Bool) :
    exec (.frameComplete ((testFrame t.next).lineBits ++ after)) s =
      .next (judgeTestFrame true (if t.mode = .internal then [] else after) t s) := by
  obtain ⟨f, sending⟩ := Option.isSome_iff_exists.1 h.sent
  have good := testFrameBits_good (t := t) after s
  have whole := testFrameBits_whole (t := t) s
  have judged := judge_whole t []
  rw [List.append_nil] at judged
  rw [exec_frameComplete]
  cases mode : t.mode <;> simp [execFrameComplete, h.up, sending, h.present, LineTest.reads, mode, judge_whole, judged, good, whole]

/-- The loop of an INTERNAL test does not look at the bits (R42, log 37). -/
theorem lineTestFrame_internal {t : LineTest} {s : State} (present : s.bus.lineTest = some t) (internal : t.mode = .internal)
    {line other : List Bool} (some : line ≠ []) (others : other ≠ []) :
    exec (.lineTestFrame line) s = exec (.lineTestFrame other) s := by
  rw [exec_lineTestFrame, exec_lineTestFrame]
  simp [execLineTestFrame, present, LineTest.reads, internal, some, others]

theorem frameComplete_internal {t : LineTest} {s : State} (present : s.bus.lineTest = some t)
    (sent : s.bus.sending.isSome = true) (internal : t.mode = .internal) (line other : List Bool) :
    exec (.frameComplete line) s = exec (.frameComplete other) s := by
  obtain ⟨f, sending⟩ := Option.isSome_iff_exists.1 sent
  rw [exec_frameComplete, exec_frameComplete]
  simp [execFrameComplete, sending, present, LineTest.reads, internal]

theorem Sending.bitError {t : LineTest} {s : State} (h : Sending t s) {line : List Bool} (error : t.judge line = .bitError) :
    exec (.bitError line) s = .next (testFrameBits line t s) := by
  obtain ⟨f, sending⟩ := Option.isSome_iff_exists.1 h.sent
  rw [exec_bitError]
  simp [execBitError, h.up, sending, h.present, error]

theorem Sending.arbitrationLoss {t : LineTest} {s : State} (h : Sending t s) {line : List Bool} (lost : t.judge line = .lost) :
    exec (.arbitrationLoss line) s = .next (testFrameBits line t s) := by
  obtain ⟨f, sending⟩ := Option.isSome_iff_exists.1 h.sent
  rw [exec_arbitrationLoss]
  simp [execArbitrationLoss, h.up, sending, h.present, lost]

theorem bitError_not {t : LineTest} {s : State} (present : s.bus.lineTest = some t) {line : List Bool}
    (other : t.judge line ≠ .bitError) : exec (.bitError line) s = .next s := by
  rw [exec_bitError]
  cases sending : s.bus.sending <;> simp [execBitError, sending, present, other]

theorem arbitrationLoss_not {t : LineTest} {s : State} (present : s.bus.lineTest = some t) {line : List Bool}
    (other : t.judge line ≠ .lost) : exec (.arbitrationLoss line) s = .next s := by
  rw [exec_arbitrationLoss]
  cases sending : s.bus.sending <;> simp [execArbitrationLoss, sending, present, other]

theorem judge_not_lost {t : LineTest} (internal : t.mode = .internal) (line : List Bool) : t.judge line ≠ .lost := by
  rw [judge_internal internal]
  split
  · decide
  · assumption

theorem sending_testFrameOn {t : LineTest} {s : State} (h : Waiting t s) : Sending t (testFrameOn t s) :=
  ⟨h.up, rfl, h.present⟩

theorem lostFrame {t : LineTest} {sent rest : List TxBit} {x : TxBit} (split : (testFrame t.next).txBits = sent ++ x :: rest)
    (recessive : x.level = true) (after : List Bool) (s : State) :
    testFrameLost (sent.map TxBit.level ++ false :: after)
      (afterDifference (testFrame t.next).txBits (sent.map TxBit.level ++ false :: after)) t s =
    testGoesOn { t with waited := 0 } (runRx ⟨10, none⟩ (sent.map TxBit.level ++ [false])).1 after (s.setBus { s.bus with
      sending := none, rx := (runRx ⟨10, none⟩ (sent.map TxBit.level ++ false :: after)).1, abort := 0 }) := by
  have behind := after_error split after
  rw [recessive] at behind
  have part : (sent.map TxBit.level ++ false :: after).take ((sent.map TxBit.level ++ false :: after).length - after.length) =
      sent.map TxBit.level ++ [false] := by
    rw [List.append_cons, List.length_append, Nat.add_sub_cancel, List.take_left]
  rw [show (!true) = false from rfl] at behind
  rw [testFrameLost, behind, part]

/-- Settles O15: the command by its checks, a frame by its judgement, the wait by the bits up to an idle line. -/
theorem lineTestRuns : Obligations.LineTestRuns := by
  refine ⟨fun s mode count m config timing known low high => ?_, fun s mode count stage => ?_, fun s mode count config empty => ?_,
    fun s mode count config timing bad => ?_, fun s t up link quiet present ready => ?_, fun s t up link sent present => ?_,
    fun s t after up sent present echo more => ⟨fun w wait => ?_, fun busy => ?_⟩, fun s t after up sent present last => ?_,
    fun s on t n idle line rest up link quiet present echo more reached within gone isOn => ?_,
    fun s t line present echo more => ⟨fun none => ?_, fun n idle rest reached fails => ?_⟩,
    fun s t line present internal some => ⟨?_, fun sent => ?_⟩, fun s line fails => exec_not_waiting fails line,
    fun s t line present => ⟨fun judged => lineBusy_not present (.inl judged), bitError_not present, arbitrationLoss_not present⟩,
    fun t line => ⟨fun echo => judge_echo echo line, fun internal => judge_internal internal line⟩,
    fun s t sent rest x after up sending present split judged => ?_,
    fun s t line up link quiet present judged => ⟨fun ends => ?_, fun echo short => ?_⟩,
    fun s t sent rest x after up sending present echo more split marked recessive => ⟨fun w wait => ?_, fun busy => ?_⟩,
    fun s t line present internal => arbitrationLoss_not present (judge_not_lost internal line),
    fun s t line up link quiet present echo more long none => ?_, fun s t line up link quiet present echo more out => ?_,
    fun s t line present fails => ?_,
    fun t rx line => ⟨fun internal => waits_internal internal rx line, fun echo => waits_echo echo rx line⟩,
    fun rx w line => ⟨idleWait_grows, idleWait_out⟩,
    fun rx idle w n line within => ⟨fun reached => idleWait_idles within reached, fun b more reached => idleWait_idles within reached⟩,
    fun rx line noFrame ten => bitsToIdle_idle ((lineIdle_iff rx).2 ⟨noFrame, ten⟩) line, fun rx b line busy => ?_, testModeOfCode_eq⟩
  · rw [exec_lineTest, take_eq_answered (t := beginTest m count.toNat s) config.1
      (lineTestBody_accepted (s := s.setResponse none) (running_of_configurable config) (timing_held timing) known low high)]
    rfl
  · rw [exec_lineTest, take_eq_answered stage.1 (lineTestBody_running (s := s.setResponse none) (running_of_onStage stage) mode count)]
  · rw [exec_lineTest, take_eq_answered config.1
      (lineTestBody_order (s := s.setResponse none) (running_of_configurable config) ((held_eq_zero_iff _).2 empty) mode count)]
  · rw [exec_lineTest, take_eq_answered config.1
      (lineTestBody_range (s := s.setResponse none) (running_of_configurable config) (timing_held timing) bad)]
  · have waiting : Waiting t s := ⟨up, link, quiet, present⟩
    refine ⟨fun more => ?_, fun last => ?_, fun more => ?_⟩
    · rw [(waiting.lineTestFrame_whole (by omega) ready).1, goodFrame_more more (waits_atOnce t)]
      rfl
    · rw [(waiting.lineTestFrame_whole (by omega) ready).1, goodFrame_last (by omega)]
      rfl
    · exact (waiting.lineTestFrame_whole more ready).2
  · have complete := Sending.frameComplete ⟨up, sent, present⟩ []
    rw [List.append_nil, ite_self] at complete
    refine ⟨fun more => ?_, fun last => ?_⟩
    · rw [complete, goodFrame_more more (waits_atOnce t)]
      rfl
    · rw [complete, goodFrame_last (by omega)]
      rfl
  · rw [Sending.frameComplete ⟨up, sent, present⟩, if_neg (by rw [echo]; decide),
      goodFrame_more more ((waits_echo (t := { t with waited := 0 }) echo _ _).trans wait)]
  · rw [Sending.frameComplete ⟨up, sent, present⟩, if_neg (by rw [echo]; decide),
      goodFrame_busy more ((waits_echo (t := { t with waited := 0 }) echo _ _).trans busy)]
    rfl
  · rw [Sending.frameComplete ⟨up, sent, present⟩, goodFrame_last (by omega)]
    rfl
  · have waiting : Waiting t s := ⟨up, link, quiet, present⟩
    have isOn : on = testFrameOn t s := isOn
    subst isOn
    have sending := sending_testFrameOn waiting
    have run := waiting.lineTestFrame_echo more echo reached within gone
    refine ⟨fun none => ?_, fun after whole => ?_, fun sent later x after split differs => ⟨fun apart => ?_, fun marked recessive => ?_⟩,
      fun sent later x split some part => ?_⟩
    · rw [run, none, testFrameBits_nil]
    · rw [run, whole, sending.frameComplete, if_neg (by rw [echo]; decide), testFrameBits_good, judgeTestFrame_on]
    · have error : t.judge rest = .bitError := differs ▸ judge_error split (.inr apart) after
      rw [run, sending.bitError error, testFrameBits_bad error, testFrameBits_bad error, judgeTestFrame_on]
    · have lost : t.judge rest = .lost := differs ▸ judge_lost echo split marked recessive after
      rw [run, sending.arbitrationLoss lost, testFrameBits_lost lost, testFrameBits_lost lost, testFrameLost_on]
    · rw [run, part, testFrameBits_part echo split some]
  · refine lineTestFrame_not_echo present echo more fun n idle rest reached => ?_
    rw [none] at reached
    cases reached
  · refine lineTestFrame_not_echo present echo more fun n' idle' rest' other => ?_
    rw [reached] at other
    cases other
    exact fails
  · exact lineTestFrame_internal present internal some (List.cons_ne_nil _ _)
  · exact frameComplete_internal present sent internal _ _
  · have sendingTest : Sending t s := ⟨up, sending, present⟩
    have error := judge_error split judged after
    have run := sendingTest.bitError error
    rw [testFrameBits_bad error, after_error split] at run
    refine ⟨fun w more wait => ?_, fun more busy => ?_, fun last short => ?_, fun last long => ?_⟩
    · rw [run, badFrame_more more wait]
    · rw [run, badFrame_busy more busy]
      rfl
    · rw [run, badFrame_last last, if_neg (by omega)]
    · rw [run, badFrame_last last, if_pos (by omega)]
      rfl
  · rw [Waiting.lineTestFrame_judged ⟨up, link, quiet, present⟩ judged, if_pos ends]
    rfl
  · rw [Waiting.lineTestFrame_judged ⟨up, link, quiet, present⟩ judged, if_neg]
    rintro (internal | long)
    · rw [internal] at echo
      cases echo
    · omega
  · have lost := judge_lost echo split marked recessive after
    rw [recessive, show (!true) = false from rfl] at lost
    rw [Sending.arbitrationLoss ⟨up, sending, present⟩ lost, testFrameBits_lost lost, lostFrame split recessive,
      testGoesOn_waits _ _ _ _ w (allJudged_of_le (t := { t with waited := 0 }) more) ((waits_echo (t := { t with waited := 0 }) echo _ _).trans wait)]
    rfl
  · have lost := judge_lost echo split marked recessive after
    rw [recessive, show (!true) = false from rfl] at lost
    rw [Sending.arbitrationLoss ⟨up, sending, present⟩ lost, testFrameBits_lost lost, lostFrame split recessive,
      testGoesOn_busy _ _ _ _ (allJudged_of_le (t := { t with waited := 0 }) more) ((waits_echo (t := { t with waited := 0 }) echo _ _).trans busy)]
    rfl
  · rw [Waiting.lineBusy_out ⟨up, link, quiet, present⟩ more echo (idleWait_out long none), endTest_eq]
  · rw [Waiting.lineBusy_out ⟨up, link, quiet, present⟩ more echo out, endTest_eq]
  · refine lineBusy_not present (.inr ?_)
    rcases fails with internal | wait
    · rw [waits_internal internal]
      nofun
    · cases mode : t.mode with
      | internal =>
        rw [waits_internal mode]
        nofun
      | busEcho => rwa [waits_echo mode]
  · have not : rx.lineIdle = false := by
      rw [Bool.eq_false_iff, Ne, lineIdle_iff]
      exact fun idle => busy.elim (fun framed => framed idle.1) fun apart => apart idle.2
    exact ⟨bitsToIdle_nil not, bitsToIdle_cons not b line⟩

end Sys2Proof.Machine
